-- ==== Sys2Proof/Word.lean ====
section
/-! DEFINITION. The word types of the BC816: bytes, two-byte and four-byte fields, and the names of the two line ends. -/

namespace Sys2Proof

/-- A byte of a line frame, a command block or a status block. -/
abbrev Byte := BitVec 8

/-- A two-byte field: service address, revision, view number. -/
abbrev Half := BitVec 16

/-- A four-byte field: identity, epoch, digest, CRC. -/
abbrev Word := BitVec 32

/-- A car identity; 00000000h and FFFFFFFFh name no car (R39, R46, R71). -/
abbrev Ident := Word

/-- A roll-call epoch, compared as an unsigned number (R29). -/
abbrev Epoch := Word

/-- The name of a function: 1 to 16 bytes, each 21h to 7Eh (R74). -/
abbrev Tag := List Byte

/-- The two line ends of a part, and the two ends of its car. -/
inductive LineEnd where
  | a
  | b
  deriving DecidableEq, Repr

/-- The line end that is not this one. -/
def LineEnd.other : LineEnd → LineEnd
  | .a => .b
  | .b => .a

end Sys2Proof
end

