-- ==== Sys2Proof/Config.lean ====
section
/-! DEFINITION. The figures the manual fixes for the BC816 (timer periods, queue and table limits, product codes), and the free
values: orders and choices that the manual leaves open, each an opaque constant that no proof can see into. -/

namespace Sys2Proof.Config

/-- Relay transfer after the bypass is released, in milliseconds (R3). -/
abbrev releaseMs : Nat := 15
/-- Continuous contact closure before framing is attempted (R4). -/
abbrev settleMs : Nat := 50
/-- Time allowed without a valid frame while framed (R9, R10). -/
abbrev lossMs : Nat := 35
/-- Interval between beacons (R12). -/
abbrev beaconMs : Nat := 10
/-- Period of the flap count leak (R23). -/
abbrev leakMs : Nat := 2000
/-- Roll timer of a fast attempt (R31, R50). -/
abbrev rollFastMs : Nat := 250
/-- Roll timer of a slow retry (R51, R52). -/
abbrev rollSlowMs : Nat := 2000
/-- Debounce of the cab-active input (R60). -/
abbrev debounceMs : Nat := 20
/-- Refresh window after an adoption (R97). -/
abbrev refreshMs : Nat := 500
/-- Wait for an ANSWER to one attempt of a query (R126, R147). -/
abbrev queryMs : Nat := 60
/-- Wait for a CHANGE_REPLY to one attempt of a change request (R112). -/
abbrev changeMs : Nat := 60

/-- Frames a control queue holds at most (R17). -/
abbrev ctrlQueueMax : Nat := 4
/-- Frames a directory queue holds at most (R17). -/
abbrev dirQueueMax : Nat := 24
/-- Directory queue occupancy up to which the republish burst offers a frame (R105). -/
abbrev burstOccupancy : Nat := 8
/-- Valid frames in a row that lock an end (R9). -/
abbrev lockFrames : Nat := 3
/-- The flap count does not rise above this (R23). -/
abbrev flapMax : Nat := 8
/-- The flap count at which a flap fault is reported (R23). -/
abbrev flapFault : Nat := 5
/-- Cars a consist holds at most (R41, R54). -/
abbrev maxCars : Nat := 16
/-- Fast attempts before DEGRADED (R50). -/
abbrev fastAttempts : Nat := 3
/-- Home records at most (R75). -/
abbrev maxHome : Nat := 32
/-- Record slots of the directory (R75). -/
abbrev maxRecords : Nat := 256
/-- Binding handles (R135). -/
abbrev maxHandles : Nat := 32
/-- Bytes a receive buffer keeps (R154). -/
abbrev rxBufferMax : Nat := 516
/-- Parameter bytes a command block carries at most (R156). -/
abbrev maxParams : Nat := 512
/-- Payload bytes a line frame carries at most (R8). -/
abbrev maxPayload : Nat := 240

/-- The product code that GET_INFO gives (R181). -/
abbrev productCode : Half := 0x0816#16
/-- The revision code that GET_INFO gives (R181). -/
abbrev revisionCode : Byte := 0x01#8

/-- FREE VALUE (log entry 8). Where the manual says that two things done in one step may be done in either order, and the order
can be told from the state, this chooses: `true` takes the order the rule names second. The argument is the state's count of such
choices, so that each is made afresh. -/
opaque freeOrder : Nat → Bool

/-- FREE VALUE (log entries 9 and 14). A choice of one among several where the manual gives no rule: which of several record bodies
with one key in one ANSWER the Resolver takes, and which removal at the end of the refresh window is reported next. -/
opaque freePick : Nat → Nat

end Sys2Proof.Config
end

