-- ==== Sys2Proof/Syntax.lean ====
section
/-! DEFINITION. The line frames of the inter-car link and the commands of the block: one constructor of `Instr` per row of
spec/opcode_table.json, with the row's operands. Values that a receiving block checks for itself (side, state and cab codes) are
kept as the raw bytes the frame carries. -/

namespace Sys2Proof

/-- The header fields common to all line frames (Line frames, Common header); kind and payload length follow from the payload. -/
structure Header where
  epoch : Epoch
  src : Ident
  dst : Byte
  srcIdx : Byte
  deriving DecidableEq, Repr

/-- A record body as a PUBLISH or ANSWER carries it (Payloads); the tag and attribute lengths are those of the lists. -/
structure RecordBody where
  tag : Tag
  side : Byte
  state : Byte
  addr : Half
  rev : Half
  perm : Byte
  attrs : List Byte
  deriving DecidableEq, Repr

/-- One entry of a ROLL or a ROSTER: identity, toward-origin end (ROLL) or facing (ROSTER), active cab end (Payloads). -/
structure CarEntry where
  ident : Ident
  face : Byte
  cab : Byte
  deriving DecidableEq, Repr

/-- The payload of a line frame, by kind (Payloads). -/
inductive Payload where
  | beacon (senderEnd flags : Byte) (ea digest : Word)
  | call
  | roll (entries : List CarEntry)
  | roster (entries : List CarEntry)
  | steer (cab : Byte)
  | publish (body : RecordBody)
  | withdraw (tag : Tag) (side : Byte)
  | query (id : Byte) (tag : Tag)
  | answer (id : Byte) (bodies : List RecordBody)
  | changeReq (id : Byte) (tag : Tag) (side desired : Byte)
  | changeReply (id outcome : Byte) (rev : Half)
  deriving DecidableEq, Repr

/-- A line frame without its delimiter and CRC. -/
structure Frame where
  hdr : Header
  payload : Payload
  deriving DecidableEq, Repr

/-- The commands of the BC816: its operations and events, each whole and indivisible. -/
inductive Instr where
  /-- POWER_ON (R180). -/
  | powerOn
  /-- PORT_RESET (R161): the port reset input is asserted. -/
  | portReset
  /-- CONTACT_CLOSE (R4, R6): the coupler contact at this end closes. -/
  | contactClose (e : LineEnd)
  /-- CONTACT_OPEN (R4, R5): the coupler contact at this end opens. -/
  | contactOpen (e : LineEnd)
  /-- CAB_INPUT_CHANGE (R60): the cab-active input takes this level. -/
  | cabInputChange (active : Bool)
  /-- DEBOUNCE_TIMER_EXPIRY (R60). -/
  | debounceTimerExpiry
  /-- RELEASE_TIMER_EXPIRY (R3). -/
  | releaseTimerExpiry (e : LineEnd)
  /-- SETTLE_TIMER_EXPIRY (R4). -/
  | settleTimerExpiry (e : LineEnd)
  /-- LOSS_TIMER_EXPIRY (R10). -/
  | lossTimerExpiry (e : LineEnd)
  /-- BEACON_TIMER_EXPIRY (R12). -/
  | beaconTimerExpiry (e : LineEnd)
  /-- LEAK_TIMER_EXPIRY (R23). -/
  | leakTimerExpiry (e : LineEnd)
  /-- ROLL_TIMER_EXPIRY (R50, R52). -/
  | rollTimerExpiry
  /-- REFRESH_WINDOW_EXPIRY (R97). -/
  | refreshWindowExpiry
  /-- CHANGE_REQUEST_TIMER_EXPIRY (R112). -/
  | changeRequestTimerExpiry
  /-- QUERY_TIMER_EXPIRY (R127). -/
  | queryTimerExpiry
  /-- BACKGROUND_QUERY_TIMER_EXPIRY (R148). -/
  | backgroundQueryTimerExpiry
  /-- FRAME_TRANSMIT_START (R18): the transmitter of this end is free and takes its next frame. -/
  | frameTransmitStart (e : LineEnd)
  /-- INVALID_FRAME (R8): a frame received on this end fails a validity check. -/
  | invalidFrame (e : LineEnd)
  /-- BEACON (R14): received on end `e`. -/
  | beacon (e : LineEnd) (hdr : Header) (senderEnd flags : Byte) (ea digest : Word)
  /-- CALL (R36): received on end `e`. -/
  | call (e : LineEnd) (hdr : Header)
  /-- ROLL (R39): received on end `e`. -/
  | roll (e : LineEnd) (hdr : Header) (entries : List CarEntry)
  /-- ROSTER (R45): received on end `e`. -/
  | roster (e : LineEnd) (hdr : Header) (entries : List CarEntry)
  /-- STEER (R65): received on end `e`. -/
  | steer (e : LineEnd) (hdr : Header) (cab : Byte)
  /-- PUBLISH (R101): received on end `e`. -/
  | publish (e : LineEnd) (hdr : Header) (body : RecordBody)
  /-- WITHDRAW (R91, R101): received on end `e`. -/
  | withdraw (e : LineEnd) (hdr : Header) (tag : Tag) (side : Byte)
  /-- QUERY (R102, R108): received on end `e`. -/
  | query (e : LineEnd) (hdr : Header) (id : Byte) (tag : Tag)
  /-- ANSWER (R102, R109): received on end `e`. -/
  | answer (e : LineEnd) (hdr : Header) (id : Byte) (bodies : List RecordBody)
  /-- CHANGE_REQ (R102, R115): received on end `e`. -/
  | changeReq (e : LineEnd) (hdr : Header) (id : Byte) (tag : Tag) (side desired : Byte)
  /-- CHANGE_REPLY (R102, R113): received on end `e`. -/
  | changeReply (e : LineEnd) (hdr : Header) (id outcome : Byte) (rev : Half)
  /-- WRITE_TRANSACTION (R154): select is released after a write that carried these whole bytes after its access byte. -/
  | writeTransaction (bytes : List Byte)
  /-- IDENTIFY (R177): the host writes a command block of this command with this tag and these parameter bytes. -/
  | identify (tag : Byte) (params : List Byte)
  /-- GET_INFO (R181): the host writes a command block of this command with this tag and these parameter bytes. -/
  | getInfo (tag : Byte) (params : List Byte)
  /-- SLEEP (R178): the host writes a command block of this command with this tag and these parameter bytes. -/
  | sleep (tag : Byte) (params : List Byte)
  /-- PART_RESET (R162, R180): the host writes a command block of this command with this tag and these parameter bytes. -/
  | partReset (tag : Byte) (params : List Byte)
  /-- LINE_STATUS (R27): the host writes a command block of this command with this tag and these parameter bytes. -/
  | lineStatus (tag : Byte) (params : List Byte)
  /-- LINE_ISOLATE (R24): the host writes a command block of this command with this tag and these parameter bytes. -/
  | lineIsolate (tag : Byte) (params : List Byte)
  /-- LINE_RESTORE (R26): the host writes a command block of this command with this tag and these parameter bytes. -/
  | lineRestore (tag : Byte) (params : List Byte)
  /-- LINE_UNBAR (R22): the host writes a command block of this command with this tag and these parameter bytes. -/
  | lineUnbar (tag : Byte) (params : List Byte)
  /-- CONSIST_READ (R73): the host writes a command block of this command with this tag and these parameter bytes. -/
  | consistRead (tag : Byte) (params : List Byte)
  /-- ROLL_CALL (R34): the host writes a command block of this command with this tag and these parameter bytes. -/
  | rollCall (tag : Byte) (params : List Byte)
  /-- RECORD_OFFER (R79, R80): the host writes a command block of this command with this tag and these parameter bytes. -/
  | recordOffer (tag : Byte) (params : List Byte)
  /-- RECORD_UPDATE (R82): the host writes a command block of this command with this tag and these parameter bytes. -/
  | recordUpdate (tag : Byte) (params : List Byte)
  /-- RECORD_WITHDRAW (R83): the host writes a command block of this command with this tag and these parameter bytes. -/
  | recordWithdraw (tag : Byte) (params : List Byte)
  /-- RECORD_LIST (R84): the host writes a command block of this command with this tag and these parameter bytes. -/
  | recordList (tag : Byte) (params : List Byte)
  /-- REQUEST_STATE (R110): the host writes a command block of this command with this tag and these parameter bytes. -/
  | requestState (tag : Byte) (params : List Byte)
  /-- LOOKUP (R118): the host writes a command block of this command with this tag and these parameter bytes. -/
  | lookup (tag : Byte) (params : List Byte)
  /-- INTEREST_ADD (R94): the host writes a command block of this command with this tag and these parameter bytes. -/
  | interestAdd (tag : Byte) (params : List Byte)
  /-- INTEREST_CLEAR (R95): the host writes a command block of this command with this tag and these parameter bytes. -/
  | interestClear (tag : Byte) (params : List Byte)
  /-- INTEREST_ALL (R95): the host writes a command block of this command with this tag and these parameter bytes. -/
  | interestAll (tag : Byte) (params : List Byte)
  /-- BIND (R137): the host writes a command block of this command with this tag and these parameter bytes. -/
  | bind (tag : Byte) (params : List Byte)
  /-- UNBIND (R140): the host writes a command block of this command with this tag and these parameter bytes. -/
  | unbind (tag : Byte) (params : List Byte)
  /-- BINDING_GET (R141): the host writes a command block of this command with this tag and these parameter bytes. -/
  | bindingGet (tag : Byte) (params : List Byte)
  /-- BINDING_SCAN (R142): the host writes a command block of this command with this tag and these parameter bytes. -/
  | bindingScan (tag : Byte) (params : List Byte)
  /-- EVENT_READ (R168): the host writes a command block of this command with this tag and these parameter bytes. -/
  | eventRead (tag : Byte) (params : List Byte)
  /-- EVENT_MASK (R166): the host writes a command block of this command with this tag and these parameter bytes. -/
  | eventMask (tag : Byte) (params : List Byte)
  /-- VIEW_ACK (R170): the host writes a command block of this command with this tag and these parameter bytes. -/
  | viewAck (tag : Byte) (params : List Byte)
  /-- DISPOSITION_SET (R173): the host writes a command block of this command with this tag and these parameter bytes. -/
  | dispositionSet (tag : Byte) (params : List Byte)
  /-- PORT_RESET_RELEASE (R161): the port reset input is deasserted. -/
  | portResetRelease
  deriving DecidableEq, Repr

end Sys2Proof
end

