-- ==== Sys2Proof/Decode.lean ====
section
/-! DEFINITION. The words of spec/opcode_table.json. The table gives none of its rows any bits: the block takes commands, not
instruction words. A word therefore spells no command. (Line frames have an encoding of their own, in Machine/Frames.lean.) -/

namespace Sys2Proof

/-- The command a word spells by the bits of spec/opcode_table.json: none, because no row of the table has bits. -/
def decodeTableWord (_nbits _w : Nat) : Option Instr :=
  none

end Sys2Proof
end

