-- ==== Sys2Proof/Machine/Crc.lean ====
section
/-! DEFINITION. The one CRC of the part (Introduction, The CRC), used for the frame check, the roster digest and the hash of
record tags, and the byte orders in which fields are carried. -/

namespace Sys2Proof

/-- One bit of the CRC: generator 04C11DB7h in its reflected form EDB88320h. -/
def crcBit (r : Word) : Word :=
  if r.getLsbD 0 then (r >>> 1) ^^^ 0xEDB88320#32 else r >>> 1

/-- One byte of the CRC, least significant bit first. -/
def crcByte (r : Word) (b : Byte) : Word :=
  crcBit (crcBit (crcBit (crcBit (crcBit (crcBit (crcBit (crcBit (r ^^^ b.setWidth 32))))))))

/-- The CRC over a run of bytes: initial register FFFFFFFFh, the register inverted at the end. -/
def crc (bs : List Byte) : Word :=
  ~~~ (bs.foldl crcByte 0xFFFFFFFF#32)

/-- A two-byte field, most significant byte first (Conventions). -/
def be16 (h : Half) : List Byte :=
  [(h >>> 8).setWidth 8, h.setWidth 8]

/-- A four-byte field, most significant byte first (Conventions). -/
def be32 (w : Word) : List Byte :=
  [(w >>> 24).setWidth 8, (w >>> 16).setWidth 8, (w >>> 8).setWidth 8, w.setWidth 8]

/-- The frame CRC as it is sent, least significant byte first (R7). -/
def le32 (w : Word) : List Byte :=
  [w.setWidth 8, (w >>> 8).setWidth 8, (w >>> 16).setWidth 8, (w >>> 24).setWidth 8]

/-- The two-byte field whose bytes are these, most significant first. -/
def half (hi lo : Byte) : Half :=
  hi ++ lo

/-- The four-byte field whose bytes are these, most significant first. -/
def word (b3 b2 b1 b0 : Byte) : Word :=
  b3 ++ b2 ++ b1 ++ b0

/-- A count as one byte. -/
def byteOf (n : Nat) : Byte :=
  BitVec.ofNat 8 n

/-- A count as two bytes, most significant first. -/
def be16Of (n : Nat) : List Byte :=
  be16 (BitVec.ofNat 16 n)

/-- A flag or level as one byte: 00h clear, 01h set (Codes used in blocks, Flags and levels). -/
def byteOfBool (b : Bool) : Byte :=
  if b then 1#8 else 0#8

/-- A tag byte lies between 21h and 7Eh (R74, R86). -/
def tagByteOk (b : Byte) : Bool :=
  decide (0x21#8 ≤ b) && decide (b ≤ 0x7E#8)

/-- The bucket index of a tag: the lowest six bits of the CRC over its bytes (R76). -/
def bucketIndex (t : Tag) : Nat :=
  (crc t).toNat % 64

/-- The filter index of a tag: the highest six bits of the CRC over its bytes (R94). -/
def filterIndex (t : Tag) : Nat :=
  (crc t).toNat / 2 ^ 26

end Sys2Proof
end

