-- ==== Sys2Proof/Machine/State.lean ====
section
/-! DEFINITION. The state of the BC816 as plain data, block by block as the manual holds it, and the state right after power-on. -/

namespace Sys2Proof.Machine

/-- A timer: stopped, or running with the period in milliseconds that it was last started at. -/
inductive Timer where
  | stopped
  | running (ms : Nat)
  deriving DecidableEq, Repr

/-- Active cab end of a car, or configured cab end (R58, R61, R175). -/
inductive CabEnd where
  | a
  | b
  | none
  deriving DecidableEq, Repr

/-- The side of the owner's car that a record serves (R68, R74). -/
inductive Side where
  | s1
  | s2
  | both
  | none
  deriving DecidableEq, Repr

/-- A side of the train (R68). -/
inductive TrainSide where
  | left
  | right
  | both
  | none
  deriving DecidableEq, Repr

/-- The state of a function record (R74). -/
inductive RecState where
  | offered
  | suspended
  deriving DecidableEq, Repr

/-- Whether another car may change a record's state (R115). -/
inductive Permission where
  | allowed
  | denied
  deriving DecidableEq, Repr

/-- Whether a mirror has been confirmed by its owner since the last adoption (R85). -/
inductive Freshness where
  | current
  | stale
  deriving DecidableEq, Repr

/-- Where an answer was found (R132). -/
inductive Source where
  | home
  | mirror
  deriving DecidableEq, Repr

/-- The seven end states (The state of a line end). -/
inductive EndState where
  | bypassed
  | opened
  | settling
  | hunting
  | locked
  | barred
  | isolated
  deriving DecidableEq, Repr

/-- The four consist states (Consist state and epochs). -/
inductive ConsistState where
  | unformed
  | formed
  | rolling
  | degraded
  deriving DecidableEq, Repr

/-- The direction of the train relative to the roster (R58). -/
inductive Direction where
  | ref
  | far
  deriving DecidableEq, Repr

/-- The part states (R175). -/
inductive PartState where
  | unidentified
  | ready
  | dormant
  deriving DecidableEq, Repr

/-- A start cause or wake cause (R174, R175, R179). -/
inductive Cause where
  | powerOn
  | partReset
  | contactA
  | contactB
  | command
  deriving DecidableEq, Repr

/-- What a neighbour last announced on an end (R14). -/
structure Neighbour where
  ident : Ident
  senderEnd : LineEnd
  ea : Epoch
  digest : Word
  consist : ConsistState
  barred : Bool
  deriving DecidableEq, Repr

/-- A frame waiting in a control queue. A BEACON's contents are taken when it is sent, not when it is queued (R13). -/
inductive CtrlItem where
  | beacon
  | frame (f : Frame)
  deriving DecidableEq, Repr

/-- One line end (The state of a line end), with its contact sense input and the frame whose transmission has begun. -/
structure LineEndSt where
  state : EndState
  contact : Bool
  isolated : Bool
  barFlag : Bool
  lockCount : Nat
  neighbour : Option Neighbour
  flap : Nat
  ctrlQ : List CtrlItem
  dirQ : List Frame
  sending : Option Frame
  releaseT : Timer
  settleT : Timer
  lossT : Timer
  beaconT : Timer
  leakT : Timer
  deriving DecidableEq, Repr

/-- The Roll-Call Engine (Consist state and epochs). -/
structure RollCall where
  epoch : Epoch
  state : ConsistState
  attempts : Nat
  timer : Timer
  lastOrig : Epoch
  deriving DecidableEq, Repr

/-- One car of the adopted roster (What the table holds). -/
structure RosterEntry where
  ident : Ident
  facing : LineEnd
  cab : CabEnd
  deriving DecidableEq, Repr

/-- The Consist Table (What the table holds), with the cab-active input. N is the length of the roster. -/
structure ConsistTable where
  roster : List RosterEntry
  ea : Epoch
  digest : Word
  ownIdx : Nat
  dir : Direction
  conflict : Bool
  view : Half
  cabInput : Bool
  cabLevel : Bool
  debounceT : Timer
  deriving DecidableEq, Repr

/-- The fields of a function record other than its owner (The record). -/
structure Rec where
  tag : Tag
  side : Side
  state : RecState
  addr : Half
  rev : Half
  perm : Permission
  attrs : List Byte
  deriving DecidableEq, Repr

/-- A copy of a record owned by another car (The record). -/
structure Mirror where
  owner : Ident
  body : Rec
  fresh : Freshness
  pins : Nat
  deriving DecidableEq, Repr

/-- The Function Directory. `home` is the home list in order of offer (R75); `mirrors` is the use order, least recently used first
(R85). Slots and bucket chains are read off these two lists (log entry 21). -/
structure Directory where
  home : List Rec
  mirrors : List Mirror
  interest : Vector Bool 64
  allMode : Bool
  refreshT : Timer
  deriving DecidableEq, Repr

/-- The outstanding change request (State of the unit). -/
structure ChangeRequest where
  id : Byte
  owner : Ident
  index : Nat
  tag : Tag
  side : Side
  desired : RecState
  attempt : Nat
  deriving DecidableEq, Repr

/-- The outcome of a decided change request (R115). -/
inductive ChangeOutcome where
  | accepted
  | refused
  | noRecord
  deriving DecidableEq, Repr

/-- The last CHANGE_REQ answered for one requesting car, with its reply (R116). -/
structure ReplyEntry where
  requester : Ident
  id : Byte
  tag : Tag
  side : Side
  desired : RecState
  outcome : ChangeOutcome
  rev : Half
  deriving DecidableEq, Repr

/-- The Directory Traffic unit (State of the unit). The remainder names home records by tag and side. -/
structure Traffic where
  burst : Bool
  remainder : List (Tag × Side)
  change : Option ChangeRequest
  changeT : Timer
  reqId : Byte
  queryId : Byte
  replies : List ReplyEntry
  deriving DecidableEq, Repr

/-- The side filter of a LOOKUP or BIND (R118). -/
inductive SideFilter where
  | left
  | right
  | any
  deriving DecidableEq, Repr

/-- The selector of a LOOKUP or BIND (R71, R118). -/
inductive Selector where
  | front (k : Nat)
  | rear (k : Nat)
  | self
  | car (ident : Ident)
  | nearest
  deriving DecidableEq, Repr

/-- The question of a LOOKUP or BIND (R118). -/
structure Question where
  tag : Tag
  filter : SideFilter
  sel : Selector
  deriving DecidableEq, Repr

/-- The foreground query (The Resolver's state). -/
structure ForegroundQuery where
  id : Byte
  target : Ident
  index : Nat
  tag : Tag
  filter : SideFilter
  attempt : Nat
  deriving DecidableEq, Repr

/-- The Resolver (The Resolver's state). -/
structure Resolver where
  query : Option ForegroundQuery
  timer : Timer
  deriving DecidableEq, Repr

/-- The answer of a RESOLVED binding (The binding table). -/
structure Answer where
  source : Source
  owner : Ident
  carSide : Side
  trainSide : TrainSide
  position : Nat
  index : Nat
  addr : Half
  state : RecState
  rev : Half
  deriving DecidableEq, Repr

/-- Why a binding has no answer (The binding table). -/
inductive Reason where
  | noRecord
  | notPresent
  | noConsist
  | noAnswer
  deriving DecidableEq, Repr

/-- State, answer and reason of a binding, held together as R136 says: an answer exactly when RESOLVED, a reason exactly when
UNRESOLVED. -/
inductive BindState where
  | resolved (a : Answer)
  | unresolved (r : Reason)
  | pending
  deriving DecidableEq, Repr

/-- A binding (The binding table). -/
structure Binding where
  question : Question
  st : BindState
  stale : Bool
  changed : Bool
  deriving DecidableEq, Repr

/-- A handle: free, reserved for the BIND in flight (whose question it keeps), or holding a binding (The binding table). -/
inductive HandleSlot where
  | free
  | reserved (q : Question)
  | held (b : Binding)
  deriving DecidableEq, Repr

/-- The background query. `slot` is the handle less 1; it is the background query cursor. -/
structure BackgroundQuery where
  slot : Nat
  id : Byte
  target : Ident
  index : Nat
  attempt : Nat
  deriving DecidableEq, Repr

/-- The Binding Table. Handle h stands at place h - 1. -/
structure BindingTable where
  handles : Vector HandleSlot 32
  query : Option BackgroundQuery
  timer : Timer
  deriving DecidableEq, Repr

/-- The port states (State of the Car Port). -/
inductive PortState where
  | empty
  | inFlight
  | ready
  deriving DecidableEq, Repr

/-- The blocks that own commands (The blocks; Command summary). -/
inductive Block where
  | lineEnds
  | rollCall
  | consistTable
  | directory
  | traffic
  | resolver
  | bindings
  | carPort
  | attention
  | control
  deriving DecidableEq, Repr

/-- The commands of the command summary (The Car Port). -/
inductive Cmd where
  | identify
  | getInfo
  | sleep
  | partReset
  | lineStatus
  | lineIsolate
  | lineRestore
  | lineUnbar
  | consistRead
  | rollCall
  | recordOffer
  | recordUpdate
  | recordWithdraw
  | recordList
  | requestState
  | lookup
  | interestAdd
  | interestClear
  | interestAll
  | bind
  | unbind
  | bindingGet
  | bindingScan
  | eventRead
  | eventMask
  | viewAck
  | dispositionSet
  deriving DecidableEq, Repr

/-- The command taken and not yet completed: its code, its tag and its owner block (State of the Car Port). -/
structure InFlight where
  code : Byte
  tag : Byte
  owner : Block
  deriving DecidableEq, Repr

/-- The statuses (Status codes). -/
inductive Status where
  | success
  | invalidParam
  | stateError
  | noSpace
  | notFound
  | unknownCommand
  | protocolError
  | found
  | noRecord
  | notPresent
  | noAnswer
  | noConsist
  | consistChanged
  | accepted
  | refused
  deriving DecidableEq, Repr

/-- A status block (The status block); the data length is the length of the data. -/
structure StatusBlock where
  status : Status
  tag : Byte
  view : Half
  attention : Bool
  overrun : Bool
  stale : Bool
  consist : ConsistState
  data : List Byte
  deriving DecidableEq, Repr

/-- The Car Port (State of the Car Port), with the port reset input. -/
structure CarPort where
  state : PortState
  rxBuffer : List Byte
  inFlight : Option InFlight
  status : Option StatusBlock
  overrun : Bool
  resetInput : Bool
  deriving DecidableEq, Repr

/-- The nine event kinds (State of the Attention Unit). -/
inductive EventKind where
  | fault
  | lineA
  | lineB
  | consistUnsettled
  | consistView
  | bindingChanged
  | remoteChange
  | directoryFull
  | wake
  deriving DecidableEq, Repr

/-- The six fault kinds (Faults and their disposition). -/
inductive FaultKind where
  | duplicateId
  | overlength
  | rollFailed
  | cabConflict
  | flapA
  | flapB
  deriving DecidableEq, Repr

/-- The dispositions (R171). -/
inductive Disposition where
  | report
  | silent
  | isolate
  deriving DecidableEq, Repr

/-- The disposition table: one entry per fault kind. -/
structure Dispositions where
  duplicateId : Disposition
  overlength : Disposition
  rollFailed : Disposition
  cabConflict : Disposition
  flapA : Disposition
  flapB : Disposition
  deriving DecidableEq, Repr

/-- The data of a CONSIST_VIEW (R165). -/
structure ViewData where
  view : Half
  dir : Direction
  n : Nat
  deriving DecidableEq, Repr

/-- The data of a REMOTE_CHANGE (R165). -/
structure RemoteChangeData where
  tag : Tag
  side : Side
  state : RecState
  requester : Ident
  deriving DecidableEq, Repr

/-- The event set: the data of the pending event of each kind, if one is pending, and the kinds in the order of becoming pending,
longest first (R164). The FAULT data are the set of fault kinds, bit n for fault kind n. -/
structure Events where
  fault : Option (BitVec 6)
  lineA : Option (EndState × EndState)
  lineB : Option (EndState × EndState)
  unsettled : Option ConsistState
  view : Option ViewData
  bindingChanged : Bool
  remoteChange : Option RemoteChangeData
  directoryFull : Option Tag
  wake : Option Cause
  order : List EventKind
  deriving DecidableEq, Repr

/-- The Attention Unit. Bit n of the mask is the flag of event kind n + 1 (R166). -/
structure AttentionUnit where
  events : Events
  mask : BitVec 9
  disp : Dispositions
  deriving DecidableEq, Repr

/-- Part Control (R175). -/
structure PartControl where
  part : PartState
  identity : Option Ident
  cabCfg : CabEnd
  startCause : Cause
  bypass : Bool
  deriving DecidableEq, Repr

/-- The whole part. `freeCount` is the model's own: it counts the orders and choices the manual leaves open that have been taken
(log entry 8). `pending` is the queue of commands that wait, first in, first out. -/
structure State where
  lineA : LineEndSt
  lineB : LineEndSt
  roll : RollCall
  consist : ConsistTable
  dir : Directory
  traffic : Traffic
  resolver : Resolver
  bindings : BindingTable
  port : CarPort
  attn : AttentionUnit
  ctrl : PartControl
  freeCount : Nat
  pending : List Instr
  deriving DecidableEq, Repr

/-- Reasons for a machine to stop with a fault. The manual names none: every command has an effect in every state. No constructor,
so no step of this model faults (safe: nothing is hidden behind a stop). -/
inductive Fault where
  deriving DecidableEq, Repr

/-- Reasons to refuse a command. -/
inductive Refusal where
  /-- A command whose meaning is not modelled yet, by its mnemonic. Raised by `exec` alone; safe. No arm raises it now. -/
  | notModelled (mnemonic : String)
  deriving DecidableEq, Repr

/-- A line end at reset (R1), its contact open (log entry 4). -/
abbrev LineEndSt.reset : LineEndSt where
  state := .bypassed
  contact := false
  isolated := false
  barFlag := false
  lockCount := 0
  neighbour := none
  flap := 0
  ctrlQ := []
  dirQ := []
  sending := none
  releaseT := .stopped
  settleT := .stopped
  lossT := .stopped
  beaconT := .stopped
  leakT := .stopped

/-- No event pending. -/
abbrev Events.empty : Events where
  fault := none
  lineA := none
  lineB := none
  unsettled := none
  view := none
  bindingChanged := false
  remoteChange := none
  directoryFull := none
  wake := none
  order := []

/-- The part right after power-on (R180), its inputs inactive (log entry 4) and no command waiting. -/
def State.reset : State where
  lineA := LineEndSt.reset
  lineB := LineEndSt.reset
  roll := { epoch := 0#32, state := .unformed, attempts := 0, timer := .stopped, lastOrig := 0#32 }
  consist :=
    { roster := [], ea := 0#32, digest := 0#32, ownIdx := 0, dir := .ref, conflict := false, view := 0#16, cabInput := false,
      cabLevel := false, debounceT := .stopped }
  dir := { home := [], mirrors := [], interest := Vector.replicate 64 false, allMode := false, refreshT := .stopped }
  traffic :=
    { burst := false, remainder := [], change := none, changeT := .stopped, reqId := 0#8, queryId := 0#8, replies := [] }
  resolver := { query := none, timer := .stopped }
  bindings := { handles := Vector.replicate 32 .free, query := none, timer := .stopped }
  port := { state := .empty, rxBuffer := [], inFlight := none, status := none, overrun := false, resetInput := false }
  attn :=
    { events := { Events.empty with wake := some .powerOn, order := [.wake] },
      mask := 0#9,
      disp :=
        { duplicateId := .report, overlength := .report, rollFailed := .report, cabConflict := .report, flapA := .report,
          flapB := .report } }
  ctrl := { part := .unidentified, identity := none, cabCfg := .none, startCause := .powerOn, bypass := true }
  freeCount := 0
  pending := []

end Sys2Proof.Machine
end

