-- ==== Sys2Proof/Machine/Codes.lean ====
section
/-! DEFINITION. The byte codes of the manual: Field codes (line frames), Codes used in blocks, Status codes, Event and Fault kinds,
and the command summary with each command's owner block. -/

namespace Sys2Proof

/-- Ends: 00h A, 01h B. -/
def LineEnd.code : LineEnd → Byte
  | .a => 0x00#8
  | .b => 0x01#8

/-- The end a code names, if it names one. -/
def LineEnd.ofCode (b : Byte) : Option LineEnd :=
  match b.toNat with
  | 0x00 => some .a
  | 0x01 => some .b
  | _ => none

namespace Machine

/-- Active or configured cab end: 00h A, 01h B, 02h NONE. -/
def CabEnd.code : CabEnd → Byte
  | .a => 0x00#8
  | .b => 0x01#8
  | .none => 0x02#8

/-- The cab end a code names, if it names one. -/
def CabEnd.ofCode (b : Byte) : Option CabEnd :=
  match b.toNat with
  | 0x00 => some .a
  | 0x01 => some .b
  | 0x02 => some .none
  | _ => Option.none

/-- Car side. -/
def Side.code : Side → Byte
  | .s1 => 0x00#8
  | .s2 => 0x01#8
  | .both => 0x02#8
  | .none => 0x03#8

/-- The car side a code names, if it names one. -/
def Side.ofCode (b : Byte) : Option Side :=
  match b.toNat with
  | 0x00 => some .s1
  | 0x01 => some .s2
  | 0x02 => some .both
  | 0x03 => some .none
  | _ => Option.none

/-- Train side. -/
def TrainSide.code : TrainSide → Byte
  | .left => 0x00#8
  | .right => 0x01#8
  | .both => 0x02#8
  | .none => 0x03#8

/-- Record state, desired state. -/
def RecState.code : RecState → Byte
  | .offered => 0x00#8
  | .suspended => 0x01#8

/-- The record state a code names, if it names one. -/
def RecState.ofCode (b : Byte) : Option RecState :=
  match b.toNat with
  | 0x00 => some .offered
  | 0x01 => some .suspended
  | _ => none

/-- Remote permission. -/
def Permission.code : Permission → Byte
  | .allowed => 0x00#8
  | .denied => 0x01#8

/-- The permission a code names, if it names one. -/
def Permission.ofCode (b : Byte) : Option Permission :=
  match b.toNat with
  | 0x00 => some .allowed
  | 0x01 => some .denied
  | _ => none

/-- Freshness. -/
def Freshness.code : Freshness → Byte
  | .current => 0x00#8
  | .stale => 0x01#8

/-- Source. -/
def Source.code : Source → Byte
  | .home => 0x00#8
  | .mirror => 0x01#8

/-- End state. -/
def EndState.code : EndState → Byte
  | .bypassed => 0x00#8
  | .opened => 0x01#8
  | .settling => 0x02#8
  | .hunting => 0x03#8
  | .locked => 0x04#8
  | .barred => 0x05#8
  | .isolated => 0x06#8

/-- Consist state. -/
def ConsistState.code : ConsistState → Byte
  | .unformed => 0x00#8
  | .formed => 0x01#8
  | .rolling => 0x02#8
  | .degraded => 0x03#8

/-- The consist state carried in bits 2 and 1 of the BEACON flags (Field codes). -/
def ConsistState.ofBeaconFlags (flags : Byte) : ConsistState :=
  match flags.getLsbD 2, flags.getLsbD 1 with
  | false, false => .unformed
  | false, true => .formed
  | true, false => .rolling
  | true, true => .degraded

/-- D. -/
def Direction.code : Direction → Byte
  | .ref => 0x00#8
  | .far => 0x01#8

/-- Part state. -/
def PartState.code : PartState → Byte
  | .unidentified => 0x00#8
  | .ready => 0x01#8
  | .dormant => 0x02#8

/-- Start cause, wake cause. -/
def Cause.code : Cause → Byte
  | .powerOn => 0x00#8
  | .partReset => 0x01#8
  | .contactA => 0x02#8
  | .contactB => 0x03#8
  | .command => 0x04#8

/-- The side filter a code names, if it names one. -/
def SideFilter.ofCode (b : Byte) : Option SideFilter :=
  match b.toNat with
  | 0x00 => some .left
  | 0x01 => some .right
  | 0x02 => some .any
  | _ => none

/-- Side filter. -/
def SideFilter.code : SideFilter → Byte
  | .left => 0x00#8
  | .right => 0x01#8
  | .any => 0x02#8

/-- Status codes. -/
def Status.code : Status → Byte
  | .success => 0x00#8
  | .invalidParam => 0x01#8
  | .stateError => 0x02#8
  | .noSpace => 0x03#8
  | .notFound => 0x04#8
  | .unknownCommand => 0x05#8
  | .protocolError => 0x06#8
  | .found => 0x10#8
  | .noRecord => 0x11#8
  | .notPresent => 0x12#8
  | .noAnswer => 0x13#8
  | .noConsist => 0x14#8
  | .consistChanged => 0x15#8
  | .accepted => 0x20#8
  | .refused => 0x21#8

/-- The reason of a binding, given by its status code. -/
def Reason.code : Reason → Byte
  | .noRecord => 0x11#8
  | .notPresent => 0x12#8
  | .noConsist => 0x14#8
  | .noAnswer => 0x13#8

/-- CHANGE_REPLY outcome (Field codes). -/
def ChangeOutcome.code : ChangeOutcome → Byte
  | .accepted => 0x00#8
  | .refused => 0x01#8
  | .noRecord => 0x02#8

/-- The outcome a code names, if it names one. -/
def ChangeOutcome.ofCode (b : Byte) : Option ChangeOutcome :=
  match b.toNat with
  | 0x00 => some .accepted
  | 0x01 => some .refused
  | 0x02 => some .noRecord
  | _ => none

/-- The status a REQUEST_STATE completes with for an outcome (R111, R113). -/
def ChangeOutcome.status : ChangeOutcome → Status
  | .accepted => .accepted
  | .refused => .refused
  | .noRecord => .noRecord

/-- Event kind, 01h to 09h. -/
def EventKind.code : EventKind → Byte
  | .fault => 0x01#8
  | .lineA => 0x02#8
  | .lineB => 0x03#8
  | .consistUnsettled => 0x04#8
  | .consistView => 0x05#8
  | .bindingChanged => 0x06#8
  | .remoteChange => 0x07#8
  | .directoryFull => 0x08#8
  | .wake => 0x09#8

/-- The bit of an event kind in the mask: bit 0 for kind 01h (R166). -/
def EventKind.bit : EventKind → Nat
  | .fault => 0
  | .lineA => 1
  | .lineB => 2
  | .consistUnsettled => 3
  | .consistView => 4
  | .bindingChanged => 5
  | .remoteChange => 6
  | .directoryFull => 7
  | .wake => 8

/-- The priority of an event kind, 1 the highest (R168). -/
def EventKind.priority : EventKind → Nat
  | .fault => 1
  | .lineA => 2
  | .lineB => 2
  | .consistUnsettled => 3
  | .consistView => 3
  | .bindingChanged => 4
  | .remoteChange => 5
  | .directoryFull => 5
  | .wake => 6

/-- The fault kind a code names, if it names one. -/
def FaultKind.ofCode (b : Byte) : Option FaultKind :=
  match b.toNat with
  | 0x00 => some .duplicateId
  | 0x01 => some .overlength
  | 0x02 => some .rollFailed
  | 0x03 => some .cabConflict
  | 0x04 => some .flapA
  | 0x05 => some .flapB
  | _ => none

/-- The bit of a fault kind in the data of a FAULT event (Layouts by command). -/
def FaultKind.bit : FaultKind → Nat
  | .duplicateId => 0
  | .overlength => 1
  | .rollFailed => 2
  | .cabConflict => 3
  | .flapA => 4
  | .flapB => 5

/-- The disposition a code names, if it names one. -/
def Disposition.ofCode (b : Byte) : Option Disposition :=
  match b.toNat with
  | 0x00 => some .report
  | 0x01 => some .silent
  | 0x02 => some .isolate
  | _ => none

/-- Whether the ISOLATE disposition is allowed for a fault kind (R173). -/
def FaultKind.mayIsolate : FaultKind → Bool
  | .duplicateId => true
  | .overlength => false
  | .rollFailed => false
  | .cabConflict => false
  | .flapA => true
  | .flapB => true

/-- The flap fault of an end (R23). -/
def FaultKind.flap : LineEnd → FaultKind
  | .a => .flapA
  | .b => .flapB

/-- Command summary: codes. -/
def Cmd.code : Cmd → Byte
  | .identify => 0x01#8
  | .getInfo => 0x02#8
  | .sleep => 0x03#8
  | .partReset => 0x04#8
  | .lineStatus => 0x10#8
  | .lineIsolate => 0x11#8
  | .lineRestore => 0x12#8
  | .lineUnbar => 0x13#8
  | .consistRead => 0x20#8
  | .rollCall => 0x21#8
  | .recordOffer => 0x30#8
  | .recordUpdate => 0x31#8
  | .recordWithdraw => 0x32#8
  | .recordList => 0x33#8
  | .requestState => 0x34#8
  | .lookup => 0x40#8
  | .interestAdd => 0x48#8
  | .interestClear => 0x49#8
  | .interestAll => 0x4A#8
  | .bind => 0x50#8
  | .unbind => 0x51#8
  | .bindingGet => 0x52#8
  | .bindingScan => 0x53#8
  | .eventRead => 0x60#8
  | .eventMask => 0x61#8
  | .viewAck => 0x62#8
  | .dispositionSet => 0x63#8

/-- The command of a code, if the summary has it (R156). -/
def Cmd.ofCode (b : Byte) : Option Cmd :=
  match b.toNat with
  | 0x01 => some .identify
  | 0x02 => some .getInfo
  | 0x03 => some .sleep
  | 0x04 => some .partReset
  | 0x10 => some .lineStatus
  | 0x11 => some .lineIsolate
  | 0x12 => some .lineRestore
  | 0x13 => some .lineUnbar
  | 0x20 => some .consistRead
  | 0x21 => some .rollCall
  | 0x30 => some .recordOffer
  | 0x31 => some .recordUpdate
  | 0x32 => some .recordWithdraw
  | 0x33 => some .recordList
  | 0x34 => some .requestState
  | 0x40 => some .lookup
  | 0x48 => some .interestAdd
  | 0x49 => some .interestClear
  | 0x4A => some .interestAll
  | 0x50 => some .bind
  | 0x51 => some .unbind
  | 0x52 => some .bindingGet
  | 0x53 => some .bindingScan
  | 0x60 => some .eventRead
  | 0x61 => some .eventMask
  | 0x62 => some .viewAck
  | 0x63 => some .dispositionSet
  | _ => none

/-- The owner block of a command (Command summary, Specified in). -/
def Cmd.owner : Cmd → Block
  | .identify => .control
  | .getInfo => .control
  | .sleep => .control
  | .partReset => .control
  | .lineStatus => .lineEnds
  | .lineIsolate => .lineEnds
  | .lineRestore => .lineEnds
  | .lineUnbar => .lineEnds
  | .consistRead => .consistTable
  | .rollCall => .rollCall
  | .recordOffer => .directory
  | .recordUpdate => .directory
  | .recordWithdraw => .directory
  | .recordList => .directory
  | .requestState => .traffic
  | .lookup => .resolver
  | .interestAdd => .directory
  | .interestClear => .directory
  | .interestAll => .directory
  | .bind => .bindings
  | .unbind => .bindings
  | .bindingGet => .bindings
  | .bindingScan => .bindings
  | .eventRead => .attention
  | .eventMask => .attention
  | .viewAck => .attention
  | .dispositionSet => .attention

/-- A car-end cab value as the end it stands at; NONE stands at no end. -/
def CabEnd.isAt (c : CabEnd) (e : LineEnd) : Bool :=
  match c, e with
  | .a, .a => true
  | .b, .b => true
  | _, _ => false

end Machine

end Sys2Proof
end

