-- ==== Sys2Proof/Machine/Frames.lean ====
section
/-! DEFINITION. Line frames on the line: their bytes and bits (R7), the validity of a frame (R8), the receiver's judgement of a
frame and its search of a bit stream (R8), and the command that each judged frame is. -/

namespace Sys2Proof

/-- The kind code of a payload (Frame kinds). -/
def Payload.kind : Payload → Byte
  | .beacon .. => 0x01#8
  | .call => 0x02#8
  | .roll _ => 0x03#8
  | .roster _ => 0x04#8
  | .steer _ => 0x05#8
  | .publish _ => 0x11#8
  | .withdraw .. => 0x12#8
  | .query .. => 0x13#8
  | .answer .. => 0x14#8
  | .changeReq .. => 0x15#8
  | .changeReply .. => 0x16#8

/-- A tag with its length byte (Payloads). -/
def tagBytes (t : Tag) : List Byte :=
  byteOf t.length :: t

/-- A record body in order of transmission (Payloads, PUBLISH). -/
def RecordBody.bytes (r : RecordBody) : List Byte :=
  tagBytes r.tag ++ [r.side, r.state] ++ be16 r.addr ++ be16 r.rev ++ [r.perm, byteOf r.attrs.length] ++ r.attrs

/-- One entry of a ROLL or ROSTER in order of transmission (Payloads). -/
def CarEntry.bytes (c : CarEntry) : List Byte :=
  be32 c.ident ++ [c.face, c.cab]

/-- The payload bytes in order of transmission (Payloads). -/
def Payload.bytes : Payload → List Byte
  | .beacon senderEnd flags ea digest => [senderEnd, flags] ++ be32 ea ++ be32 digest
  | .call => []
  | .roll es => byteOf es.length :: es.flatMap CarEntry.bytes
  | .roster es => byteOf es.length :: es.flatMap CarEntry.bytes
  | .steer cab => [cab]
  | .publish r => RecordBody.bytes r
  | .withdraw t side => tagBytes t ++ [side]
  | .query id t => id :: tagBytes t
  | .answer id rs => [id, byteOf rs.length] ++ rs.flatMap RecordBody.bytes
  | .changeReq id t side desired => id :: tagBytes t ++ [side, desired]
  | .changeReply id outcome rev => [id, outcome] ++ be16 rev

/-- Header and payload in order of transmission (Common header): what the frame CRC covers (R7). -/
def Frame.content (f : Frame) : List Byte :=
  [Payload.kind f.payload, byteOf (Payload.bytes f.payload).length] ++ be32 f.hdr.epoch ++ be32 f.hdr.src
    ++ [f.hdr.dst, f.hdr.srcIdx] ++ Payload.bytes f.payload

/-- The frame after its delimiter: header, payload and CRC, the CRC least significant byte first (R7). -/
def Frame.body (f : Frame) : List Byte :=
  Frame.content f ++ le32 (crc (Frame.content f))

/-- The delimiter: the byte 2Dh followed by the byte D4h (R7). -/
def delimiter : List Byte :=
  [0x2D#8, 0xD4#8]

/-- The whole frame as it is sent (R7). -/
def Frame.bytes (f : Frame) : List Byte :=
  delimiter ++ Frame.body f

/-- The bits of a byte, least significant bit first (R7). -/
def byteBits (b : Byte) : List Bool :=
  [b.getLsbD 0, b.getLsbD 1, b.getLsbD 2, b.getLsbD 3, b.getLsbD 4, b.getLsbD 5, b.getLsbD 6, b.getLsbD 7]

/-- The frame as the transmitter puts it on the line (R7, R18). -/
def Frame.bits (f : Frame) : List Bool :=
  (Frame.bytes f).flatMap byteBits

/-- `n` bit times of idle fill, a continuous run of one bits: what a transmitter sends between frames, and whenever it has nothing to
send (R7). -/
def idleFill (n : Nat) : List Bool :=
  List.replicate n true

/-- A tag length of 1 to 16 (R8). -/
def tagLenOk (t : Tag) : Bool :=
  decide (1 ≤ t.length) && decide (t.length ≤ 16)

/-- The length fields of a record body lie in their ranges (R8): tag 1 to 16, attributes 0 to 8. -/
def RecordBody.lengthsOk (r : RecordBody) : Bool :=
  tagLenOk r.tag && decide (r.attrs.length ≤ 8)

/-- The ranges that R8 lays down for a payload, its length fields being the lengths of its lists. -/
def Payload.valid : Payload → Bool
  | .beacon senderEnd _ _ _ => decide (senderEnd ≤ 1#8)
  | .call => true
  | .roll es => decide (es.length ≤ Config.maxCars)
  | .roster es => decide (1 ≤ es.length) && decide (es.length ≤ Config.maxCars)
  | .steer _ => true
  | .publish r => RecordBody.lengthsOk r
  | .withdraw t _ => tagLenOk t
  | .query _ t => tagLenOk t
  | .answer _ rs => decide (rs.length ≤ 4) && rs.all RecordBody.lengthsOk
  | .changeReq _ t _ _ => tagLenOk t
  | .changeReply .. => true

/-- A frame that R8 calls valid. -/
def Frame.valid (f : Frame) : Bool :=
  Payload.valid f.payload

/-- Reads `n` bytes. -/
def takeBytes (n : Nat) (bs : List Byte) : Option (List Byte × List Byte) :=
  if n ≤ bs.length then some (bs.take n, bs.drop n) else none

/-- Reads a tag after its length byte, its length in 1 to 16 (R8). -/
def readTag : List Byte → Option (Tag × List Byte)
  | [] => none
  | n :: bs => if 1 ≤ n.toNat ∧ n.toNat ≤ 16 then takeBytes n.toNat bs else none

/-- Reads attributes after their length byte, their length in 0 to 8 (R8). -/
def readAttrs : List Byte → Option (List Byte × List Byte)
  | [] => none
  | n :: bs => if n.toNat ≤ 8 then takeBytes n.toNat bs else none

/-- Reads one record body (Payloads, PUBLISH; R8). -/
def readBody (bs : List Byte) : Option (RecordBody × List Byte) :=
  match readTag bs with
  | some (t, side :: state :: a1 :: a0 :: r1 :: r0 :: perm :: bs) =>
    match readAttrs bs with
    | some (attrs, bs) => some (⟨t, side, state, half a1 a0, half r1 r0, perm, attrs⟩, bs)
    | none => none
  | _ => none

/-- Reads `n` record bodies that fill the bytes exactly. -/
def readBodies : Nat → List Byte → Option (List RecordBody)
  | 0, [] => some []
  | 0, _ :: _ => none
  | n + 1, bs =>
    match readBody bs with
    | some (r, bs) => (readBodies n bs).map (r :: ·)
    | none => none

/-- Reads `n` car entries that fill the bytes exactly. -/
def readEntries : Nat → List Byte → Option (List CarEntry)
  | 0, [] => some []
  | n + 1, i3 :: i2 :: i1 :: i0 :: face :: cab :: bs => (readEntries n bs).map (⟨word i3 i2 i1 i0, face, cab⟩ :: ·)
  | _, _ => none

/-- Reads the payload of a frame of this kind, all of its bytes (Frame kinds, Payloads; R8). -/
def readPayload (kind : Byte) (bs : List Byte) : Option Payload :=
  match kind.toNat, bs with
  | 0x01, [senderEnd, flags, e3, e2, e1, e0, d3, d2, d1, d0] => some (.beacon senderEnd flags (word e3 e2 e1 e0) (word d3 d2 d1 d0))
  | 0x02, [] => some .call
  | 0x03, n :: bs => (readEntries n.toNat bs).map .roll
  | 0x04, n :: bs => (readEntries n.toNat bs).map .roster
  | 0x05, [cab] => some (.steer cab)
  | 0x11, bs =>
    match readBody bs with
    | some (r, []) => some (.publish r)
    | _ => none
  | 0x12, bs =>
    match readTag bs with
    | some (t, [side]) => some (.withdraw t side)
    | _ => none
  | 0x13, id :: bs =>
    match readTag bs with
    | some (t, []) => some (.query id t)
    | _ => none
  | 0x14, id :: n :: bs => (readBodies n.toNat bs).map (.answer id)
  | 0x15, id :: bs =>
    match readTag bs with
    | some (t, [side, desired]) => some (.changeReq id t side desired)
    | _ => none
  | 0x16, [id, outcome, r1, r0] => some (.changeReply id outcome (half r1 r0))
  | _, _ => none

/-- What the receiver makes of the bytes after a delimiter. -/
inductive Judgement where
  /-- the frame is not whole yet -/
  | incomplete
  /-- the frame is invalid (R8) -/
  | invalid
  /-- a valid frame, and how many bytes it took after its delimiter (R8) -/
  | valid (f : Frame) (used : Nat)
  deriving DecidableEq, Repr

/-- The judgement of R8 on the bytes after a delimiter: a payload length above 240 as soon as the header is in; otherwise, with
the frame whole, its CRC, its kind, its payload length and the ranges of its fields. -/
def judgeFrame (bs : List Byte) : Judgement :=
  match bs with
  | kind :: len :: e3 :: e2 :: e1 :: e0 :: s3 :: s2 :: s1 :: s0 :: dst :: srcIdx :: rest =>
    if len.toNat > Config.maxPayload then .invalid
    else if rest.length < len.toNat + 4 then .incomplete
    else if (rest.drop len.toNat).take 4 ≠ le32 (crc (bs.take (12 + len.toNat))) then .invalid
    else
      match readPayload kind (rest.take len.toNat) with
      | none => .invalid
      | some p =>
        if Payload.valid p then .valid ⟨⟨word e3 e2 e1 e0, word s3 s2 s1 s0, dst, srcIdx⟩, p⟩ (12 + len.toNat + 4) else .invalid
  | _ => .incomplete

/-- The byte whose bits are these, least significant first (R7). -/
def byteOfBits (b0 b1 b2 b3 b4 b5 b6 b7 : Bool) : Byte :=
  BitVec.ofBoolListLE [b0, b1, b2, b3, b4, b5, b6, b7]

/-- The whole bytes of a run of bits; bits left over are not a byte. -/
def bytesOfBits : List Bool → List Byte
  | b0 :: b1 :: b2 :: b3 :: b4 :: b5 :: b6 :: b7 :: bits => byteOfBits b0 b1 b2 b3 b4 b5 b6 b7 :: bytesOfBits bits
  | _ => []

/-- The receiver on a stream of bits (R8): it searches one bit at a time for a delimiter, judges the frame behind it, and goes on
at the bit after the CRC of a valid frame, or at the bit after the delimiter of an invalid one. It answers the valid frames (some)
and the invalid ones (none) in the order judged; a frame not whole at the end of the stream is neither. `fuel` bounds the bits. -/
def receiveBits : Nat → List Bool → List (Option Frame)
  | 0, _ => []
  | _, [] => []
  | fuel + 1, b :: bits =>
    if (b :: bits).take 16 = delimiter.flatMap byteBits then
      match judgeFrame (bytesOfBits (bits.drop 15)) with
      | .incomplete => []
      | .invalid => none :: receiveBits fuel (bits.drop 15)
      | .valid f used => some f :: receiveBits fuel (bits.drop (15 + 8 * used))
    else receiveBits fuel bits

/-- The command that a valid frame arriving on end `e` is. -/
def Frame.toInstr (e : LineEnd) (f : Frame) : Instr :=
  match f.payload with
  | .beacon senderEnd flags ea digest => .beacon e f.hdr senderEnd flags ea digest
  | .call => .call e f.hdr
  | .roll es => .roll e f.hdr es
  | .roster es => .roster e f.hdr es
  | .steer cab => .steer e f.hdr cab
  | .publish r => .publish e f.hdr r
  | .withdraw t side => .withdraw e f.hdr t side
  | .query id t => .query e f.hdr id t
  | .answer id rs => .answer e f.hdr id rs
  | .changeReq id t side desired => .changeReq e f.hdr id t side desired
  | .changeReply id outcome rev => .changeReply e f.hdr id outcome rev

/-- The commands that a stream of bits received on end `e` is: one for each judged frame (R8). -/
def lineCommands (e : LineEnd) (bits : List Bool) : List Instr :=
  (receiveBits bits.length bits).map fun f => match f with
    | some f => Frame.toInstr e f
    | none => .invalidFrame e

end Sys2Proof
end

