-- ==== Sys2Proof/Machine/Ops.lean ====
section
/-! DEFINITION. The shared operations under every block: the ends of a part, the timers, the event set and the attention output
(R164 to R167), the transmit queues (R12, R16, R17), the status block (R159), and the choice between two orders that the manual
leaves open. -/

namespace Sys2Proof.Machine

/-- A timer has been started and neither expired nor been stopped since. -/
def Timer.isRunning : Timer → Bool
  | .stopped => false
  | .running _ => true

/-- The state of one line end. -/
def State.lineEnd (s : State) (e : LineEnd) : LineEndSt :=
  match e with
  | .a => s.lineA
  | .b => s.lineB

/-- One line end replaced. -/
def State.setEnd (s : State) (e : LineEnd) (l : LineEndSt) : State :=
  match e with
  | .a => { s with lineA := l }
  | .b => { s with lineB := l }

/-- One line end changed. -/
def State.updEnd (s : State) (e : LineEnd) (f : LineEndSt → LineEndSt) : State :=
  s.setEnd e (f (s.lineEnd e))

/-- Both line ends changed alike. -/
def State.updEnds (s : State) (f : LineEndSt → LineEndSt) : State :=
  { s with lineA := f s.lineA, lineB := f s.lineB }

/-- The Roll-Call Engine's state replaced. -/
def State.setRoll (s : State) (x : RollCall) : State :=
  { s with roll := x }

/-- The Consist Table's state replaced. -/
def State.setConsist (s : State) (x : ConsistTable) : State :=
  { s with consist := x }

/-- The Function Directory's state replaced. -/
def State.setDir (s : State) (x : Directory) : State :=
  { s with dir := x }

/-- The Directory Traffic unit's state replaced. -/
def State.setTraffic (s : State) (x : Traffic) : State :=
  { s with traffic := x }

/-- The Resolver's state replaced. -/
def State.setResolver (s : State) (x : Resolver) : State :=
  { s with resolver := x }

/-- The Binding Table's state replaced. -/
def State.setBindings (s : State) (x : BindingTable) : State :=
  { s with bindings := x }

/-- The Car Port's state replaced. -/
def State.setPort (s : State) (x : CarPort) : State :=
  { s with port := x }

/-- The Attention Unit's state replaced. -/
def State.setAttn (s : State) (x : AttentionUnit) : State :=
  { s with attn := x }

/-- The Part Control's state replaced. -/
def State.setCtrl (s : State) (x : PartControl) : State :=
  { s with ctrl := x }

/-- The event set replaced. -/
def State.setEvents (s : State) (ev : Events) : State :=
  s.setAttn { s.attn with events := ev }

/-- A joined end is an end in LOCKED. -/
def State.joined (s : State) (e : LineEnd) : Bool :=
  decide ((s.lineEnd e).state = .locked)

/-- The part's identity as frames carry it; 00000000h before IDENTIFY (R175). -/
def State.ownId (s : State) : Ident :=
  s.ctrl.identity.getD 0#32

/-- The part's own active cab end (R61). -/
def State.ownCab (s : State) : CabEnd :=
  if s.consist.cabLevel then s.ctrl.cabCfg else .none

/-- The roster is held but may no longer describe the train: ROLLING or DEGRADED. -/
def ConsistState.unsettled : ConsistState → Bool
  | .unformed => false
  | .formed => false
  | .rolling => true
  | .degraded => true

/-! ## The event set -/

/-- An event of this kind is pending. -/
def Events.has (ev : Events) : EventKind → Bool
  | .fault => ev.fault.isSome
  | .lineA => ev.lineA.isSome
  | .lineB => ev.lineB.isSome
  | .consistUnsettled => ev.unsettled.isSome
  | .consistView => ev.view.isSome
  | .bindingChanged => ev.bindingChanged
  | .remoteChange => ev.remoteChange.isSome
  | .directoryFull => ev.directoryFull.isSome
  | .wake => ev.wake.isSome

/-- How many kinds are pending. -/
def Events.count (ev : Events) : Nat :=
  [ev.fault.isSome, ev.lineA.isSome, ev.lineB.isSome, ev.unsettled.isSome, ev.view.isSome, ev.bindingChanged,
    ev.remoteChange.isSome, ev.directoryFull.isSome, ev.wake.isSome].count true

/-- The order of pending after kind `k` has been raised: a pending kind keeps its place, a new one is placed last (R164). -/
def Events.orderWith (k : EventKind) (ev : Events) : List EventKind :=
  if ev.has k then ev.order else ev.order ++ [k]

/-- A kind taken out of the order of pending; the others keep their order (R164). -/
def Events.displace (k : EventKind) (ev : Events) : Events :=
  { ev with order := ev.order.filter fun j => decide (j ≠ k) }

/-- FAULT raised: the fault kind is added to the set (R165). -/
def Events.raiseFault (k : FaultKind) (ev : Events) : Events :=
  { ev with order := ev.orderWith .fault, fault := some (ev.fault.getD 0#6 ||| (1#6 <<< k.bit)) }

/-- LINE_A or LINE_B raised: the state before the first coalesced change is kept (R165). -/
def Events.raiseLine (e : LineEnd) (before latest : EndState) (ev : Events) : Events :=
  match e with
  | .a => { ev with order := ev.orderWith .lineA, lineA := some ((ev.lineA.map Prod.fst).getD before, latest) }
  | .b => { ev with order := ev.orderWith .lineB, lineB := some ((ev.lineB.map Prod.fst).getD before, latest) }

/-- CONSIST_UNSETTLED raised (R32, R165). -/
def Events.raiseUnsettled (c : ConsistState) (ev : Events) : Events :=
  { ev with order := ev.orderWith .consistUnsettled, unsettled := some c }

/-- A change of the consist state that does not raise CONSIST_UNSETTLED replaces the state of a pending one (R32, R165). -/
def Events.noteConsist (c : ConsistState) (ev : Events) : Events :=
  { ev with unsettled := ev.unsettled.map fun _ => c }

/-- CONSIST_VIEW raised (R57, R165). -/
def Events.raiseView (v : ViewData) (ev : Events) : Events :=
  { ev with order := ev.orderWith .consistView, view := some v }

/-- BINDING_CHANGED raised (R150, R165). -/
def Events.raiseBindingChanged (ev : Events) : Events :=
  { ev with order := ev.orderWith .bindingChanged, bindingChanged := true }

/-- REMOTE_CHANGE raised (R115, R165). -/
def Events.raiseRemoteChange (d : RemoteChangeData) (ev : Events) : Events :=
  { ev with order := ev.orderWith .remoteChange, remoteChange := some d }

/-- DIRECTORY_FULL raised (R92, R165). -/
def Events.raiseDirectoryFull (t : Tag) (ev : Events) : Events :=
  { ev with order := ev.orderWith .directoryFull, directoryFull := some t }

/-- WAKE raised (R165, R174, R179). -/
def Events.raiseWake (c : Cause) (ev : Events) : Events :=
  { ev with order := ev.orderWith .wake, wake := some c }

/-- A pending event removed (R164). -/
def Events.remove (k : EventKind) (ev : Events) : Events :=
  let ev := Events.displace k ev
  match k with
  | .fault => { ev with fault := none }
  | .lineA => { ev with lineA := none }
  | .lineB => { ev with lineB := none }
  | .consistUnsettled => { ev with unsettled := none }
  | .consistView => { ev with view := none }
  | .bindingChanged => { ev with bindingChanged := false }
  | .remoteChange => { ev with remoteChange := none }
  | .directoryFull => { ev with directoryFull := none }
  | .wake => { ev with wake := none }

/-- The nine kinds, by code. -/
def EventKind.all : List EventKind :=
  [.fault, .lineA, .lineB, .consistUnsettled, .consistView, .bindingChanged, .remoteChange, .directoryFull, .wake]

/-- The kind is masked (R166). -/
def AttentionUnit.masked (a : AttentionUnit) (k : EventKind) : Bool :=
  a.mask.getLsbD k.bit

/-- An event of this kind is pending and the kind is not masked (R166). -/
def AttentionUnit.visible (a : AttentionUnit) (k : EventKind) : Bool :=
  a.events.has k && !a.masked k

/-- The attention output: asserted while an event of an unmasked kind is pending (R167). -/
def State.attention (s : State) : Bool :=
  EventKind.all.any s.attn.visible

/-- An event raised by a function of the event set. -/
def State.raise (s : State) (f : Events → Events) : State :=
  s.setEvents (f s.attn.events)

/-- The kind of a line end's event (R6). -/
def EventKind.line : LineEnd → EventKind
  | .a => .lineA
  | .b => .lineB

/-- A kind that has just been put last in the order of pending, behind those that were put there since there were `n`,
is put before them instead (R88, R115, R164, R172, R179: the manual allows either). -/
def hasten (n : Nat) (k : EventKind) (order : List EventKind) : List EventKind :=
  let rest := order.filter fun j => decide (j ≠ k)
  rest.take n ++ k :: rest.drop n

/-- An event of kind `k` raised by `f` beside other work of the same step that began when `n` kinds were pending. If
the kind was not pending and the other work put kinds in the order, either order is allowed, and a free value chooses (log entry 8). -/
def State.raiseBeside (s : State) (n : Nat) (k : EventKind) (f : Events → Events) : State :=
  let t := s.raise f
  if s.attn.events.has k || decide (s.attn.events.count ≤ n) then t
  else
    { t with
      attn := { t.attn with events := { t.attn.events with
        order := if Config.freeOrder s.freeCount then hasten n k t.attn.events.order else t.attn.events.order } }
      freeCount := s.freeCount + 1 }

/-- The disposition held for a fault kind (R171). -/
def Dispositions.get (d : Dispositions) : FaultKind → Disposition
  | .duplicateId => d.duplicateId
  | .overlength => d.overlength
  | .rollFailed => d.rollFailed
  | .cabConflict => d.cabConflict
  | .flapA => d.flapA
  | .flapB => d.flapB

/-- One entry of the disposition table replaced (R173). -/
def Dispositions.set (d : Dispositions) (k : FaultKind) (v : Disposition) : Dispositions :=
  match k with
  | .duplicateId => { d with duplicateId := v }
  | .overlength => { d with overlength := v }
  | .rollFailed => { d with rollFailed := v }
  | .cabConflict => { d with cabConflict := v }
  | .flapA => { d with flapA := v }
  | .flapB => { d with flapB := v }

/-- A fault report of a kind that concerns no end (R171): no event under SILENT, a FAULT event otherwise. -/
def State.reportFault (s : State) (k : FaultKind) : State :=
  match s.attn.disp.get k with
  | .silent => s
  | .report => s.raise (Events.raiseFault k)
  | .isolate => s.raise (Events.raiseFault k)

/-! ## The transmit queues -/

/-- The end may send (R18): HUNTING, LOCKED or BARRED. -/
def EndState.framing : EndState → Bool
  | .bypassed => false
  | .opened => false
  | .settling => false
  | .hunting => true
  | .locked => true
  | .barred => true
  | .isolated => false

/-- A BEACON offered to the control queue: dropped if one waits there or the queue is full (R12, R16). -/
def LineEndSt.offerBeacon (l : LineEndSt) : LineEndSt :=
  if l.state.framing && !(l.ctrlQ.contains .beacon) && decide (l.ctrlQ.length < Config.ctrlQueueMax) then
    { l with ctrlQ := l.ctrlQ ++ [.beacon] }
  else l

/-- The control queue after a CALL, ROLL, ROSTER or STEER has been offered to a LOCKED end (R17). -/
def pushCtrl (q : List CtrlItem) (f : Frame) : List CtrlItem :=
  if q.length < Config.ctrlQueueMax then q ++ [.frame f]
  else if q.contains .beacon then q.erase .beacon ++ [.frame f]
  else q

/-- The directory queue after a directory frame has been offered to a LOCKED end (R17). -/
def pushDir (q : List Frame) (f : Frame) : List Frame :=
  if q.length < Config.dirQueueMax then q ++ [f] else q

/-- A CALL, ROLL, ROSTER or STEER offered to an end: taken in LOCKED, discarded otherwise (R16, R17). -/
def LineEndSt.offerCtrl (l : LineEndSt) (f : Frame) : LineEndSt :=
  if l.state = .locked then { l with ctrlQ := pushCtrl l.ctrlQ f } else l

/-- A directory frame offered to an end: taken in LOCKED, discarded otherwise (R16, R17). -/
def LineEndSt.offerDir (l : LineEndSt) (f : Frame) : LineEndSt :=
  if l.state = .locked then { l with dirQ := pushDir l.dirQ f } else l

/-- A control frame offered to end `e`. -/
def State.offerCtrl (s : State) (e : LineEnd) (f : Frame) : State :=
  s.updEnd e fun l => l.offerCtrl f

/-- A directory frame offered to end `e`. -/
def State.offerDir (s : State) (e : LineEnd) (f : Frame) : State :=
  s.updEnd e fun l => l.offerDir f

/-- A directory frame the part originates: its header carries Ea, the part's identity and its roster index (R103). -/
def State.dirFrame (s : State) (dst : Byte) (p : Payload) : Frame :=
  ⟨⟨s.consist.ea, s.ownId, dst, byteOf s.consist.ownIdx⟩, p⟩

/-- A PUBLISH or WITHDRAW the part originates: destination index 0, offered to every joined end (R103). -/
def State.broadcast (s : State) (p : Payload) : State :=
  (s.offerDir .a (s.dirFrame 0#8 p)).offerDir .b (s.dirFrame 0#8 p)

/-! ## The status block -/

/-- The command in flight completes: its status block is built from the outcome, the data and the state of the part at this
moment, and the port goes to READY (R158, R159). -/
def State.complete (s : State) (st : Status) (data : List Byte) (stale : Bool) : State :=
  { s with
    port := { s.port with
      state := .ready
      inFlight := none
      status := some
        { status := st
          tag := (s.port.inFlight.map InFlight.tag).getD 0#8
          view := s.consist.view
          attention := s.attention
          overrun := s.port.overrun
          stale := stale
          consist := s.roll.state
          data := data } } }

/-- A command completes with this status, no data and the stale flag clear. -/
def State.done (s : State) (st : Status) : State :=
  s.complete st [] false

/-- A command completes with SUCCESS and these data. -/
def State.gives (s : State) (data : List Byte) : State :=
  s.complete .success data false

/-- The status-ready output: asserted while the port is READY (R152). -/
def State.statusReady (s : State) : Bool :=
  decide (s.port.state = .ready)

/-! ## Two orders -/

/-- The state that the order of two blocks' offers can be told from: the directory queues and what the republish burst has left. -/
def sameTraffic (x y : State) : Bool :=
  decide (x.lineA.dirQ = y.lineA.dirQ) && decide (x.lineB.dirQ = y.lineB.dirQ)
    && decide (x.traffic.remainder = y.traffic.remainder) && decide (x.traffic.burst = y.traffic.burst)

/-- Two pieces of work done in one step whose order the manual leaves open (R77, R101, R49). They touch different state, save that
both may offer directory frames. Where the queues come out the same in either order, that is the outcome; where they do not, a free
value chooses between the two (log entry 8). -/
def eitherOrder (f g : State → State) (s : State) : State :=
  let x := g (f s)
  let y := f (g s)
  if sameTraffic x y then x
  else
    { x with
      freeCount := x.freeCount + 1
      lineA := { x.lineA with dirQ := if Config.freeOrder x.freeCount then y.lineA.dirQ else x.lineA.dirQ }
      lineB := { x.lineB with dirQ := if Config.freeOrder x.freeCount then y.lineB.dirQ else x.lineB.dirQ }
      traffic := { x.traffic with
        remainder := if Config.freeOrder x.freeCount then y.traffic.remainder else x.traffic.remainder
        burst := if Config.freeOrder x.freeCount then y.traffic.burst else x.traffic.burst } }

end Sys2Proof.Machine
end

