-- ==== Sys2Proof/Machine/Arithmetic.lean ====
section
/-! DEFINITION. The train arithmetic of the Consist Table (R56, R58, R67 to R71): digest, direction, positions, sides, forwarding
ends, hops, the nearest order and selectors. Roster indices and positions run from 1. -/

namespace Sys2Proof.Machine

/-- N, the number of cars in the adopted roster. -/
def ConsistTable.n (c : ConsistTable) : Nat :=
  c.roster.length

/-- The entry at roster index i, for i from 1 to N. -/
def ConsistTable.entry (c : ConsistTable) (i : Nat) : Option RosterEntry :=
  if i = 0 then none else c.roster[i - 1]?

/-- The roster index at which an identity stands; 0 when it is absent. -/
def rosterIndex (roster : List RosterEntry) (id : Ident) : Nat :=
  match roster with
  | [] => 0
  | r :: rest =>
    if r.ident = id then 1
    else
      match rosterIndex rest id with
      | 0 => 0
      | k + 1 => k + 2

/-- The five bytes of an entry that the digest covers (R56). -/
def RosterEntry.digestBytes (r : RosterEntry) : List Byte :=
  be32 r.ident ++ [r.facing.code]

/-- The digest of a roster (R56). -/
def rosterDigest (roster : List RosterEntry) : Word :=
  crc (roster.flatMap RosterEntry.digestBytes)

/-- The car at roster index 1 holds a valid cab: its active cab end is its facing (R58). -/
def validAtFirst (roster : List RosterEntry) : Bool :=
  match roster.head? with
  | some r => r.cab.isAt r.facing
  | none => false

/-- The car at roster index N holds a valid cab: its active cab end is the end opposite its facing (R58). -/
def validAtLast (roster : List RosterEntry) : Bool :=
  match roster.getLast? with
  | some r => r.cab.isAt r.facing.other
  | none => false

/-- D as the entries give it (R58). -/
def directionOf (roster : List RosterEntry) : Direction :=
  if !validAtFirst roster && validAtLast roster then .far else .ref

/-- The cab conflict flag as the entries give it (R59): two valid cabs. -/
def conflictOf (roster : List RosterEntry) : Bool :=
  validAtFirst roster && validAtLast roster

/-- The train position of the car at roster index i (R67). -/
def ConsistTable.position (c : ConsistTable) (i : Nat) : Nat :=
  match c.dir with
  | .ref => i
  | .far => c.n + 1 - i

/-- The roster index of the car at position p (R67). -/
def ConsistTable.indexAt (c : ConsistTable) (p : Nat) : Nat :=
  match c.dir with
  | .ref => p
  | .far => c.n + 1 - p

/-- A car of this facing is aligned (R68). -/
def alignedFacing (d : Direction) (facing : LineEnd) : Bool :=
  match d, facing with
  | .ref, .a => true
  | .ref, .b => false
  | .far, .a => false
  | .far, .b => true

/-- The car at roster index i is aligned (R68). -/
def ConsistTable.aligned (c : ConsistTable) (i : Nat) : Bool :=
  match c.entry i with
  | some r => alignedFacing c.dir r.facing
  | none => false

/-- The train side of a car side (R68). -/
def trainSide (aligned : Bool) : Side → TrainSide
  | .s1 => if aligned then .left else .right
  | .s2 => if aligned then .right else .left
  | .both => .both
  | .none => .none

/-- The part's own facing. -/
def ConsistTable.facing (c : ConsistTable) : Option LineEnd :=
  (c.entry c.ownIdx).map RosterEntry.facing

/-- The forwarding end toward roster index t (R69); none for the own car and for an index that names no car. -/
def ConsistTable.forwardEnd (c : ConsistTable) (t : Nat) : Option LineEnd :=
  if t = 0 ∨ c.n < t ∨ t = c.ownIdx then none
  else if t < c.ownIdx then c.facing
  else c.facing.map LineEnd.other

/-- The hop count from the part to the car at roster index t (R70). -/
def ConsistTable.hops (c : ConsistTable) (t : Nat) : Nat :=
  (t - c.ownIdx) + (c.ownIdx - t)

/-- The cars at h hops from the part, the one with the lower train position first (R70). -/
def ConsistTable.atHops (c : ConsistTable) (h : Nat) : List Nat :=
  if h = 0 then [c.ownIdx]
  else
    (match c.dir with
      | .ref => [c.ownIdx - h, c.ownIdx + h]
      | .far => [c.ownIdx + h, c.ownIdx - h]).filter fun i => decide (1 ≤ i ∧ i ≤ c.n)

/-- The nearest order of the part (R70). -/
def ConsistTable.nearest (c : ConsistTable) : List Nat :=
  (List.range c.n).flatMap c.atHops

/-- What the selector rule makes of a selector that fixes one car (R71). -/
inductive Target where
  /-- no car of the roster -/
  | absent
  /-- the car at this roster index -/
  | car (i : Nat)
  deriving DecidableEq, Repr

/-- The target of a selector (R71); its parameters have passed their checks. NEAREST fixes no target. -/
def ConsistTable.target (c : ConsistTable) : Selector → Target
  | .front k => if k = 0 ∨ c.n < k then .absent else .car (c.indexAt k)
  | .rear k => if k = 0 ∨ c.n < k then .absent else .car (c.indexAt (c.n + 1 - k))
  | .self => .car c.ownIdx
  | .car id => match rosterIndex c.roster id with
    | 0 => .absent
    | i + 1 => .car (i + 1)
  | .nearest => .absent

end Sys2Proof.Machine
end

