-- ==== Sys2Proof/Machine/Search.lean ====
section
/-! DEFINITION. The search of the directory for a question in train terms (R119 to R125, R128), as a function that only reads; and
the records a search or a frame is about. -/

namespace Sys2Proof.Machine

/-- A record found: where, how fresh, in which car, and its fields (R132). -/
structure Hit where
  source : Source
  fresh : Freshness
  index : Nat
  owner : Ident
  body : Rec
  deriving DecidableEq, Repr

/-- What a search gives (R119 to R125). -/
inductive Found where
  /-- a record is chosen -/
  | hit (h : Hit)
  /-- no record; the fixed target's roster index, or none for NEAREST and in UNFORMED (R133) -/
  | noRecord (target : Option Nat)
  | notPresent
  | noConsist
  /-- a remote car in FORMED of which no mirror matches: its roster index and identity (R124) -/
  | ask (i : Nat) (id : Ident)
  deriving DecidableEq, Repr

/-- The train sides a filter takes, in order of preference (R122). -/
def SideFilter.preference : SideFilter → List TrainSide
  | .left => [.left, .both]
  | .right => [.right, .both]
  | .any => [.both, .none, .left, .right]

/-- The candidates of the most preferred side that has any; the empty list when the car does not match (R122). -/
def preferred (aligned : Bool) (filter : SideFilter) (cands : List Hit) : List Hit :=
  (filter.preference.map fun ts => cands.filter fun h => decide (trainSide aligned h.body.side = ts)).find? (fun l => !l.isEmpty)
    |>.getD []

/-- The home record with this tag and side. -/
def Directory.findHome (d : Directory) (t : Tag) (sd : Side) : Option Rec :=
  d.home.find? fun r => decide (r.tag = t ∧ r.side = sd)

/-- The mirror has this key (R74). -/
def Mirror.hasKey (m : Mirror) (owner : Ident) (t : Tag) (sd : Side) : Bool :=
  decide (m.owner = owner ∧ m.body.tag = t ∧ m.body.side = sd)

/-- The mirror with this key. -/
def Directory.findMirror (d : Directory) (owner : Ident) (t : Tag) (sd : Side) : Option Mirror :=
  d.mirrors.find? fun m => m.hasKey owner t sd

/-- The candidates of the car at roster index i for a tag (R121): home records for the own car, mirrors for another. -/
def State.candidates (s : State) (i : Nat) (t : Tag) : List Hit :=
  match s.consist.entry i with
  | none => []
  | some r =>
    if r.ident = s.ownId then
      (s.dir.home.filter fun x => decide (x.tag = t)).map fun x => ⟨.home, .current, i, r.ident, x⟩
    else
      (s.dir.mirrors.filter fun m => decide (m.owner = r.ident ∧ m.body.tag = t)).map fun m => ⟨.mirror, m.fresh, i, r.ident, m.body⟩

/-- The record a side filter chooses in the car at roster index i (R122). -/
def State.matchCar (s : State) (i : Nat) (t : Tag) (filter : SideFilter) : Option Hit :=
  (preferred (s.consist.aligned i) filter (s.candidates i t)).head?

/-- A fixed target searched (R123, R124). -/
def State.searchTarget (s : State) (q : Question) : Target → Found
  | .absent => .notPresent
  | .car i =>
    match s.matchCar i q.tag q.filter with
    | some h => .hit h
    | none =>
      match s.consist.entry i with
      | none => .noRecord (some i)
      | some r => if r.ident ≠ s.ownId ∧ s.roll.state = .formed then .ask i r.ident else .noRecord (some i)

/-- The search of R119 to R125 for a question. -/
def State.search (s : State) (q : Question) : Found :=
  match s.roll.state, q.sel with
  | .unformed, .self => .noRecord none
  | .unformed, _ => .noConsist
  | _, .nearest =>
    match s.consist.nearest.findSome? fun i => s.matchCar i q.tag q.filter with
    | some h => .hit h
    | none => .noRecord none
  | _, sel => s.searchTarget q (s.consist.target sel)

/-- The record fields a body gives, when the body is good (R86). -/
def goodBody (r : RecordBody) : Option Rec :=
  match Side.ofCode r.side, RecState.ofCode r.state, Permission.ofCode r.perm with
  | some sd, some st, some pm =>
    if r.tag.all tagByteOk ∧ r.rev ≠ 0#16 then some ⟨r.tag, sd, st, r.addr, r.rev, pm, r.attrs⟩ else none
  | _, _, _ => none

/-- A record as a PUBLISH or ANSWER carries it (Payloads). -/
def Rec.toBody (r : Rec) : RecordBody :=
  ⟨r.tag, r.side.code, r.state.code, r.addr, r.rev, r.perm.code, r.attrs⟩

/-- The change number after one step: it rises by 1, and after 65535 it becomes 1 (R81). -/
def stepRevision (rev : Half) : Half :=
  if rev = 0xFFFF#16 then 1#16 else rev + 1#16

end Sys2Proof.Machine
end

