-- ==== Sys2Proof/Machine/Queries.lean ====
section
/-! DEFINITION. Unicasts the part originates, and the query ids of the Directory Traffic unit (R102, R103, R107). -/

namespace Sys2Proof.Machine

/-- A unicast the part originates toward roster index t: offered to the forwarding end, if there is one (R103). -/
def State.sendUnicast (s : State) (t : Nat) (p : Payload) : State :=
  match s.consist.forwardEnd t with
  | some e => s.offerDir e (s.dirFrame (byteOf t) p)
  | none => s

/-- The query id after this counter value; the id that the other block holds outstanding is stepped over (R107). -/
def nextQueryId (counter : Byte) (outstanding : Option Byte) : Byte :=
  if outstanding = some (counter + 1#8) then counter + 2#8 else counter + 1#8

/-- A fresh query for a block, the other block's outstanding id being given: the counter takes the id, and the QUERY is originated
(R107). The id is the counter of the state that results. -/
def State.freshQuery (s : State) (outstanding : Option Byte) (t : Nat) (tag : Tag) : State :=
  let id := nextQueryId s.traffic.queryId outstanding
  (s.setTraffic { s.traffic with queryId := id }).sendUnicast t (.query id tag)

/-- A QUERY sent again with the id it was given (R107, R127, R148). -/
def State.resendQuery (s : State) (id : Byte) (t : Nat) (tag : Tag) : State :=
  s.sendUnicast t (.query id tag)

end Sys2Proof.Machine
end

