-- ==== Sys2Proof/Machine/Rebinding.lean ====
section
/-! DEFINITION. The Binding Table at work: contents, pins and changed marks (R136, R150, R151), re-resolution (R143 to R145), the
start and the abandoning of the background query (R147, R149), and entry into ROLLING or DEGRADED (R146). -/

namespace Sys2Proof.Machine

/-- The slot of handle i + 1. -/
def State.slot (s : State) (i : Nat) : HandleSlot :=
  (s.bindings.handles[i]?).getD .free

/-- The slot of handle i + 1 replaced. -/
def State.setSlot (s : State) (i : Nat) (x : HandleSlot) : State :=
  s.setBindings { s.bindings with handles := s.bindings.handles.setIfInBounds i x }

/-- The binding of handle i + 1, if it holds one. -/
def State.binding (s : State) (i : Nat) : Option Binding :=
  match s.slot i with
  | .held b => some b
  | .reserved _ => none
  | .free => none

/-- The places of the table, in handle order. -/
def slots : List Nat :=
  List.range Config.maxHandles

/-- The first place, in handle order, whose slot satisfies a test. -/
def State.firstSlot (s : State) (p : HandleSlot → Bool) : Option Nat :=
  slots.find? fun i => p (s.slot i)

/-- Some binding in the table names this tag (R88, R145); a reserved handle names none. -/
def State.namesTag (s : State) (t : Tag) : Bool :=
  slots.any fun i => match s.binding i with
    | some b => decide (b.question.tag = t)
    | none => false

/-- The pin count of the mirror with this key changed. -/
def Directory.repin (d : Directory) (key : Ident × Tag × Side) (f : Nat → Nat) : Directory :=
  { d with mirrors := d.mirrors.map fun m => if m.hasKey key.1 key.2.1 key.2.2 then { m with pins := f m.pins } else m }

/-- The mirror with this key moved to the most recent end of the use order (R85, R90). -/
def Directory.touch (d : Directory) (owner : Ident) (t : Tag) (sd : Side) : Directory :=
  match d.findMirror owner t sd with
  | some m => { d with mirrors := d.mirrors.filter (fun x => !x.hasKey owner t sd) ++ [m] }
  | none => d

/-- A record given as an answer: a mirror so used moves in the use order (R90). -/
def State.use (s : State) (h : Hit) : State :=
  match h.source with
  | .home => s
  | .mirror => s.setDir (s.dir.touch h.owner h.body.tag h.body.side)

/-- The key of the mirror that a binding state rests on (The binding table). -/
def BindState.mirrorKey (st : BindState) (tag : Tag) : Option (Ident × Tag × Side) :=
  match st with
  | .resolved a =>
    match a.source with
    | .mirror => some (a.owner, tag, a.carSide)
    | .home => none
  | .unresolved _ => none
  | .pending => none

/-- The answer that a record found gives, in terms of the train as it stands (R143). -/
def State.answerOf (s : State) (h : Hit) : Answer where
  source := h.source
  owner := h.owner
  carSide := h.body.side
  trainSide := trainSide (s.consist.aligned h.index) h.body.side
  position := s.consist.position h.index
  index := h.index
  addr := h.body.addr
  state := h.body.state
  rev := h.body.rev

/-- The contents that the outcome of a search gives a binding (R139, R143). -/
def State.bindStateOf (s : State) : Found → BindState
  | .hit h => .resolved (s.answerOf h)
  | .noRecord _ => .unresolved .noRecord
  | .notPresent => .unresolved .notPresent
  | .noConsist => .unresolved .noConsist
  | .ask _ _ => .pending

/-- The stale flag of a binding with these contents (R136). -/
def State.staleOf (s : State) (tag : Tag) (st : BindState) : Bool :=
  if s.roll.state.unsettled then true
  else if s.roll.state ≠ .formed then false
  else
    match st.mirrorKey tag with
    | none => false
    | some k =>
      match s.dir.findMirror k.1 k.2.1 k.2.2 with
      | some m => decide (m.fresh = .stale)
      | none => false

/-- A binding's answer moves off one mirror and onto another (R151). -/
def Directory.movePin (d : Directory) (before after : Option (Ident × Tag × Side)) : Directory :=
  if before = after then d
  else
    let d := match before with
      | some k => d.repin k fun p => p - 1
      | none => d
    match after with
    | some k => d.repin k fun p => p + 1
    | none => d

/-- The binding `b` of handle i + 1 takes new contents: pins move (R151), and where the compared contents differ its changed mark
is set and BINDING_CHANGED raised (R150). -/
def State.takeContents (s : State) (i : Nat) (b : Binding) (st : BindState) (stale : Bool) : State :=
  let s := s.setDir (s.dir.movePin (b.st.mirrorKey b.question.tag) (st.mirrorKey b.question.tag))
  if st = b.st ∧ stale = b.stale then s
  else (s.setSlot i (.held { b with st := st, stale := stale, changed := true })).raise Events.raiseBindingChanged

/-- The background query abandoned: its timer stopped, the query cleared (R149). -/
def State.abandonBackground (s : State) : State :=
  s.setBindings { s.bindings with query := none, timer := .stopped }

/-- The background query after the binding of handle i + 1 has been re-resolved with this outcome (R149): abandoned when it served
that binding and the binding has left PENDING or now wants another car. -/
def State.reviewBackground (s : State) (i : Nat) (f : Found) : State :=
  match s.bindings.query with
  | none => s
  | some q =>
    if q.slot ≠ i then s
    else
      match f with
      | .ask _ id => if id = q.target then s else s.abandonBackground
      | .hit _ => s.abandonBackground
      | .noRecord _ => s.abandonBackground
      | .notPresent => s.abandonBackground
      | .noConsist => s.abandonBackground

/-- The record that a search has found, used in the answer (R90). -/
def State.useFound (s : State) : Found → State
  | .hit h => s.use h
  | .noRecord _ => s
  | .notPresent => s
  | .noConsist => s
  | .ask _ _ => s

/-- The binding of handle i + 1 re-resolved (R143). -/
def State.reResolve (s : State) (i : Nat) : State :=
  match s.binding i with
  | none => s
  | some b =>
    let f := s.search b.question
    let st := s.bindStateOf f
    let s := s.useFound f
    (s.takeContents i b st (s.staleOf b.question.tag st)).reviewBackground i f

/-- The slot holds a PENDING binding. -/
def HandleSlot.isPending : HandleSlot → Bool
  | .held b => decide (b.st = .pending)
  | .reserved _ => false
  | .free => false

/-- A background query is started when its conditions hold (R147): FORMED, READY, none outstanding, some binding PENDING. It serves
the lowest PENDING handle. -/
def State.startBackground (s : State) : State :=
  if s.roll.state = .formed ∧ s.ctrl.part = .ready ∧ s.bindings.query = none then
    match s.firstSlot HandleSlot.isPending with
    | none => s
    | some i =>
      match s.binding i with
      | none => s
      | some b =>
        match s.consist.target b.question.sel with
        | .absent => s
        | .car t =>
          match s.consist.entry t with
          | none => s
          | some r =>
            let s := s.freshQuery (s.resolver.query.map ForegroundQuery.id) t b.question.tag
            s.setBindings { s.bindings with
              query := some { slot := i, id := s.traffic.queryId, target := r.ident, index := t, attempt := 1 }
              timer := .running Config.queryMs }
  else s

/-- Every binding re-resolved in ascending handle order, and then a background query started if its conditions hold (R144). -/
def State.reResolveAll (s : State) : State :=
  (slots.foldl State.reResolve s).startBackground

/-- The binding of handle i + 1 re-resolved if it names this tag. -/
def State.reResolveIf (t : Tag) (s : State) (i : Nat) : State :=
  match s.binding i with
  | some b => if b.question.tag = t then s.reResolve i else s
  | none => s

/-- A creation, update or removal of a record of this tag reported: every binding of the tag is re-resolved, in ascending handle
order (R145), and a background query started if its conditions hold (R147). -/
def State.recordChanged (s : State) (t : Tag) : State :=
  (slots.foldl (State.reResolveIf t) s).startBackground

/-- The stale flag of the binding of handle i + 1 set (R146), and the change marked (R150). -/
def State.markStale (s : State) (i : Nat) : State :=
  match s.binding i with
  | none => s
  | some b => s.takeContents i b b.st true

/-- Entry into ROLLING or DEGRADED at the Binding Table (R146, R149). -/
def State.bindingsUnsettled (s : State) : State :=
  slots.foldl State.markStale s.abandonBackground

/-- An adoption at the Binding Table (R144, R149). -/
def State.bindingsAdopt (s : State) : State :=
  s.abandonBackground.reResolveAll

end Sys2Proof.Machine
end

