-- ==== Sys2Proof/Machine/Records.lean ====
section
/-! DEFINITION. The Function Directory at work: slots, mirror storage, eviction and removal (R85 to R92), home records and their
changes (R80, R81, R83), publishing and the republish burst (R103 to R106), and the purge and refresh window (R96, R97). -/

namespace Sys2Proof.Machine

/-! ## Mirrors -/

/-- A slot is free: the directory holds fewer than 256 records (R75). -/
def Directory.hasFreeSlot (d : Directory) : Bool :=
  decide (d.home.length + d.mirrors.length < Config.maxRecords)

/-- The records of one hash bucket, home and mirror alike (R76). -/
def Directory.bucket (d : Directory) (b : Nat) : List Rec :=
  (d.home ++ d.mirrors.map Mirror.body).filter fun r => decide (bucketIndex r.tag = b)

/-- The mirror that eviction chooses (R92): the least recently used STALE unpinned one, else the least recently used unpinned one. -/
def Directory.victim (d : Directory) : Option Mirror :=
  match d.mirrors.find? fun m => decide (m.fresh = .stale ∧ m.pins = 0) with
  | some m => some m
  | none => d.mirrors.find? fun m => decide (m.pins = 0)

/-- The mirror with this key removed; the others keep their places (R85, R91). -/
def Directory.removeMirror (d : Directory) (owner : Ident) (t : Tag) (sd : Side) : Directory :=
  { d with mirrors := d.mirrors.filter fun m => !m.hasKey owner t sd }

/-- A slot made free if none is (R92): the victim is removed and its removal reported. -/
def State.makeRoom (s : State) : State :=
  if s.dir.hasFreeSlot then s
  else
    match s.dir.victim with
    | none => s
    | some m => (s.setDir (s.dir.removeMirror m.owner m.body.tag m.body.side)).recordChanged m.body.tag

/-- The tag of the CURRENT mirror that a new mirror drives out (R88, R92); none when a slot is free or the victim is STALE. -/
def Directory.givenUp (d : Directory) : Option Tag :=
  if d.hasFreeSlot then none else d.victim.bind fun m => if m.fresh = .current then some m.body.tag else none

/-- A mirror updated from a body with its key (R87): it takes the body's fields, becomes CURRENT, moves to the most recent end and
keeps its pin count; the update is reported. -/
def State.updateMirror (s : State) (m : Mirror) (r : Rec) : State :=
  let d := s.dir.removeMirror m.owner r.tag r.side
  (s.setDir { d with mirrors := d.mirrors ++ [⟨m.owner, r, .current, m.pins⟩] }).recordChanged r.tag

/-- A new mirror put in a free slot, at the most recent end, and its creation reported (R88). With no slot free, which R92 shows cannot
be once room has been made, nothing is stored (log entry 18). -/
def State.addMirror (s : State) (owner : Ident) (r : Rec) : State :=
  if s.dir.hasFreeSlot then
    (s.setDir { s.dir with mirrors := s.dir.mirrors ++ [⟨owner, r, .current, 0⟩] }).recordChanged r.tag
  else s

/-- A new key stored as a mirror, with a slot made free first if none is (R88, R92). DIRECTORY_FULL is raised when a CURRENT mirror was
driven out. It and a BINDING_CHANGED that the reports of the same eviction and creation raise may be placed in either order (R164):
a free value chooses (log entry 8). -/
def State.storeMirror (s : State) (owner : Ident) (r : Rec) : State :=
  let t := s.makeRoom.addMirror owner r
  match s.dir.givenUp with
  | some g => t.raiseBeside s.attn.events.count .directoryFull (Events.raiseDirectoryFull g)
  | none => t

/-- A good body that is to be kept: an update of a held key, a new mirror otherwise (R87, R88, R89). -/
def State.keepBody (s : State) (owner : Ident) (r : Rec) : State :=
  match s.dir.findMirror owner r.tag r.side with
  | some m => s.updateMirror m r
  | none => s.storeMirror owner r

/-- The interest filter entry of a tag (R94). -/
def Directory.interested (d : Directory) (t : Tag) : Bool :=
  (d.interest[filterIndex t]?).getD false

/-- A record body from a PUBLISH, at the Function Directory (R86 to R88). -/
def State.takePublished (s : State) (owner : Ident) (body : RecordBody) : State :=
  match goodBody body with
  | none => s
  | some r =>
    match s.dir.findMirror owner r.tag r.side with
    | some m => s.updateMirror m r
    | none => if s.dir.allMode || s.dir.interested r.tag || s.namesTag r.tag then s.storeMirror owner r else s

/-- The bodies of an ANSWER that belongs to a query stored in their order (R89); a bad body does not prevent the others (R86). -/
def State.storeAnswer (s : State) (owner : Ident) (bodies : List RecordBody) : State :=
  (bodies.filterMap goodBody).foldl (fun s r => s.keepBody owner r) s

/-- A WITHDRAW at the Function Directory (R86, R91). -/
def State.takeWithdrawn (s : State) (owner : Ident) (t : Tag) (side : Byte) : State :=
  match Side.ofCode side with
  | none => s
  | some sd =>
    if t.all tagByteOk then
      match s.dir.findMirror owner t sd with
      | none => s
      | some _ => (s.setDir (s.dir.removeMirror owner t sd)).recordChanged t
    else s

/-! ## Publishing -/

/-- What has become of a home record (R77). -/
inductive HomeChange where
  | created (r : Rec)
  | updated (r : Rec)
  | removed (t : Tag) (sd : Side)
  deriving DecidableEq, Repr

/-- The tag of the record a change is about. -/
def HomeChange.tag : HomeChange → Tag
  | .created r => r.tag
  | .updated r => r.tag
  | .removed t _ => t

/-- The remainder of the burst replaced; the burst runs while it is not empty (R104, R105). -/
def State.setRemainder (s : State) (rem : List (Tag × Side)) : State :=
  s.setTraffic { s.traffic with remainder := rem, burst := !rem.isEmpty }

/-- A home change handed to the Directory Traffic unit while the consist state is FORMED (R77, R104). -/
def State.publishChange (c : HomeChange) (s : State) : State :=
  if s.roll.state ≠ .formed then s
  else
    match c with
    | .removed t sd =>
      let s := s.broadcast (.withdraw t sd.code)
      if s.traffic.burst then s.setRemainder (s.traffic.remainder.filter fun k => decide (k ≠ (t, sd))) else s
    | .created r =>
      if s.traffic.burst then s.setRemainder (s.traffic.remainder ++ [(r.tag, r.side)]) else s.broadcast (.publish r.toBody)
    | .updated r =>
      if s.traffic.burst && s.traffic.remainder.contains (r.tag, r.side) then s else s.broadcast (.publish r.toBody)

/-- A change of a home record reported to the Binding Table and to the Directory Traffic unit (R77). -/
def State.homeChanged (s : State) (c : HomeChange) : State :=
  eitherOrder (fun s => s.recordChanged c.tag) (State.publishChange c) s

/-- A home record changed (R81): if a new value differs it takes the new values and its revision takes one step, and the change is
reported; otherwise nothing happens. The revision in `new` is not looked at. -/
def State.changeHome (s : State) (old new : Rec) : State :=
  if { new with rev := old.rev } = old then s
  else
    let r := { new with rev := stepRevision old.rev }
    (s.setDir { s.dir with
      home := s.dir.home.map fun x => if x.tag = old.tag ∧ x.side = old.side then r else x }).homeChanged (.updated r)

/-- The revision of the home record with this tag and side; 0 when there is none. -/
def State.homeRevision (s : State) (t : Tag) (sd : Side) : Half :=
  ((s.dir.findHome t sd).map Rec.rev).getD 0#16

/-- Every joined end's directory queue holds 8 or fewer frames (R105). -/
def State.burstMayOffer (s : State) : Bool :=
  (decide (s.lineA.state ≠ .locked) || decide (s.lineA.dirQ.length ≤ Config.burstOccupancy))
    && (decide (s.lineB.state ≠ .locked) || decide (s.lineB.dirQ.length ≤ Config.burstOccupancy))

/-- The PUBLISH of the home record with this key offered to every joined end, with its contents as they stand (R103, R105). -/
def State.publishHome (s : State) (k : Tag × Side) : State :=
  match s.dir.findHome k.1 k.2 with
  | some r => s.broadcast (.publish r.toBody)
  | none => s

/-- The burst goes on with this remainder for as long as its condition holds (R105). -/
def State.burstFrom (s : State) : List (Tag × Side) → State
  | [] => s.setRemainder []
  | k :: ks => if s.burstMayOffer then (s.publishHome k).burstFrom ks else s.setRemainder (k :: ks)

/-- The burst started at an adoption: the remainder is the whole home list in its order (R105). -/
def State.burstStart (s : State) : State :=
  s.burstFrom (s.dir.home.map fun r => (r.tag, r.side))

/-- The burst's condition judged again, as a frame leaves a joined end's directory queue (R105). -/
def State.burstContinue (s : State) : State :=
  if s.traffic.burst then s.burstFrom s.traffic.remainder else s

/-! ## Adoption and the refresh window -/

/-- The purge at adoption and the start of the refresh window (R96, R97): mirrors of cars not in the roster are removed, the rest are
marked STALE. The removals are taken by the Binding Table with the adoption. -/
def State.purge (s : State) : State :=
  s.setDir { s.dir with
    mirrors := (s.dir.mirrors.filter fun m => decide (rosterIndex s.consist.roster m.owner ≠ 0)).map
      fun m => { m with fresh := .stale }
    refreshT := .running Config.refreshMs }

/-- Removals reported to the Binding Table one after another, `n` of them at most. The manual gives no order among the removals of one
step, and where there is more than one a free value chooses the next (log entry 14). -/
def State.reportGone : Nat → List Tag → State → State
  | 0, _, s => s
  | n + 1, tags, s =>
    match tags with
    | [] => s
    | [t] => s.recordChanged t
    | t :: rest =>
      let k := Config.freePick s.freeCount % (t :: rest).length
      let s := { s with freeCount := s.freeCount + 1 }
      State.reportGone n ((t :: rest).eraseIdx k) (s.recordChanged (((t :: rest)[k]?).getD t))

/-- The end of the refresh window (R97): every STALE mirror is removed, and each removal is reported. -/
def State.endRefresh (s : State) : State :=
  let gone := (s.dir.mirrors.filter fun m => decide (m.fresh = .stale)).map fun m => m.body.tag
  let s := s.setDir { s.dir with
    mirrors := s.dir.mirrors.filter fun m => decide (m.fresh ≠ .stale)
    refreshT := .stopped }
  State.reportGone gone.length gone s

end Sys2Proof.Machine
end

