-- ==== Sys2Proof/Machine/Operands.lean ====
section
/-! DEFINITION. The parameters of the commands and the data of their status blocks (The Car Port, Layouts by command): parameters
read with the checks of form that each command's rule lays down, data laid out byte by byte. -/

namespace Sys2Proof.Machine

/-- A tag parameter: its length 1 to 16, each byte 21h to 7Eh (R79, R94, R118). -/
def paramTag (bs : List Byte) : Option (Tag × List Byte) :=
  match readTag bs with
  | some (t, rest) => if t.all tagByteOk then some (t, rest) else none
  | none => none

/-- An identity that names a car (R71, R110, R177). -/
def identOk (id : Ident) : Bool :=
  decide (id ≠ 0#32) && decide (id ≠ 0xFFFFFFFF#32)

/-- The parameters of IDENTIFY (R177). -/
def paramIdentify : List Byte → Option (Ident × CabEnd)
  | [i3, i2, i1, i0, cab] =>
    match CabEnd.ofCode cab with
    | some c => if identOk (word i3 i2 i1 i0) then some (word i3 i2 i1 i0, c) else none
    | none => none
  | _ => none

/-- One end (R22, R24, R26). -/
def paramEnd : List Byte → Option LineEnd
  | [b] => LineEnd.ofCode b
  | _ => none

/-- The parameters of RECORD_OFFER and RECORD_UPDATE (R79, R82), as a record of revision 1. -/
def paramRecord (bs : List Byte) : Option Rec :=
  match paramTag bs with
  | some (t, side :: state :: a1 :: a0 :: perm :: rest) =>
    match Side.ofCode side, RecState.ofCode state, Permission.ofCode perm, readAttrs rest with
    | some sd, some st, some pm, some (attrs, []) => some ⟨t, sd, st, half a1 a0, 1#16, pm, attrs⟩
    | _, _, _, _ => none
  | _ => none

/-- The parameters of RECORD_WITHDRAW (R83). -/
def paramTagSide (bs : List Byte) : Option (Tag × Side) :=
  match paramTag bs with
  | some (t, [side]) =>
    match Side.ofCode side with
    | some sd => some (t, sd)
    | none => none
  | _ => none

/-- The parameters of INTEREST_ADD (R94). -/
def paramOnlyTag (bs : List Byte) : Option Tag :=
  match paramTag bs with
  | some (t, []) => some t
  | _ => none

/-- The parameters of REQUEST_STATE (R110). -/
def paramRequest : List Byte → Option (Ident × Tag × Side × RecState)
  | i3 :: i2 :: i1 :: i0 :: bs =>
    match paramTag bs with
    | some (t, [side, desired]) =>
      match Side.ofCode side, RecState.ofCode desired with
      | some sd, some st => if identOk (word i3 i2 i1 i0) then some (word i3 i2 i1 i0, t, sd, st) else none
      | _, _ => none
    | _ => none
  | _ => none

/-- A selector with its value, the last of the parameters (R118). -/
def paramSelector : List Byte → Option Selector
  | [code] =>
    match code.toNat with
    | 0x02 => some .self
    | 0x04 => some .nearest
    | _ => none
  | [code, k] =>
    if 1 ≤ k.toNat ∧ k.toNat ≤ 16 then
      match code.toNat with
      | 0x00 => some (.front k.toNat)
      | 0x01 => some (.rear k.toNat)
      | _ => none
    else none
  | [code, i3, i2, i1, i0] => if code = 0x03#8 ∧ identOk (word i3 i2 i1 i0) then some (.car (word i3 i2 i1 i0)) else none
  | _ => none

/-- The parameters of LOOKUP and BIND (R118, R137). -/
def paramQuestion (bs : List Byte) : Option Question :=
  match paramTag bs with
  | some (t, filter :: rest) =>
    match SideFilter.ofCode filter, paramSelector rest with
    | some f, some sel => some ⟨t, f, sel⟩
    | _, _ => none
  | _ => none

/-- The parameter of INTEREST_ALL (R95). -/
def paramMode : List Byte → Option Bool
  | [b] =>
    match b.toNat with
    | 0x00 => some false
    | 0x01 => some true
    | _ => none
  | _ => none

/-- A handle 1 to 32 (R140, R141), as its place in the table. -/
def paramHandle : List Byte → Option Nat
  | [h] => if 1 ≤ h.toNat ∧ h.toNat ≤ Config.maxHandles then some (h.toNat - 1) else none
  | _ => none

/-- The parameter of EVENT_MASK: two bytes, bits 15 to 9 clear (R166). -/
def paramMask : List Byte → Option (BitVec 9)
  | [hi, lo] => if (half hi lo).toNat < 512 then some ((half hi lo).setWidth 9) else none
  | _ => none

/-- The parameter of VIEW_ACK (R170). -/
def paramView : List Byte → Option Half
  | [hi, lo] => some (half hi lo)
  | _ => none

/-- The parameters of DISPOSITION_SET (R173). -/
def paramDisposition : List Byte → Option (FaultKind × Disposition)
  | [k, d] =>
    match FaultKind.ofCode k, Disposition.ofCode d with
    | some k, some d => if d = .isolate ∧ k.mayIsolate = false then none else some (k, d)
    | _, _ => none
  | _ => none

/-! ## Data -/

/-- The data of one end in LINE_STATUS, 24 bytes (R27). -/
def LineEndSt.statusData (l : LineEndSt) : List Byte :=
  [l.state.code, byteOfBool l.contact, byteOfBool l.isolated, byteOfBool l.barFlag, byteOf l.lockCount, byteOf l.flap,
    byteOf l.ctrlQ.length, byteOf l.dirQ.length] ++
  match l.neighbour with
  | some n => [1#8] ++ be32 n.ident ++ [n.senderEnd.code] ++ be32 n.ea ++ be32 n.digest ++ [n.consist.code, byteOfBool n.barred]
  | none => List.replicate 16 0#8

/-- The data of one roster entry in CONSIST_READ, 8 bytes (R73). -/
def ConsistTable.entryData (c : ConsistTable) (i : Nat) : List Byte :=
  match c.entry i with
  | some r => be32 r.ident ++ [r.facing.code, r.cab.code, byteOf (c.position i), byteOfBool (c.aligned i)]
  | none => []

/-- The data of CONSIST_READ (R73). -/
def State.consistData (s : State) : List Byte :=
  [s.roll.state.code] ++ be32 s.roll.epoch ++ be32 s.consist.ea ++
    [byteOf s.consist.n, byteOf s.consist.ownIdx, s.consist.dir.code] ++ be16 s.consist.view ++ be32 s.consist.digest ++
    [byteOfBool s.consist.conflict] ++ (List.range s.consist.n).flatMap fun i => s.consist.entryData (i + 1)

/-- The number of bindings in the table, a reserved handle counting as free (R135). -/
def State.bindingCount (s : State) : Nat :=
  slots.countP fun i => (s.binding i).isSome

/-- The data of GET_INFO, 25 bytes (R181). -/
def State.infoData (s : State) : List Byte :=
  be32 s.ownId ++ [s.ctrl.cabCfg.code, s.ctrl.part.code, s.ctrl.startCause.code] ++ be32 s.roll.epoch ++ be32 s.consist.ea ++
    be16 s.consist.view ++ [s.roll.state.code, byteOf s.dir.home.length] ++ be16Of s.dir.mirrors.length ++
    [byteOf s.bindingCount] ++ be16 Config.productCode ++ [Config.revisionCode]

/-- One home record in RECORD_LIST (R84). -/
def Rec.listData (r : Rec) : List Byte :=
  [byteOf (bucketIndex r.tag)] ++ tagBytes r.tag ++ [r.side.code, r.state.code] ++ be16 r.addr ++ be16 r.rev ++
    [r.perm.code, byteOf r.attrs.length] ++ r.attrs

/-- The data of RECORD_LIST (R84). -/
def State.recordListData (s : State) : List Byte :=
  byteOf s.dir.home.length :: s.dir.home.flatMap Rec.listData

/-- The data of a LOOKUP that completes with FOUND (R132). -/
def State.foundData (s : State) (h : Hit) : List Byte :=
  [h.source.code, h.fresh.code] ++ be32 h.owner ++
    [byteOf h.index, byteOf (s.consist.position h.index), byteOf (s.consist.hops h.index), h.body.side.code,
      (trainSide (s.consist.aligned h.index) h.body.side).code, h.body.state.code] ++
    be16 h.body.addr ++ be16 h.body.rev ++ [h.body.perm.code, byteOf h.body.attrs.length] ++ h.body.attrs

/-- The data of a LOOKUP that completes with NO_RECORD for a fixed target (R133). -/
def State.noRecordData (s : State) : Option Nat → List Byte
  | none => []
  | some i =>
    match s.consist.entry i with
    | some r => be32 r.ident ++ [byteOf i, byteOf (s.consist.position i)]
    | none => []

/-- A selector with its value (Codes used in blocks). -/
def Selector.data : Selector → List Byte
  | .front k => [0x00#8, byteOf k]
  | .rear k => [0x01#8, byteOf k]
  | .self => [0x02#8]
  | .car id => 0x03#8 :: be32 id
  | .nearest => [0x04#8]

/-- State and reason of a binding record (Layouts by command). -/
def BindState.codes : BindState → List Byte
  | .resolved _ => [0x00#8, 0x00#8]
  | .unresolved r => [0x01#8, r.code]
  | .pending => [0x02#8, 0x00#8]

/-- The answer of a binding record, 16 bytes, with the answering mirror's freshness and pin count (R141). -/
def State.answerData (s : State) (tag : Tag) : BindState → List Byte
  | .resolved a =>
    [a.source.code] ++ be32 a.owner ++ [a.carSide.code, a.trainSide.code, byteOf a.position, byteOf a.index] ++ be16 a.addr ++
      [a.state.code] ++ be16 a.rev ++
      match a.source, s.dir.findMirror a.owner tag a.carSide with
      | .mirror, some m => [m.fresh.code, byteOf m.pins]
      | .mirror, none => [0#8, 0#8]
      | .home, _ => [0#8, 0#8]
  | .unresolved _ => List.replicate 16 0#8
  | .pending => List.replicate 16 0#8

/-- The binding record of handle i + 1 (Layouts by command). -/
def State.bindingData (s : State) (i : Nat) (b : Binding) : List Byte :=
  [byteOf (i + 1)] ++ tagBytes b.question.tag ++ [b.question.filter.code] ++ b.question.sel.data ++ b.st.codes ++
    s.answerData b.question.tag b.st ++ [byteOfBool b.stale, byteOfBool b.changed]

/-- The kind and data of a pending event as EVENT_READ gives them (Layouts by command). -/
def Events.data (ev : Events) (k : EventKind) : List Byte :=
  k.code ::
  match k with
  | .fault => [(ev.fault.getD 0#6).setWidth 8]
  | .lineA => match ev.lineA with
    | some (x, y) => [x.code, y.code]
    | none => []
  | .lineB => match ev.lineB with
    | some (x, y) => [x.code, y.code]
    | none => []
  | .consistUnsettled => match ev.unsettled with
    | some c => [c.code]
    | none => []
  | .consistView => match ev.view with
    | some v => be16 v.view ++ [v.dir.code, byteOf v.n]
    | none => []
  | .bindingChanged => []
  | .remoteChange => match ev.remoteChange with
    | some d => tagBytes d.tag ++ [d.side.code, d.state.code] ++ be32 d.requester
    | none => []
  | .directoryFull => match ev.directoryFull with
    | some t => tagBytes t
    | none => []
  | .wake => match ev.wake with
    | some c => [c.code]
    | none => []

/-- The flags byte of a status block (The status block). -/
def StatusBlock.flags (b : StatusBlock) : Byte :=
  (if b.attention then 1#8 else 0#8) ||| (if b.overrun then 2#8 else 0#8) ||| (if b.stale then 4#8 else 0#8)

/-- The bytes of a status block (The status block). -/
def StatusBlock.bytes (b : StatusBlock) : List Byte :=
  [b.status.code, b.tag] ++ be16Of b.data.length ++ be16 b.view ++ [b.flags, b.consist.code] ++ b.data

/-- What the part shifts out in the first `n` bytes after the access byte C3h of a read transaction (R153): in READY the held status
block and 00h beyond it, otherwise FFh. A read changes nothing. While the port reset input is asserted select is ignored (R161), and
no byte is shifted. -/
def State.readTransaction (s : State) (n : Nat) : List Byte :=
  if s.port.resetInput then []
  else
    match s.port.state, s.port.status with
    | .ready, some b => (b.bytes ++ List.replicate n 0#8).take n
    | .ready, none => List.replicate n 0xFF#8
    | .empty, _ => List.replicate n 0xFF#8
    | .inFlight, _ => List.replicate n 0xFF#8

/-- What the part shifts out in the first `n` bytes after any access byte (R153): the answer of a read after C3h, FFh after any other
access byte. -/
def State.shiftOut (s : State) (access : Byte) (n : Nat) : List Byte :=
  if s.port.resetInput then [] else if access = 0xC3#8 then s.readTransaction n else List.replicate n 0xFF#8

end Sys2Proof.Machine
end

