-- ==== Sys2Proof/Machine/Outcomes.lean ====
section
/-! DEFINITION. How a LOOKUP or BIND ends: the Resolver's outcomes (R127 to R134), the binding created from one (R139), and the
foreground query's start, answer and abandoning. -/

namespace Sys2Proof.Machine

/-- The outcome of a resolution (R132, R133). -/
inductive Outcome where
  | found (h : Hit)
  | noRecord (target : Option Nat)
  | notPresent
  | noConsist
  | noAnswer
  | consistChanged
  deriving DecidableEq, Repr

/-- The foreground query cleared and its timer stopped. -/
def State.clearForeground (s : State) : State :=
  s.setResolver { query := none, timer := .stopped }

/-- A LOOKUP completes with an outcome; its stale flag is set in ROLLING and DEGRADED and for a STALE mirror (R132 to R134). -/
def State.completeLookup (s : State) : Outcome → State
  | .found h => s.complete .found (s.foundData h) (s.roll.state.unsettled || decide (h.fresh = .stale))
  | .noRecord t => s.complete .noRecord (s.noRecordData t) s.roll.state.unsettled
  | .notPresent => s.complete .notPresent [] s.roll.state.unsettled
  | .noConsist => s.complete .noConsist [] s.roll.state.unsettled
  | .noAnswer => s.complete .noAnswer [] s.roll.state.unsettled
  | .consistChanged => s.complete .consistChanged [] s.roll.state.unsettled

/-- A binding created in place i, its answering mirror pinned, and its BIND completed with it (R139). -/
def State.createBinding (s : State) (i : Nat) (q : Question) (st : BindState) : State :=
  let s := s.setDir (s.dir.movePin none (st.mirrorKey q.tag))
  let b : Binding := ⟨q, st, s.staleOf q.tag st, false⟩
  let s := s.setSlot i (.held b)
  s.complete .success (s.bindingData i b) b.stale

/-- A record found, as the directory holds it: for a mirror the fields of the mirror held under its key (R139). -/
def State.asHeld (s : State) (h : Hit) : Hit :=
  match h.source with
  | .home => h
  | .mirror =>
    match s.dir.findMirror h.owner h.body.tag h.body.side with
    | some m => { h with fresh := m.fresh, body := m.body }
    | none => h

/-- The binding state that an outcome gives, CONSIST_CHANGED apart (R139). A record taken from an ANSWER resolves the binding on the
mirror of its key that is held once all bodies of the ANSWER have been stored. -/
def State.createdState (s : State) : Outcome → BindState
  | .found h => .resolved (s.answerOf (s.asHeld h))
  | .noRecord _ => .unresolved .noRecord
  | .notPresent => .unresolved .notPresent
  | .noConsist => .unresolved .noConsist
  | .noAnswer => .unresolved .noAnswer
  | .consistChanged => .pending

/-- The BIND of place i ends with an outcome (R139); CONSIST_CHANGED has it resolved locally under R143. -/
def State.completeBind (s : State) (i : Nat) (q : Question) : Outcome → State
  | .consistChanged =>
    let f := s.search q
    let st := s.bindStateOf f
    (s.useFound f).createBinding i q st
  | .found h => s.createBinding i q (s.createdState (.found h))
  | .noRecord t => s.createBinding i q (s.createdState (.noRecord t))
  | .notPresent => s.createBinding i q (s.createdState .notPresent)
  | .noConsist => s.createBinding i q (s.createdState .noConsist)
  | .noAnswer => s.createBinding i q (s.createdState .noAnswer)

/-- The slot is reserved for the BIND in flight. -/
def HandleSlot.isReserved : HandleSlot → Bool
  | .reserved _ => true
  | .held _ => false
  | .free => false

/-- The resolution of the command in flight ends with an outcome: of a BIND when a handle is reserved, of a LOOKUP otherwise (R138). -/
def State.endResolution (s : State) (o : Outcome) : State :=
  match s.firstSlot HandleSlot.isReserved with
  | some i =>
    match s.slot i with
    | .reserved q => s.completeBind i q o
    | .held _ => s.completeLookup o
    | .free => s.completeLookup o
  | none => s.completeLookup o

/-- The foreground query started (R126): a fresh query id, the QUERY, and the query timer. -/
def State.startForeground (s : State) (q : Question) (t : Nat) (id : Ident) : State :=
  let s := s.freshQuery (s.bindings.query.map BackgroundQuery.id) t q.tag
  s.setResolver
    { query := some { id := s.traffic.queryId, target := id, index := t, tag := q.tag, filter := q.filter, attempt := 1 }
      timer := .running Config.queryMs }

/-- The question of a LOOKUP or BIND resolved (R119 to R126, R138): a remote car without a match in FORMED is queried and the command
stays in flight; every other outcome completes it. -/
def State.resolve (s : State) (q : Question) : State :=
  match s.search q with
  | .hit h => (s.use h).endResolution (.found h)
  | .noRecord t => s.endResolution (.noRecord t)
  | .notPresent => s.endResolution .notPresent
  | .noConsist => s.endResolution .noConsist
  | .ask t id => s.startForeground q t id

/-- Entry into ROLLING, or an adoption, at the Resolver (R129). -/
def State.abandonForeground (s : State) : State :=
  match s.resolver.query with
  | none => s
  | some _ => s.clearForeground.endResolution .consistChanged

/-- The bodies of an ANSWER that the foreground query matches among: the good ones of its tag (R128). -/
def answerCandidates (q : ForegroundQuery) (bodies : List RecordBody) : List Hit :=
  ((bodies.filterMap goodBody).filter fun r => decide (r.tag = q.tag)).map fun r => ⟨.mirror, .current, q.index, q.target, r⟩

/-- One of the candidates that the side filter prefers. More than one is possible only for bodies with one key, and then a free value
chooses which of them a LOOKUP gives (log entry 9); a BIND rests on the one mirror of that key. -/
def State.pickAnswer (s : State) (l : List Hit) : Option Hit :=
  match l with
  | [] => none
  | [h] => some h
  | h :: rest => some (((h :: rest)[Config.freePick s.freeCount % (h :: rest).length]?).getD h)

/-- An ANSWER to the foreground query, its bodies stored (R128). -/
def State.answerForeground (s : State) (q : ForegroundQuery) (bodies : List RecordBody) : State :=
  let s := s.storeAnswer q.target bodies
  let l := preferred (s.consist.aligned q.index) q.filter (answerCandidates q bodies)
  let chosen := s.pickAnswer l
  let s := if l.length ≤ 1 then s else { s with freeCount := s.freeCount + 1 }
  let s := s.clearForeground
  match chosen with
  | some h => (s.use h).endResolution (.found h)
  | none => s.endResolution (.noRecord (some q.index))

/-- An ANSWER to the background query (R148): its bodies are stored; if the query still stands, its binding is UNRESOLVED with reason
NO_RECORD. Then the next PENDING binding is served (R147). -/
def State.answerBackground (s : State) (q : BackgroundQuery) (bodies : List RecordBody) : State :=
  let s := s.storeAnswer q.target bodies
  if (s.bindings.query.map fun p => (p.id, p.slot)) ≠ some (q.id, q.slot) then s
  else
    let s := s.abandonBackground
    match s.binding q.slot with
    | some b => (s.takeContents q.slot b (.unresolved .noRecord) (s.staleOf b.question.tag (.unresolved .noRecord))).startBackground
    | none => s.startBackground

/-- The background query's second expiry (R148). -/
def State.backgroundTimeout (s : State) (q : BackgroundQuery) : State :=
  let s := s.abandonBackground
  match s.binding q.slot with
  | some b => (s.takeContents q.slot b (.unresolved .noAnswer) (s.staleOf b.question.tag (.unresolved .noAnswer))).startBackground
  | none => s.startBackground

end Sys2Proof.Machine
end

