-- ==== Sys2Proof/Machine/Adoption.lean ====
section
/-! DEFINITION. The Consist Table at work (R55 to R66): direction and cab conflict, the view number, the part's own cab, STEER frames
offered; and adoption, the one event that all blocks take part in (R49). -/

namespace Sys2Proof.Machine

/-- CONSIST_VIEW raised with the view number, D and N as they stand (R57). -/
def State.raiseView (s : State) : State :=
  s.raise (Events.raiseView ⟨s.consist.view, s.consist.dir, s.consist.n⟩)

/-- The view number takes one step, after 65535 to 0, and CONSIST_VIEW is raised (R57). -/
def State.stepView (s : State) : State :=
  (s.setConsist { s.consist with view := s.consist.view + 1#16 }).raiseView

/-- D and the cab conflict flag recomputed from the entries (R58); CAB_CONFLICT is reported when the flag goes from clear to set
(R59). -/
def State.recomputeCabs (s : State) : State :=
  let conflict := conflictOf s.consist.roster
  let t := s.setConsist { s.consist with dir := directionOf s.consist.roster, conflict := conflict }
  if conflict && !s.consist.conflict then t.reportFault .cabConflict else t

/-- A recomputation between adoptions: a change of D steps the view number (R57) and is reported to the Binding Table, which
re-resolves every binding (R58, R144). -/
def State.recomputeDirection (s : State) : State :=
  let t := s.recomputeCabs
  if t.consist.dir = s.consist.dir then t else t.stepView.reResolveAll

/-- The active cab end of the entry at roster index i written. -/
def ConsistTable.setCab (c : ConsistTable) (i : Nat) (cab : CabEnd) : ConsistTable :=
  if i = 0 then c else { c with roster := c.roster.modify (i - 1) fun r => { r with cab := cab } }

/-- The STEER that announces the part's own active cab end (R64). -/
def State.steerFrame (s : State) : Frame :=
  s.dirFrame 0#8 (.steer s.ownCab.code)

/-- A STEER offered to the control queue of each joined end (R62, R63, R64). -/
def State.sendSteer (s : State) : State :=
  (s.offerCtrl .a s.steerFrame).offerCtrl .b s.steerFrame

/-- A change of the part's own active cab end (R62). -/
def State.ownCabChanged (s : State) : State :=
  match s.roll.state with
  | .formed => (s.setConsist (s.consist.setCab s.consist.ownIdx s.ownCab)).recomputeDirection.sendSteer
  | .rolling => s
  | .degraded => s
  | .unformed => s

/-! ## Adoption -/

/-- Directory frames of other epochs removed from a directory queue (R19). -/
def LineEndSt.trimEpoch (ea : Epoch) (l : LineEndSt) : LineEndSt :=
  { l with dirQ := l.dirQ.filter fun f => decide (f.hdr.epoch = ea) }

/-- Adoption at the Roll-Call Engine (R49), and the pending CONSIST_UNSETTLED told of the change to FORMED (R32). -/
def State.rollAdopt (s : State) (e : Epoch) : State :=
  let t := s.setRoll { s.roll with epoch := e, state := .formed, attempts := 0, timer := .stopped }
  if s.roll.state = .formed then t else t.raise (Events.noteConsist .formed)

/-- Adoption at the Consist Table, up to the comparison of the own cab (R55, R56, R58, R59). -/
def State.tableAdopt (s : State) (roster : List RosterEntry) (e : Epoch) : State :=
  (s.setConsist { s.consist with
    roster := roster
    ea := e
    ownIdx := rosterIndex roster s.ownId
    digest := rosterDigest roster }).recomputeCabs

/-- The comparison of the part's own active cab end with its roster entry (R63). -/
def State.compareOwnCab (s : State) : State :=
  match s.consist.entry s.consist.ownIdx with
  | none => s
  | some r =>
    if r.cab = s.ownCab then s
    else (s.setConsist (s.consist.setCab s.consist.ownIdx s.ownCab)).recomputeCabs.sendSteer

/-- CAB_CONFLICT reported at an adoption after which the flag is set (R59). -/
def State.adoptionConflict (s : State) : State :=
  if s.consist.conflict then s.reportFault .cabConflict else s

/-- The outstanding change request abandoned by the consist: its REQUEST_STATE completes with CONSIST_CHANGED (R114). -/
def State.abandonChange (s : State) : State :=
  match s.traffic.change with
  | none => s
  | some _ => (s.setTraffic { s.traffic with change := none, changeT := .stopped }).complete .consistChanged [] false

/-- Adoption at the Directory Traffic unit, the burst apart (R99, R114, R116). -/
def State.trafficAdopt (s : State) : State :=
  let s := s.abandonChange
  s.setTraffic { s.traffic with replies := [] }

/-- A frame offered to an end, if there is one to offer. -/
def State.offerCtrlIf (s : State) : Option (LineEnd × Frame) → State
  | some (e, f) => s.offerCtrl e f
  | none => s

/-- Adoption of a roster at an epoch (R49), block by block in the order of its table. `roster` frames of the same adoption (R44, R48)
are offered before a STEER (R63). The Directory Traffic unit's burst and the Binding Table's background query may be offered in either
order. -/
def State.adopt (s : State) (roster : List RosterEntry) (e : Epoch) (rosterFrame : Option (LineEnd × Frame)) : State :=
  let s := (s.rollAdopt e).updEnds (LineEndSt.trimEpoch e)
  let s := ((s.tableAdopt roster e).offerCtrlIf rosterFrame).compareOwnCab
  let s := s.adoptionConflict.stepView
  let s := s.purge.trafficAdopt.abandonForeground
  eitherOrder State.burstStart State.bindingsAdopt s

end Sys2Proof.Machine
end

