-- ==== Sys2Proof/Machine/Triggers.lean ====
section
/-! DEFINITION. The Roll-Call Engine at work: epochs (R29), entry into ROLLING and DEGRADED (R31, R32, R51), CALL and ROLL originated
(R35, R38) and the roll-call trigger (R31). -/

namespace Sys2Proof.Machine

/-- E increased (R29). -/
def increaseEpoch (e : Epoch) : Epoch :=
  if e = 0xFFFFFFFF#32 then e else e + 1#32

/-- The larger of two epochs, compared as unsigned numbers (R29). -/
def raiseEpoch (e f : Epoch) : Epoch :=
  if e ≤ f then f else e

/-- Which ends are joined (R30). -/
inductive Joined where
  | neither
  | one (e : LineEnd)
  | two
  deriving DecidableEq, Repr

/-- The joined ends, read afresh (Joined ends and triggers). -/
def State.joinedEnds (s : State) : Joined :=
  match s.joined .a, s.joined .b with
  | false, false => .neither
  | true, false => .one .a
  | false, true => .one .b
  | true, true => .two

/-- What the Directory Traffic unit, the Resolver and the Binding Table do when entry into ROLLING or DEGRADED is reported (R32, R106,
R114, R129, R146). -/
def State.reportUnsettled (s : State) : State :=
  (s.setRemainder []).abandonChange.abandonForeground.bindingsUnsettled

/-- Entry into ROLLING from another consist state (R31, R32), its attempt count 0 and its roll timer at 250 ms. -/
def State.enterRolling (s : State) : State :=
  ((s.setRoll { s.roll with state := .rolling, attempts := 0, timer := .running Config.rollFastMs }).raise
    (Events.raiseUnsettled .rolling)).reportUnsettled

/-- The roll timer of a part that is ROLLING or DEGRADED restarted (R38, R42). -/
def RollCall.restart (r : RollCall) : RollCall :=
  match r.state with
  | .degraded => { r with timer := .running Config.rollSlowMs }
  | .rolling => { r with timer := .running Config.rollFastMs }
  | .formed => { r with timer := .running Config.rollFastMs }
  | .unformed => { r with timer := .running Config.rollFastMs }

/-- The fast attempts begun (R31): a part not in ROLLING enters it; a part in ROLLING sets its attempt count to 0 and restarts its
timer. -/
def State.startRolling (s : State) : State :=
  if s.roll.state = .rolling then s.setRoll { s.roll with attempts := 0, timer := .running Config.rollFastMs } else s.enterRolling

/-- The part's entry of a ROLL (R38, R42, R43). -/
def State.ownEntry (s : State) (toward : LineEnd) : CarEntry :=
  ⟨s.ownId, toward.code, s.ownCab.code⟩

/-- A control frame of the Roll-Call Engine: E, the part's identity, destination index 0 (R35, R38, R44). -/
def State.rollFrame (s : State) (srcIdx : Nat) (p : Payload) : Frame :=
  ⟨⟨s.roll.epoch, s.ownId, 0#8, byteOf srcIdx⟩, p⟩

/-- A ROLL originated out of an end (R38). -/
def State.originate (s : State) (e : LineEnd) : State :=
  let e' := increaseEpoch s.roll.epoch
  let s := s.setRoll { s.roll with epoch := e', lastOrig := e' }
  let s := s.offerCtrl e (s.rollFrame 0 (.roll [s.ownEntry e.other]))
  s.setRoll s.roll.restart

/-- A CALL offered to both ends (R35). -/
def State.sendCalls (s : State) : State :=
  (s.offerCtrl .a (s.rollFrame 0 .call)).offerCtrl .b (s.rollFrame 0 .call)

/-- The one-car roster (R31): the part's own identity, facing A and its own active cab end. -/
def State.ownRoster (s : State) : List RosterEntry :=
  [⟨s.ownId, .a, s.ownCab⟩]

/-- A roll-call trigger taken (R31). -/
def State.trigger (s : State) : State :=
  match s.joinedEnds with
  | .neither => s.adopt s.ownRoster (increaseEpoch s.roll.epoch) none
  | .one e => s.startRolling.originate e
  | .two => s.startRolling.sendCalls

/-- DEGRADED entered from ROLLING (R51, R32). -/
def State.enterDegraded (s : State) : State :=
  let s := s.setRoll { s.roll with state := .degraded, timer := .running Config.rollSlowMs }
  (s.reportFault .rollFailed).raise (Events.raiseUnsettled .degraded) |>.reportUnsettled

end Sys2Proof.Machine
end

