-- ==== Sys2Proof/Machine/Ends.lean ====
section
/-! DEFINITION. The life of a line end (R2 to R6, R9, R10, R20, R21, R23 to R26): what each entry into a state does to the end, the
reports a change makes, the flap count, isolation, and the release and engagement of the bypass. -/

namespace Sys2Proof.Machine

/-! ## What a change does to the end itself -/

/-- Everything an end stops, empties and clears on entering OPEN, ISOLATED or BYPASSED (R2, R5, R20, R25), the release timer and the
leak timer apart. -/
def LineEndSt.cleared (l : LineEndSt) : LineEndSt :=
  { l with
    barFlag := false
    lockCount := 0
    neighbour := none
    ctrlQ := []
    dirQ := []
    sending := none
    settleT := .stopped
    lossT := .stopped
    beaconT := .stopped }

/-- The end enters OPEN (R3, R4, R5, R26). -/
def LineEndSt.toOpen (l : LineEndSt) : LineEndSt :=
  { l.cleared with state := .opened }

/-- The end enters SETTLING, its settle timer started (R3, R4, R26). -/
def LineEndSt.toSettling (l : LineEndSt) : LineEndSt :=
  { l with state := .settling, ctrlQ := [], dirQ := [], sending := none, settleT := .running Config.settleMs }

/-- The end enters ISOLATED with its isolation flag set (R3, R24, R25). -/
def LineEndSt.toIsolated (l : LineEndSt) : LineEndSt :=
  { l.cleared with state := .isolated, isolated := true }

/-- The end enters BYPASSED as the bypass is engaged and the part leaves READY (R2, R23). -/
def LineEndSt.toBypassed (l : LineEndSt) : LineEndSt :=
  { l.cleared with state := .bypassed, releaseT := .stopped, leakT := .stopped }

/-- Where an end goes by its contact (R3, R26). -/
def LineEndSt.byContact (l : LineEndSt) : LineEndSt :=
  if l.contact then l.toSettling else l.toOpen

/-- The end enters HUNTING from SETTLING: its lock count is 0, its first beacon is offered and its beacon timer started (R4, R12). -/
def LineEndSt.toHunting (l : LineEndSt) : LineEndSt :=
  ({ l with state := .hunting, lockCount := 0, settleT := .stopped, beaconT := .running Config.beaconMs } : LineEndSt).offerBeacon

/-- The queues of an end that leaves LOCKED for HUNTING or BARRED (R20). -/
def LineEndSt.trimQueues (l : LineEndSt) : LineEndSt :=
  { l with dirQ := [], ctrlQ := l.ctrlQ.filter fun c => decide (c = .beacon) }

/-- The end drops to HUNTING as its loss timer expires (R10, R20). -/
def LineEndSt.toLost (l : LineEndSt) : LineEndSt :=
  { l.trimQueues with state := .hunting, lockCount := 0, lossT := .stopped }

/-- The end leaves HUNTING, framed: for BARRED if its bar flag is set and for LOCKED otherwise, its loss timer started (R9). -/
def LineEndSt.toFramed (l : LineEndSt) : LineEndSt :=
  { l with state := if l.barFlag then .barred else .locked, lockCount := 0, lossT := .running Config.lossMs }

/-- The end goes from LOCKED to BARRED (R15, R20, R21). -/
def LineEndSt.toBarred (l : LineEndSt) : LineEndSt :=
  { l.trimQueues with state := .barred, barFlag := true }

/-- The bar flag cleared; an end in BARRED goes to LOCKED, its loss timer running on (R15, R22). -/
def LineEndSt.unbarred (l : LineEndSt) : LineEndSt :=
  { l with barFlag := false, state := if l.state = .barred then .locked else l.state }

/-! ## Reports -/

/-- A line end changed and its change reported, the roll-call trigger apart (R6). -/
def State.moveEnd (s : State) (e : LineEnd) (f : LineEndSt → LineEndSt) : State :=
  let old := s.lineEnd e
  let s := s.setEnd e (f old)
  if (f old).state = old.state then s else s.raise (Events.raiseLine e old.state (f old).state)

/-- A line end changed and its change reported (R6): the event, and the roll-call trigger of an entry into or exit from LOCKED (R30). -/
def State.changeEnd (s : State) (e : LineEnd) (f : LineEndSt → LineEndSt) : State :=
  let old := s.lineEnd e
  let s := s.moveEnd e f
  if (f old).state = old.state then s
  else if old.state = .locked ∨ (f old).state = .locked then s.trigger
  else s

/-- An end isolated as by LINE_ISOLATE (R24, R25, R172). -/
def State.isolateEnd (s : State) (e : LineEnd) : State :=
  match (s.lineEnd e).state with
  | .bypassed => s.updEnd e fun l => { l with isolated := true }
  | .isolated => s
  | .opened => s.changeEnd e LineEndSt.toIsolated
  | .settling => s.changeEnd e LineEndSt.toIsolated
  | .hunting => s.changeEnd e LineEndSt.toIsolated
  | .locked => s.changeEnd e LineEndSt.toIsolated
  | .barred => s.changeEnd e LineEndSt.toIsolated

/-- A fault report that concerns an end (R171, R172). Under ISOLATE the FAULT event and the isolation may be made in either order. -/
def State.reportEndFault (s : State) (k : FaultKind) (e : LineEnd) : State :=
  match s.attn.disp.get k with
  | .silent => s
  | .report => s.raise (Events.raiseFault k)
  | .isolate => (s.isolateEnd e).raiseBeside s.attn.events.count .fault (Events.raiseFault k)

/-- The flap count of an end rises by 1, not above 8; from 4 to 5 it reports its flap fault (R23). -/
def State.flapRise (s : State) (e : LineEnd) : State :=
  let n := (s.lineEnd e).flap
  let s := s.updEnd e fun l => { l with flap := min (n + 1) Config.flapMax }
  if n + 1 = Config.flapFault then s.reportEndFault (.flap e) e else s

/-- An end changed by the opening of its contact or by the loss of its link; an exit from LOCKED counts a flap (R5, R10, R23). -/
def State.loseEnd (s : State) (e : LineEnd) (f : LineEndSt → LineEndSt) : State :=
  let old := (s.lineEnd e).state
  let s := s.changeEnd e f
  if old = .locked then s.flapRise e else s

/-- The end asked to bar by the Roll-Call Engine (R21). -/
def State.barEnd (s : State) (e : LineEnd) : State :=
  match (s.lineEnd e).state with
  | .locked => s.changeEnd e LineEndSt.toBarred
  | .hunting => s.updEnd e fun l => { l with barFlag := true }
  | .barred => s
  | .bypassed => s
  | .opened => s
  | .settling => s
  | .isolated => s

/-! ## Bypass, entry into READY and wake -/

/-- An end as the bypass is released and the part enters READY (R3, R23). -/
def LineEndSt.released (l : LineEndSt) : LineEndSt :=
  { l with
    releaseT := if l.state = .bypassed then .running Config.releaseMs else l.releaseT
    leakT := .running Config.leakMs }

/-- The part enters READY (R176): the bypass is released, and the entry is a roll-call trigger (R30). -/
def State.enterReady (s : State) : State :=
  ((s.setCtrl { s.ctrl with part := .ready, bypass := false }).updEnds LineEndSt.released).trigger

/-- A DORMANT part wakes (R179). The adoption and the WAKE event may be made in either order. -/
def State.wake (s : State) (c : Cause) : State :=
  s.enterReady.raiseBeside s.attn.events.count .wake (Events.raiseWake c)

/-- The part enters DORMANT (R2, R53, R98, R149, R178): the bypass is engaged, both ends go to BYPASSED, and the timers that run
only in READY stop. The event set and the attention output are left as they were (R174), so the changes of the ends to
BYPASSED raise no LINE_A and no LINE_B: DEDUCED, R174 and R178 before the general words of R6 (log entry 28). -/
def State.enterDormant (s : State) : State :=
  let s := (s.setCtrl { s.ctrl with part := .dormant, bypass := true }).updEnds LineEndSt.toBypassed
  let s := s.setRoll { s.roll with timer := .stopped }
  let s := s.setDir { s.dir with refreshT := .stopped }
  s.abandonBackground

end Sys2Proof.Machine
end

