-- ==== Sys2Proof/Machine/RollFrames.lean ====
section
/-! DEFINITION. CALL, ROLL, ROSTER and STEER frames handed on from a joined end, the beacon mismatch, and the roll timer's expiry
(R33, R36, R37, R39 to R48, R50, R52, R65, R66). -/

namespace Sys2Proof.Machine

/-! ## CALL -/

/-- E raised to a received epoch (R29). -/
def State.raiseE (s : State) (e : Epoch) : State :=
  s.setRoll { s.roll with epoch := raiseEpoch s.roll.epoch e }

/-- A CALL at an intermediate, arrived on end `e` (R36). -/
def State.callAtIntermediate (s : State) (e : LineEnd) (f : Frame) : State :=
  let old := s.roll.epoch
  let s := s.raiseE f.hdr.epoch
  match s.roll.state with
  | .formed => (s.offerCtrl e.other f).enterRolling
  | .degraded => s.offerCtrl e.other f
  | .rolling => if old < f.hdr.epoch then s.offerCtrl e.other f else s
  | .unformed => s

/-- A CALL at a terminal, arrived on its joined end `e` (R37). -/
def State.callAtTerminal (s : State) (e : LineEnd) (f : Frame) : State :=
  let s := s.raiseE f.hdr.epoch
  match s.roll.state with
  | .formed => s.enterRolling.originate e
  | .degraded => s.originate e
  | .rolling => if s.roll.lastOrig ≤ f.hdr.epoch then s.originate e else s
  | .unformed => s

/-- A CALL handed on from a joined end (R36, R37). -/
def State.takeCall (s : State) (e : LineEnd) (f : Frame) : State :=
  match s.joinedEnds with
  | .two => s.callAtIntermediate e f
  | .one _ => s.callAtTerminal e f
  | .neither => s

/-! ## ROLL -/

/-- The identities of a list of entries differ from one another. -/
def distinctIdents : List CarEntry → Bool
  | [] => true
  | c :: cs => cs.all (fun d => decide (d.ident ≠ c.ident)) && distinctIdents cs

/-- An entry's identity names a car, and its end and cab codes are codes of the table (R39, R46). -/
def CarEntry.ok (c : CarEntry) : Bool :=
  identOk c.ident && (LineEnd.ofCode c.face).isSome && (CabEnd.ofCode c.cab).isSome

/-- The form of a ROLL (R39). -/
def rollFormOk (es : List CarEntry) : Bool :=
  !es.isEmpty && es.all CarEntry.ok && distinctIdents es

/-- The roster entry of a car entry whose codes are good, its facing the end given or the one opposite. -/
def CarEntry.toRoster (opposite : Bool) (c : CarEntry) : RosterEntry :=
  let face := (LineEnd.ofCode c.face).getD .a
  ⟨c.ident, if opposite then face.other else face, (CabEnd.ofCode c.cab).getD .none⟩

/-- The roster built from the entries of a completed ROLL (R43): about its first entry when that is the lower identity of the two
end cars, about its last entry otherwise. -/
def buildRoster (es : List CarEntry) : List RosterEntry :=
  match es.head?, es.getLast? with
  | some first, some last =>
    if first.ident < last.ident then es.map (CarEntry.toRoster false) else es.reverse.map (CarEntry.toRoster true)
  | _, _ => []

/-- A roster entry as a ROSTER carries it (R44). -/
def RosterEntry.toCar (r : RosterEntry) : CarEntry :=
  ⟨r.ident, r.facing.code, r.cab.code⟩

/-- A terminal completes a ROLL (R43): it appends its entry, builds the roster, adopts it at the ROLL's epoch and offers a ROSTER to
the arrival end (R44). -/
def State.completeRoll (s : State) (e : LineEnd) (es : List CarEntry) : State :=
  let roster := buildRoster (es ++ [s.ownEntry e])
  let frame := s.rollFrame (rosterIndex roster s.ownId) (.roster (roster.map RosterEntry.toCar))
  s.adopt roster s.roll.epoch (some (e, frame))

/-- An intermediate appends its entry to a ROLL and forwards it (R42). -/
def State.appendRoll (s : State) (e : LineEnd) (f : Frame) (es : List CarEntry) : State :=
  let s := s.offerCtrl e.other ⟨f.hdr, .roll (es ++ [s.ownEntry e])⟩
  s.setRoll s.roll.restart

/-- E and the consist state as an accepted ROLL leaves them (R39). -/
def State.acceptRoll (s : State) (e : Epoch) : State :=
  let t := s.setRoll { s.roll with epoch := e }
  if t.roll.state = .formed then t.enterRolling else t

/-- A ROLL handed on from a joined end (R39 to R43). -/
def State.takeRoll (s : State) (e : LineEnd) (f : Frame) (es : List CarEntry) : State :=
  if !rollFormOk es then s
  else if f.hdr.epoch < s.roll.epoch then s
  else
    let s := s.acceptRoll f.hdr.epoch
    if es.any fun c => decide (c.ident = s.ownId) then s.reportEndFault .duplicateId e
    else if es.length ≥ Config.maxCars then (s.barEnd e).reportFault .overlength
    else
      match s.joinedEnds with
      | .two => s.appendRoll e f es
      | .one _ => s.completeRoll e es
      | .neither => s.completeRoll e es

/-! ## ROSTER -/

/-- The consistency check of a ROSTER, arrived on end `e` (R46). -/
def State.rosterOk (s : State) (e : LineEnd) (f : Frame) (es : List CarEntry) : Bool :=
  let roster := es.map (CarEntry.toRoster false)
  let own := rosterIndex roster s.ownId
  let src := f.hdr.srcIdx.toNat
  es.all CarEntry.ok && distinctIdents es && decide (own ≠ 0) && decide (1 ≤ src) &&
    (match es[src - 1]? with
      | some c => decide (c.ident = f.hdr.src)
      | none => false) &&
    decide (src ≠ own) &&
    match roster[own - 1]? with
    | some r => if src < own then decide (e = r.facing) else decide (e ≠ r.facing)
    | none => false

/-- A ROSTER handed on from a joined end (R45 to R48). -/
def State.takeRoster (s : State) (e : LineEnd) (f : Frame) (es : List CarEntry) : State :=
  let roster := es.map (CarEntry.toRoster false)
  if f.hdr.epoch < s.roll.epoch then s
  else if !s.rosterOk e f es then s.trigger
  else if s.roll.state = .formed ∧ f.hdr.epoch = s.consist.ea then
    if rosterDigest roster = s.consist.digest then s else s.trigger
  else s.adopt roster f.hdr.epoch (if s.joined e.other then some (e.other, f) else none)

/-! ## Beacon mismatch and roll timer -/

/-- A beacon mismatch (R33): the beacon's Ea and digest against the part's own, in FORMED. -/
def State.mismatch (s : State) (ea : Epoch) (digest : Word) : Bool :=
  decide (s.roll.state = .formed) && (decide (s.consist.ea < ea) || (decide (ea = s.consist.ea) && decide (digest ≠ s.consist.digest)))

/-- A terminal originates out of its joined end; another part restarts its timer and sends nothing (R50, R52). -/
def State.retryRoll (s : State) : State :=
  match s.joinedEnds with
  | .one e => s.originate e
  | .two => s.setRoll s.roll.restart
  | .neither => s.setRoll s.roll.restart

/-- The roll timer expires (R50, R52). A timer that is stopped does not expire. -/
def State.rollExpiry (s : State) : State :=
  if !s.roll.timer.isRunning then s
  else
    match s.roll.state with
    | .rolling =>
      let s := s.setRoll { s.roll with attempts := s.roll.attempts + 1 }
      if s.roll.attempts ≥ Config.fastAttempts then s.enterDegraded else s.retryRoll
    | .degraded => s.retryRoll
    | .formed => s
    | .unformed => s

/-! ## STEER -/

/-- A STEER that arrived on end `e` is accepted (R65). -/
def State.steerOk (s : State) (e : LineEnd) (f : Frame) (cab : Byte) : Bool :=
  let src := f.hdr.srcIdx.toNat
  decide (s.consist.n ≠ 0) && decide (f.hdr.epoch = s.consist.ea) && decide (f.hdr.src ≠ s.ownId) &&
    (match s.consist.entry src with
      | some r => decide (r.ident = f.hdr.src)
      | none => false) &&
    (CabEnd.ofCode cab).isSome && decide (s.consist.forwardEnd src = some e)

/-- A STEER handed on from a joined end (R65, R66). -/
def State.takeSteer (s : State) (e : LineEnd) (f : Frame) (cab : Byte) : State :=
  if s.steerOk e f cab then
    let s := (s.setConsist (s.consist.setCab f.hdr.srcIdx.toNat ((CabEnd.ofCode cab).getD .none))).recomputeDirection
    if s.joined e.other then s.offerCtrl e.other f else s
  else s

end Sys2Proof.Machine
end

