-- ==== Sys2Proof/Machine/DirFrames.lean ====
section
/-! DEFINITION. Directory frames handed on from a joined end: acceptance, broadcasts, forwarding, QUERY and ANSWER, and both sides of
the remote state change (R100 to R102, R108, R109, R111 to R116). -/

namespace Sys2Proof.Machine

/-- A directory frame is accepted (R100). -/
def State.accepts (s : State) (f : Frame) : Bool :=
  decide (s.roll.state = .formed) && decide (f.hdr.epoch = s.consist.ea) &&
    (match s.consist.entry f.hdr.srcIdx.toNat with
      | some r => decide (r.ident = f.hdr.src)
      | none => false) &&
    decide (f.hdr.src ≠ s.ownId)

/-- A broadcast passed on out of the other end, if that end is joined (R101). -/
def State.passOn (s : State) (e : LineEnd) (f : Frame) : State :=
  if s.joined e.other then s.offerDir e.other f else s

/-- A PUBLISH or WITHDRAW at a part (R100, R101): taken here and passed on, in either order. -/
def State.takeBroadcast (s : State) (e : LineEnd) (f : Frame) (here : State → State) : State :=
  if s.accepts f && decide (f.hdr.dst = 0#8) then eitherOrder here (fun s => s.passOn e f) s else s

/-- A unicast at a part (R100, R102): taken here at its destination, forwarded toward it otherwise, or discarded. -/
def State.takeUnicast (s : State) (e : LineEnd) (f : Frame) (here : State → State) : State :=
  if !s.accepts f then s
  else if f.hdr.dst.toNat = 0 ∨ s.consist.n < f.hdr.dst.toNat then s
  else if f.hdr.dst.toNat = s.consist.ownIdx then here s
  else
    match s.consist.forwardEnd f.hdr.dst.toNat with
    | some out => if out = e then s else if s.joined out then s.offerDir out f else s
    | none => s

/-- A QUERY at its destination answered from the home records (R108). -/
def State.answerQuery (s : State) (f : Frame) (id : Byte) (t : Tag) : State :=
  if t.all tagByteOk then
    s.sendUnicast f.hdr.srcIdx.toNat (.answer id ((s.dir.home.filter fun r => decide (r.tag = t)).map Rec.toBody))
  else s

/-- An ANSWER at its destination (R109): to the foreground query, to the background query, or late. -/
def State.takeAnswer (s : State) (f : Frame) (id : Byte) (bodies : List RecordBody) : State :=
  let background (s : State) : State :=
    match s.bindings.query with
    | some q => if q.id = id ∧ q.target = f.hdr.src then s.answerBackground q bodies else s
    | none => s
  match s.resolver.query with
  | some q => if q.id = id ∧ q.target = f.hdr.src then s.answerForeground q bodies else background s
  | none => background s

/-! ## Remote state change -/

/-- The decision of the owner side on a home record and a desired state (R111, R115): outcome and revision after the request, and the
state with the change made. -/
def State.decideChange (s : State) (t : Tag) (sd : Side) (desired : RecState) : State × ChangeOutcome × Half :=
  match s.dir.findHome t sd with
  | none => (s, .noRecord, 0#16)
  | some r =>
    match r.perm with
    | .denied => (s, .refused, r.rev)
    | .allowed =>
      let s := s.changeHome r { r with state := desired }
      (s, .accepted, s.homeRevision t sd)

/-- A CHANGE_REPLY originated for a request (R115, R116). -/
def State.sendReply (s : State) (f : Frame) (id : Byte) (o : ChangeOutcome) (rev : Half) : State :=
  s.sendUnicast f.hdr.srcIdx.toNat (.changeReply id o.code rev)

/-- The reply memory with one requester's entry created or replaced (R116). -/
def keepReply (l : List ReplyEntry) (r : ReplyEntry) : List ReplyEntry :=
  l.filter (fun x => decide (x.requester ≠ r.requester)) ++ [r]

/-- A good CHANGE_REQ that is not a repeat (R115). REMOTE_CHANGE is raised when it alters the record's state. It and a BINDING_CHANGED
that the report of the same change raises may be placed in either order (R164): a free value chooses (log entry 8). -/
def State.decideRequest (s : State) (f : Frame) (id : Byte) (t : Tag) (sd : Side) (desired : RecState) : State :=
  let before := (s.dir.findHome t sd).map Rec.state
  let n := s.attn.events.count
  let (s, o, rev) := s.decideChange t sd desired
  let s :=
    if o = .accepted ∧ before ≠ some desired then
      s.raiseBeside n .remoteChange (Events.raiseRemoteChange ⟨t, sd, desired, f.hdr.src⟩)
    else s
  let s := s.setTraffic { s.traffic with replies := keepReply s.traffic.replies ⟨f.hdr.src, id, t, sd, desired, o, rev⟩ }
  s.sendReply f id o rev

/-- A CHANGE_REQ at its destination (R115, R116). -/
def State.takeChangeReq (s : State) (f : Frame) (id : Byte) (t : Tag) (side desired : Byte) : State :=
  match Side.ofCode side, RecState.ofCode desired with
  | some sd, some st =>
    if t.all tagByteOk then
      match s.traffic.replies.find? fun r =>
          decide (r.requester = f.hdr.src ∧ r.id = id ∧ r.tag = t ∧ r.side = sd ∧ r.desired = st) with
      | some r => s.sendReply f id r.outcome r.rev
      | none => s.decideRequest f id t sd st
    else s
  | _, _ => s

/-- The outstanding change request cleared and its timer stopped. -/
def State.clearChange (s : State) : State :=
  s.setTraffic { s.traffic with change := none, changeT := .stopped }

/-- A CHANGE_REPLY at its destination (R113). -/
def State.takeChangeReply (s : State) (f : Frame) (id outcome : Byte) (rev : Half) : State :=
  match s.traffic.change, ChangeOutcome.ofCode outcome with
  | some c, some o =>
    if c.id = id ∧ c.owner = f.hdr.src then s.clearChange.complete o.status (be16 rev) false else s
  | _, _ => s

/-- The CHANGE_REQ of the outstanding change request originated (R112). -/
def State.sendChangeReq (s : State) (c : ChangeRequest) : State :=
  s.sendUnicast c.index (.changeReq c.id c.tag c.side.code c.desired.code)

end Sys2Proof.Machine
end

