-- ==== Sys2Proof/Machine/Reception.lean ====
section
/-! DEFINITION. What an end does with a frame it has received and judged (R8 to R11, R14, R15), by end state and by kind, and the start
of a transmission (R13, R18). -/

namespace Sys2Proof.Machine

/-! ## Receiving -/

/-- A valid frame in HUNTING adds 1 to the lock count; the third in a row frames the end (R9). -/
def State.countLock (s : State) (e : LineEnd) : State :=
  if (s.lineEnd e).lockCount + 1 ≥ Config.lockFrames then s.changeEnd e LineEndSt.toFramed
  else s.updEnd e fun l => { l with lockCount := l.lockCount + 1 }

/-- A valid frame restarts the loss timer of a LOCKED or BARRED end (R10). -/
def LineEndSt.heard (l : LineEndSt) : LineEndSt :=
  { l with lossT := .running Config.lossMs }

/-- A valid frame other than a BEACON received on end `e`: counted and dropped in HUNTING (R9), handed on in LOCKED (R11), discarded in
BARRED (R11), lost in the other states (Receiving). -/
def State.receive (s : State) (e : LineEnd) (hand : State → State) : State :=
  match (s.lineEnd e).state with
  | .hunting => s.countLock e
  | .locked => hand (s.updEnd e LineEndSt.heard)
  | .barred => s.updEnd e LineEndSt.heard
  | .bypassed => s
  | .opened => s
  | .settling => s
  | .isolated => s

/-- An invalid frame received on end `e` (R8, R9, R10): in HUNTING the lock count returns to 0; otherwise nothing changes. -/
def State.receiveInvalid (s : State) (e : LineEnd) : State :=
  match (s.lineEnd e).state with
  | .hunting => s.updEnd e fun l => { l with lockCount := 0 }
  | .locked => s
  | .barred => s
  | .bypassed => s
  | .opened => s
  | .settling => s
  | .isolated => s

/-- The barred flag that an end's neighbour record holds; an empty record holds it clear (R14). -/
def LineEndSt.neighbourBarred (l : LineEndSt) : Bool :=
  (l.neighbour.map Neighbour.barred).getD false

/-- The neighbour record that a BEACON leaves (R14). -/
def neighbourOf (h : Header) (senderEnd flags : Byte) (ea digest : Word) : Neighbour :=
  ⟨h.src, (LineEnd.ofCode senderEnd).getD .a, ea, digest, ConsistState.ofBeaconFlags flags, flags.getLsbD 0⟩

/-- The neighbour record updated from a BEACON (R14), and the bar flag with it when the barred flag has changed (R15). -/
def LineEndSt.beaconed (l : LineEndSt) (n : Neighbour) : LineEndSt :=
  { l with
    barFlag := if n.barred = l.neighbourBarred then l.barFlag else n.barred
    neighbour := some n }

/-- A BEACON that bars a LOCKED end, or unbars a BARRED one, changes its state; otherwise the end takes the contents alone (R14, R15). -/
def LineEndSt.takeBeacon (n : Neighbour) (l : LineEndSt) : LineEndSt :=
  let newlySet := n.barred && !l.neighbourBarred
  let newlyClear := !n.barred && l.neighbourBarred
  let m := (l.heard).beaconed n
  if newlySet && decide (l.state = .locked) then m.toBarred
  else if newlyClear then m.unbarred
  else m

/-- A valid BEACON received on end `e` (R9, R10, R11, R14, R15): on a LOCKED end that it leaves in LOCKED it is handed to the Roll-Call
Engine, whose mismatch is a trigger (R33). -/
def State.receiveBeacon (s : State) (e : LineEnd) (n : Neighbour) : State :=
  match (s.lineEnd e).state with
  | .hunting => (s.updEnd e fun l => l.beaconed n).countLock e
  | .locked =>
    let s := s.changeEnd e (LineEndSt.takeBeacon n)
    if s.joined e && s.mismatch n.ea n.digest then s.trigger else s
  | .barred => s.changeEnd e (LineEndSt.takeBeacon n)
  | .bypassed => s
  | .opened => s
  | .settling => s
  | .isolated => s

/-- A frame received on end `e` (R8 to R11): an invalid one is discarded; a valid one goes by its kind. -/
def State.receiveFrame (s : State) (e : LineEnd) (f : Frame) : State :=
  if f.valid then
    match f.payload with
    | .beacon senderEnd flags ea digest => s.receiveBeacon e (neighbourOf f.hdr senderEnd flags ea digest)
    | .call => s.receive e fun s => s.takeCall e f
    | .roll es => s.receive e fun s => s.takeRoll e f es
    | .roster es => s.receive e fun s => s.takeRoster e f es
    | .steer cab => s.receive e fun s => s.takeSteer e f cab
    | .publish body => s.receive e fun s => s.takeBroadcast e f fun s => s.takePublished f.hdr.src body
    | .withdraw t side => s.receive e fun s => s.takeBroadcast e f fun s => s.takeWithdrawn f.hdr.src t side
    | .query id t => s.receive e fun s => s.takeUnicast e f fun s => s.answerQuery f id t
    | .answer id bodies => s.receive e fun s => s.takeUnicast e f fun s => s.takeAnswer f id bodies
    | .changeReq id t side desired => s.receive e fun s => s.takeUnicast e f fun s => s.takeChangeReq f id t side desired
    | .changeReply id outcome rev => s.receive e fun s => s.takeUnicast e f fun s => s.takeChangeReply f id outcome rev
  else s.receiveInvalid e

/-! ## Sending -/

/-- The flags byte of a BEACON (Field codes): bit 0 the bar flag, bits 2 and 1 the consist state. -/
def beaconFlags (bar : Bool) (c : ConsistState) : Byte :=
  (if bar then 1#8 else 0#8) ||| (c.code <<< 1)

/-- The BEACON that end `e` sends, its contents taken as its transmission begins (R13). -/
def State.beaconFrame (s : State) (e : LineEnd) : Frame :=
  ⟨⟨s.roll.epoch, s.ownId, 0#8, byteOf s.consist.ownIdx⟩,
    .beacon e.code (beaconFlags (s.lineEnd e).barFlag s.roll.state) s.consist.ea s.consist.digest⟩

/-- The frame at the head of a control queue as it is sent (R13, R18). -/
def State.sentItem (s : State) (e : LineEnd) : CtrlItem → Frame
  | .beacon => s.beaconFrame e
  | .frame f => f

/-- The free transmitter of end `e` takes its next frame (R18): the head of the control queue, else the head of the directory queue,
whose leaving lets the republish burst go on (R105), else idle fill. -/
def State.startTransmit (s : State) (e : LineEnd) : State :=
  let l := s.lineEnd e
  if l.state.framing then
    match l.ctrlQ, l.dirQ with
    | c :: cs, _ => s.setEnd e { l with ctrlQ := cs, sending := some (s.sentItem e c) }
    | [], f :: fs =>
      let s := s.setEnd e { l with dirQ := fs, sending := some f }
      if s.joined e then s.burstContinue else s
    | [], [] => s.setEnd e { l with sending := none }
  else s

/-- The first `n` bits that end `e` puts on its line from the moment its transmitter has taken what `sending` holds (R7, R18): the frame
and idle fill behind it, or idle fill alone when there was nothing to send. An end that may not send puts nothing on the line. -/
def State.lineBits (s : State) (e : LineEnd) (n : Nat) : List Bool :=
  if (s.lineEnd e).state.framing then (((s.lineEnd e).sending.map Frame.bits).getD [] ++ idleFill n).take n else []

end Sys2Proof.Machine
end

