-- ==== Sys2Proof/Machine/Commands.lean ====
section
/-! DEFINITION. The commands of the host, each judged and carried out by its owner block (R22, R24, R26, R27, R34, R73, R79 to R84, R94,
R95, R110 to R112, R118, R137 to R142, R166 to R170, R173, R177, R178, R181). Each takes the part with the command in flight and answers
the part with the command completed or left in flight. -/

namespace Sys2Proof.Machine

/-! ## Identity, dormancy and start-up -/

/-- IDENTIFY (R177). -/
def State.cmdIdentify (s : State) (params : List Byte) : State :=
  match paramIdentify params with
  | none => s.done .invalidParam
  | some (id, cab) =>
    match s.ctrl.part with
    | .ready => s.done .stateError
    | .dormant => s.done .stateError
    | .unidentified => (s.setCtrl { s.ctrl with identity := some id, cabCfg := cab }).enterReady.done .success

/-- GET_INFO (R181). -/
def State.cmdGetInfo (s : State) (params : List Byte) : State :=
  if params = [] then s.gives s.infoData else s.done .invalidParam

/-- An end in OPEN or ISOLATED lets the part sleep (R178). -/
def EndState.maySleep : EndState → Bool
  | .bypassed => false
  | .opened => true
  | .settling => false
  | .hunting => false
  | .locked => false
  | .barred => false
  | .isolated => true

/-- SLEEP (R178). -/
def State.cmdSleep (s : State) (params : List Byte) : State :=
  if params ≠ [] then s.done .invalidParam
  else if s.ctrl.part = .ready ∧ s.lineA.state.maySleep ∧ s.lineB.state.maySleep then s.enterDormant.done .success
  else s.done .stateError

/-- Every block other than the Car Port takes its reset values (R1, R28, R54, R78, R99, R117, R135, R174, R175, R180), and WAKE is
raised with the start cause. The levels of the inputs stay what they are; the debounce timer starts if the cab-active input is active
(R54). -/
def State.resetBlocks (s : State) (c : Cause) : State :=
  { State.reset with
    lineA := { State.reset.lineA with contact := s.lineA.contact }
    lineB := { State.reset.lineB with contact := s.lineB.contact }
    consist := { State.reset.consist with
      cabInput := s.consist.cabInput
      debounceT := if s.consist.cabInput then .running Config.debounceMs else .stopped }
    port := s.port
    attn := { State.reset.attn with events := Events.raiseWake c Events.empty }
    ctrl := { State.reset.ctrl with startCause := c }
    freeCount := s.freeCount
    pending := s.pending }

/-- PART_RESET (R162, R180): it completes with SUCCESS, and then every block other than the Car Port is reset. -/
def State.cmdPartReset (s : State) (params : List Byte) : State :=
  if params = [] then (s.done .success).resetBlocks .partReset else s.done .invalidParam

/-! ## Line ends -/

/-- LINE_STATUS (R27). -/
def State.cmdLineStatus (s : State) (params : List Byte) : State :=
  if params = [] then s.gives (s.lineA.statusData ++ s.lineB.statusData) else s.done .invalidParam

/-- LINE_ISOLATE (R24). -/
def State.cmdLineIsolate (s : State) (params : List Byte) : State :=
  match paramEnd params with
  | none => s.done .invalidParam
  | some e => (s.isolateEnd e).done .success

/-- LINE_RESTORE at the end it names (R26). -/
def State.restoreEnd (s : State) (e : LineEnd) : State :=
  match (s.lineEnd e).state with
  | .isolated => s.changeEnd e fun l => ({ l with flap := 0, isolated := false } : LineEndSt).byContact
  | .bypassed => s.updEnd e fun l => { l with flap := 0, isolated := false }
  | .opened => s.updEnd e fun l => { l with flap := 0 }
  | .settling => s.updEnd e fun l => { l with flap := 0 }
  | .hunting => s.updEnd e fun l => { l with flap := 0 }
  | .locked => s.updEnd e fun l => { l with flap := 0 }
  | .barred => s.updEnd e fun l => { l with flap := 0 }

/-- LINE_RESTORE (R26). -/
def State.cmdLineRestore (s : State) (params : List Byte) : State :=
  match paramEnd params with
  | none => s.done .invalidParam
  | some e => (s.restoreEnd e).done .success

/-- LINE_UNBAR (R22); an entry into LOCKED is part of the command's own trigger (R30). -/
def State.cmdLineUnbar (s : State) (params : List Byte) : State :=
  match paramEnd params with
  | none => s.done .invalidParam
  | some e =>
    if (s.lineEnd e).barFlag then (s.moveEnd e LineEndSt.unbarred).trigger.done .success else s.done .stateError

/-! ## Consist -/

/-- CONSIST_READ (R73). -/
def State.cmdConsistRead (s : State) (params : List Byte) : State :=
  if params = [] then s.gives s.consistData else s.done .invalidParam

/-- ROLL_CALL (R34). -/
def State.cmdRollCall (s : State) (params : List Byte) : State :=
  if params ≠ [] then s.done .invalidParam
  else
    match s.ctrl.part with
    | .unidentified => s.done .stateError
    | .ready => s.trigger.done .success
    | .dormant => s.trigger.done .success

/-! ## Function records -/

/-- The home list with a record at its tail (R75, R80). -/
def Directory.addHome (d : Directory) (r : Rec) : Directory :=
  { d with home := d.home ++ [r] }

/-- The home list without the record of this tag and side (R75, R83). -/
def Directory.removeHome (d : Directory) (t : Tag) (sd : Side) : Directory :=
  { d with home := d.home.filter fun r => !decide (r.tag = t ∧ r.side = sd) }

/-- RECORD_OFFER (R79, R80). -/
def State.cmdRecordOffer (s : State) (params : List Byte) : State :=
  match paramRecord params with
  | none => s.done .invalidParam
  | some r =>
    if s.ctrl.part = .unidentified then s.done .stateError
    else if (s.dir.findHome r.tag r.side).isSome then s.done .invalidParam
    else if s.dir.home.length ≥ Config.maxHome then s.done .noSpace
    else
      let s := s.makeRoom
      if s.dir.hasFreeSlot then
        ((s.setDir (s.dir.addHome r)).homeChanged (.created r)).gives (be16 r.rev ++ [byteOf (bucketIndex r.tag)])
      else s.done .noSpace

/-- RECORD_UPDATE (R82). -/
def State.cmdRecordUpdate (s : State) (params : List Byte) : State :=
  match paramRecord params with
  | none => s.done .invalidParam
  | some r =>
    if s.ctrl.part = .unidentified then s.done .stateError
    else
      match s.dir.findHome r.tag r.side with
      | none => s.done .notFound
      | some old =>
        let s := s.changeHome old r
        s.gives (be16 (s.homeRevision r.tag r.side))

/-- RECORD_WITHDRAW (R83). -/
def State.cmdRecordWithdraw (s : State) (params : List Byte) : State :=
  match paramTagSide params with
  | none => s.done .invalidParam
  | some (t, sd) =>
    if s.ctrl.part = .unidentified then s.done .stateError
    else
      match s.dir.findHome t sd with
      | none => s.done .notFound
      | some _ => ((s.setDir (s.dir.removeHome t sd)).homeChanged (.removed t sd)).done .success

/-- RECORD_LIST (R84). -/
def State.cmdRecordList (s : State) (params : List Byte) : State :=
  if params = [] then s.gives s.recordListData else s.done .invalidParam

/-- INTEREST_ADD (R94). -/
def State.cmdInterestAdd (s : State) (params : List Byte) : State :=
  match paramOnlyTag params with
  | none => s.done .invalidParam
  | some t =>
    (s.setDir { s.dir with interest := s.dir.interest.setIfInBounds (filterIndex t) true }).gives [byteOf (filterIndex t)]

/-- INTEREST_CLEAR (R95). -/
def State.cmdInterestClear (s : State) (params : List Byte) : State :=
  if params = [] then (s.setDir { s.dir with interest := Vector.replicate 64 false }).done .success else s.done .invalidParam

/-- INTEREST_ALL (R95). -/
def State.cmdInterestAll (s : State) (params : List Byte) : State :=
  match paramMode params with
  | none => s.done .invalidParam
  | some m => (s.setDir { s.dir with allMode := m }).done .success

/-! ## Remote state change -/

/-- A REQUEST_STATE sent to another car (R112): a fresh request id, the change request recorded, its CHANGE_REQ originated and its timer
started. The command stays in flight. -/
def State.sendRequest (s : State) (owner : Ident) (i : Nat) (t : Tag) (sd : Side) (desired : RecState) : State :=
  let id := s.traffic.reqId + 1#8
  let c : ChangeRequest := ⟨id, owner, i, t, sd, desired, 1⟩
  (s.setTraffic { s.traffic with reqId := id, change := some c, changeT := .running Config.changeMs }).sendChangeReq c

/-- REQUEST_STATE (R110, R111, R112). -/
def State.cmdRequestState (s : State) (params : List Byte) : State :=
  match paramRequest params with
  | none => s.done .invalidParam
  | some (owner, t, sd, desired) =>
    if s.roll.state ≠ .formed then s.done .noConsist
    else if rosterIndex s.consist.roster owner = 0 then s.done .notPresent
    else if owner = s.ownId then
      let (s, o, rev) := s.decideChange t sd desired
      s.complete o.status (be16 rev) false
    else s.sendRequest owner (rosterIndex s.consist.roster owner) t sd desired

/-! ## Resolution and bindings -/

/-- LOOKUP (R118 to R126); a refused one has its stale flag by the consist state (R134). -/
def State.cmdLookup (s : State) (params : List Byte) : State :=
  match paramQuestion params with
  | none => s.complete .invalidParam [] s.roll.state.unsettled
  | some q => s.resolve q

/-- The handle is free. -/
def HandleSlot.isFree : HandleSlot → Bool
  | .free => true
  | .reserved _ => false
  | .held _ => false

/-- BIND (R137, R138): the lowest free handle is reserved and the question resolved. -/
def State.cmdBind (s : State) (params : List Byte) : State :=
  match paramQuestion params with
  | none => s.done .invalidParam
  | some q =>
    match s.firstSlot HandleSlot.isFree with
    | none => s.done .noSpace
    | some i => (s.setSlot i (.reserved q)).resolve q

/-- A binding released (R140, R149): its mirror unpinned, its handle free, and the background query abandoned if it served it. -/
def State.release (s : State) (i : Nat) (b : Binding) : State :=
  let s := s.setDir (s.dir.movePin (b.st.mirrorKey b.question.tag) none)
  let s := s.setSlot i .free
  if s.bindings.query.map BackgroundQuery.slot = some i then s.abandonBackground.startBackground else s

/-- UNBIND (R140). -/
def State.cmdUnbind (s : State) (params : List Byte) : State :=
  match paramHandle params with
  | none => s.done .invalidParam
  | some i =>
    match s.binding i with
    | none => s.done .notFound
    | some b => (s.release i b).done .success

/-- BINDING_GET (R141). -/
def State.cmdBindingGet (s : State) (params : List Byte) : State :=
  match paramHandle params with
  | none => s.done .invalidParam
  | some i =>
    match s.binding i with
    | none => s.done .notFound
    | some b => s.complete .success (s.bindingData i b) b.stale

/-- The binding of handle i + 1 has its changed mark set. -/
def State.isChanged (s : State) (i : Nat) : Bool :=
  match s.binding i with
  | some b => b.changed
  | none => false

/-- The changed mark of the binding of handle i + 1 cleared (R142). -/
def State.clearMark (s : State) (i : Nat) : State :=
  match s.binding i with
  | some b => s.setSlot i (.held { b with changed := false })
  | none => s

/-- BINDING_SCAN (R142). -/
def State.cmdBindingScan (s : State) (params : List Byte) : State :=
  if params = [] then
    let marked := slots.filter s.isChanged
    (marked.foldl State.clearMark s).gives (byteOf marked.length :: marked.map fun i => byteOf (i + 1))
  else s.done .invalidParam

/-! ## Attention -/

/-- The kinds of one priority of which an unmasked event is pending. -/
def AttentionUnit.ofPriority (a : AttentionUnit) (p : Nat) : List EventKind :=
  EventKind.all.filter fun k => a.visible k && decide (k.priority = p)

/-- The event that EVENT_READ gives (R168): of the highest priority present, the one pending longest. -/
def AttentionUnit.next (a : AttentionUnit) : Option EventKind :=
  match ([1, 2, 3, 4, 5, 6].map a.ofPriority).find? fun l => !l.isEmpty with
  | none => none
  | some l =>
    match l with
    | [] => none
    | [k] => some k
    | k :: rest => some ((a.events.order.find? fun j => (k :: rest).contains j).getD k)

/-- EVENT_READ (R168, R169): the event given is removed unless it is a CONSIST_VIEW. -/
def State.cmdEventRead (s : State) (params : List Byte) : State :=
  if params ≠ [] then s.done .invalidParam
  else
    match s.attn.next with
    | none => s.done .success
    | some k =>
      let data := s.attn.events.data k
      (if k = .consistView then s else s.raise (Events.remove k)).gives data

/-- EVENT_MASK (R166). -/
def State.cmdEventMask (s : State) (params : List Byte) : State :=
  match paramMask params with
  | none => s.done .invalidParam
  | some m => (s.setAttn { s.attn with mask := m }).done .success

/-- VIEW_ACK (R170). -/
def State.cmdViewAck (s : State) (params : List Byte) : State :=
  match paramView params with
  | none => s.done .invalidParam
  | some v => (if v = s.consist.view then s.raise (Events.remove .consistView) else s).gives (be16 s.consist.view)

/-- DISPOSITION_SET (R173). -/
def State.cmdDispositionSet (s : State) (params : List Byte) : State :=
  match paramDisposition params with
  | none => s.done .invalidParam
  | some (k, d) => (s.setAttn { s.attn with disp := s.attn.disp.set k d }).done .success

/-- A command handed to its owner block (R156; Command summary). -/
def State.command (s : State) (c : Cmd) (params : List Byte) : State :=
  match c with
  | .identify => s.cmdIdentify params
  | .getInfo => s.cmdGetInfo params
  | .sleep => s.cmdSleep params
  | .partReset => s.cmdPartReset params
  | .lineStatus => s.cmdLineStatus params
  | .lineIsolate => s.cmdLineIsolate params
  | .lineRestore => s.cmdLineRestore params
  | .lineUnbar => s.cmdLineUnbar params
  | .consistRead => s.cmdConsistRead params
  | .rollCall => s.cmdRollCall params
  | .recordOffer => s.cmdRecordOffer params
  | .recordUpdate => s.cmdRecordUpdate params
  | .recordWithdraw => s.cmdRecordWithdraw params
  | .recordList => s.cmdRecordList params
  | .requestState => s.cmdRequestState params
  | .lookup => s.cmdLookup params
  | .interestAdd => s.cmdInterestAdd params
  | .interestClear => s.cmdInterestClear params
  | .interestAll => s.cmdInterestAll params
  | .bind => s.cmdBind params
  | .unbind => s.cmdUnbind params
  | .bindingGet => s.cmdBindingGet params
  | .bindingScan => s.cmdBindingScan params
  | .eventRead => s.cmdEventRead params
  | .eventMask => s.cmdEventMask params
  | .viewAck => s.cmdViewAck params
  | .dispositionSet => s.cmdDispositionSet params

end Sys2Proof.Machine
end

