-- ==== Sys2Proof/Machine/Port.lean ====
section
/-! DEFINITION. The Car Port's own work: the bits of a transaction and the receive buffer, a write transaction judged, a command block
taken and checked (R154 to R158), and the port reset (R161). -/

namespace Sys2Proof.Machine

/-- The bits of a byte on the port, most significant bit first (The link). -/
def portBits (b : Byte) : List Bool :=
  (byteBits b).reverse

/-- The whole bytes of the bits shifted in between the assertion of select and its release, most significant bit first (The link). A
byte left incomplete by the release is dropped (R154). -/
def portBytes : List Bool → List Byte
  | b7 :: b6 :: b5 :: b4 :: b3 :: b2 :: b1 :: b0 :: bits => byteOfBits b0 b1 b2 b3 b4 b5 b6 b7 :: portBytes bits
  | _ => []

/-- The command that a transaction of these bits is (The link, R153, R154): after the access byte 3Ch, the write of the whole bytes
behind it. A read, another access byte and a transaction without a whole access byte change nothing and are no command. -/
def portTransaction (bits : List Bool) : Option Instr :=
  match portBytes bits with
  | access :: bytes => if access = 0x3C#8 then some (.writeTransaction bytes) else none
  | [] => none

/-- A command block as the host writes it (Writing a command block). -/
def commandBlock (c : Cmd) (tag : Byte) (params : List Byte) : List Byte :=
  [c.code, tag] ++ be16Of params.length ++ params

/-- What the Car Port's checks of form make of a block (R156). -/
inductive BlockCheck where
  | framing
  | zeroTag (code : Byte)
  | unknown (code tag : Byte)
  | command (c : Cmd) (tag : Byte) (params : List Byte)
  deriving DecidableEq, Repr

/-- The checks of form of a block, in their order: framing, tag, code (R156). The block is what the receive buffer has kept, and `count`
is the number of its bytes, kept or not (R154). -/
def checkBlock (buffer : List Byte) (count : Nat) : BlockCheck :=
  match buffer with
  | code :: tag :: l1 :: l0 :: params =>
    if (half l1 l0).toNat > Config.maxParams ∨ count - 4 ≠ (half l1 l0).toNat then .framing
    else if tag = 0#8 then .zeroTag code
    else
      match Cmd.ofCode code with
      | none => .unknown code tag
      | some c => .command c tag params
  | _ => .framing

/-- The in-flight command of a block that has been taken. A block whose framing is wrong has no tag that can be trusted (R160). -/
def BlockCheck.inFlight : BlockCheck → InFlight
  | .framing => ⟨0#8, 0#8, .carPort⟩
  | .zeroTag code => ⟨code, 0#8, .carPort⟩
  | .unknown code tag => ⟨code, tag, .carPort⟩
  | .command c tag _ => ⟨c.code, tag, c.owner⟩

/-- The taking of a block (R157): the held status block is discarded, the overrun flag cleared and the receive buffer emptied; the port
is IN_FLIGHT, and a DORMANT part wakes. -/
def State.takeBlock (s : State) (c : InFlight) : State :=
  let s := s.setPort { s.port with state := .inFlight, rxBuffer := [], inFlight := some c, status := none, overrun := false }
  match s.ctrl.part with
  | .dormant => s.wake .command
  | .ready => s
  | .unidentified => s

/-- A block that has been taken, judged (R156): answered by the port itself or handed to the command's owner. -/
def State.judgeBlock (s : State) : BlockCheck → State
  | .framing => s.done .protocolError
  | .zeroTag _ => s.done .invalidParam
  | .unknown _ _ => s.done .unknownCommand
  | .command c _ params => s.command c params

/-- The receive buffer during a write transaction: the bytes after the access byte, up to 516 of them (R154). -/
def State.fillBuffer (s : State) (bytes : List Byte) : State :=
  s.setPort { s.port with rxBuffer := bytes.take Config.rxBufferMax }

/-- A block judged at the release of select, `count` bytes of it received (R154, R155): without any it is ignored; in IN_FLIGHT it is an
overrun, in EMPTY and READY it is taken. The receive buffer is emptied in each case. -/
def State.releaseSelect (s : State) (count : Nat) : State :=
  if count = 0 then s.setPort { s.port with rxBuffer := [] }
  else
    match s.port.state with
    | .inFlight => s.setPort { s.port with rxBuffer := [], overrun := true }
    | .empty => (s.takeBlock (checkBlock s.port.rxBuffer count).inFlight).judgeBlock (checkBlock s.port.rxBuffer count)
    | .ready => (s.takeBlock (checkBlock s.port.rxBuffer count).inFlight).judgeBlock (checkBlock s.port.rxBuffer count)

/-- A write transaction that carried these whole bytes after its access byte (R154). While the port reset input is asserted, select is
ignored (R161). -/
def State.writeTransaction (s : State) (bytes : List Byte) : State :=
  if s.port.resetInput then s else (s.fillBuffer bytes).releaseSelect bytes.length

/-- The host writes the command block of a command (R154, R158). -/
def State.hostCommand (s : State) (c : Cmd) (tag : Byte) (params : List Byte) : State :=
  s.writeTransaction (commandBlock c tag params)

/-- The remote work of the command in flight cleared by its owner (R114, R130, R139): the foreground query, the handle a BIND had
reserved, and the change request. -/
def State.abandonCommand (s : State) : State :=
  let s := s.clearForeground.clearChange
  match s.firstSlot HandleSlot.isReserved with
  | some i => s.setSlot i .free
  | none => s

/-- The port reset input asserted (R161). -/
def State.portReset (s : State) : State :=
  let s := match s.port.inFlight with
    | some _ => s.abandonCommand
    | none => s
  s.setPort { state := .empty, rxBuffer := [], inFlight := none, status := none, overrun := false, resetInput := true }

end Sys2Proof.Machine
end

