-- ==== Sys2Proof/Machine/HostCommands.lean ====
section
/-! DEFINITION. The meanings of the host's commands: a write transaction, and for each command of the summary the transaction that writes
its block with this tag and these parameter bytes (R154 to R159; log entry 7). -/

namespace Sys2Proof.Machine

/-- WRITE_TRANSACTION (R154 to R157). -/
def execWriteTransaction (bytes : List Byte) (s : State) : Host.Outcome State Fault Refusal :=
  .next (s.writeTransaction bytes)

/-- IDENTIFY (R156, R157, R177). -/
def execIdentify (tag : Byte) (params : List Byte) (s : State) : Host.Outcome State Fault Refusal :=
  .next (s.hostCommand .identify tag params)

/-- GET_INFO (R181). -/
def execGetInfo (tag : Byte) (params : List Byte) (s : State) : Host.Outcome State Fault Refusal :=
  .next (s.hostCommand .getInfo tag params)

/-- SLEEP (R178). -/
def execSleep (tag : Byte) (params : List Byte) (s : State) : Host.Outcome State Fault Refusal :=
  .next (s.hostCommand .sleep tag params)

/-- PART_RESET (R162, R180). -/
def execPartReset (tag : Byte) (params : List Byte) (s : State) : Host.Outcome State Fault Refusal :=
  .next (s.hostCommand .partReset tag params)

/-- LINE_STATUS (R27). -/
def execLineStatus (tag : Byte) (params : List Byte) (s : State) : Host.Outcome State Fault Refusal :=
  .next (s.hostCommand .lineStatus tag params)

/-- LINE_ISOLATE (R24). -/
def execLineIsolate (tag : Byte) (params : List Byte) (s : State) : Host.Outcome State Fault Refusal :=
  .next (s.hostCommand .lineIsolate tag params)

/-- LINE_RESTORE (R26). -/
def execLineRestore (tag : Byte) (params : List Byte) (s : State) : Host.Outcome State Fault Refusal :=
  .next (s.hostCommand .lineRestore tag params)

/-- LINE_UNBAR (R22). -/
def execLineUnbar (tag : Byte) (params : List Byte) (s : State) : Host.Outcome State Fault Refusal :=
  .next (s.hostCommand .lineUnbar tag params)

/-- CONSIST_READ (R73). -/
def execConsistRead (tag : Byte) (params : List Byte) (s : State) : Host.Outcome State Fault Refusal :=
  .next (s.hostCommand .consistRead tag params)

/-- ROLL_CALL (R34). -/
def execRollCall (tag : Byte) (params : List Byte) (s : State) : Host.Outcome State Fault Refusal :=
  .next (s.hostCommand .rollCall tag params)

/-- RECORD_OFFER (R79, R80). -/
def execRecordOffer (tag : Byte) (params : List Byte) (s : State) : Host.Outcome State Fault Refusal :=
  .next (s.hostCommand .recordOffer tag params)

/-- RECORD_UPDATE (R81, R82). -/
def execRecordUpdate (tag : Byte) (params : List Byte) (s : State) : Host.Outcome State Fault Refusal :=
  .next (s.hostCommand .recordUpdate tag params)

/-- RECORD_WITHDRAW (R83). -/
def execRecordWithdraw (tag : Byte) (params : List Byte) (s : State) : Host.Outcome State Fault Refusal :=
  .next (s.hostCommand .recordWithdraw tag params)

/-- RECORD_LIST (R84). -/
def execRecordList (tag : Byte) (params : List Byte) (s : State) : Host.Outcome State Fault Refusal :=
  .next (s.hostCommand .recordList tag params)

/-- REQUEST_STATE (R110 to R112). -/
def execRequestState (tag : Byte) (params : List Byte) (s : State) : Host.Outcome State Fault Refusal :=
  .next (s.hostCommand .requestState tag params)

/-- LOOKUP (R118 to R126). -/
def execLookup (tag : Byte) (params : List Byte) (s : State) : Host.Outcome State Fault Refusal :=
  .next (s.hostCommand .lookup tag params)

/-- INTEREST_ADD (R94). -/
def execInterestAdd (tag : Byte) (params : List Byte) (s : State) : Host.Outcome State Fault Refusal :=
  .next (s.hostCommand .interestAdd tag params)

/-- INTEREST_CLEAR (R95). -/
def execInterestClear (tag : Byte) (params : List Byte) (s : State) : Host.Outcome State Fault Refusal :=
  .next (s.hostCommand .interestClear tag params)

/-- INTEREST_ALL (R95). -/
def execInterestAll (tag : Byte) (params : List Byte) (s : State) : Host.Outcome State Fault Refusal :=
  .next (s.hostCommand .interestAll tag params)

/-- BIND (R137 to R139). -/
def execBind (tag : Byte) (params : List Byte) (s : State) : Host.Outcome State Fault Refusal :=
  .next (s.hostCommand .bind tag params)

/-- UNBIND (R140). -/
def execUnbind (tag : Byte) (params : List Byte) (s : State) : Host.Outcome State Fault Refusal :=
  .next (s.hostCommand .unbind tag params)

/-- BINDING_GET (R141). -/
def execBindingGet (tag : Byte) (params : List Byte) (s : State) : Host.Outcome State Fault Refusal :=
  .next (s.hostCommand .bindingGet tag params)

/-- BINDING_SCAN (R142). -/
def execBindingScan (tag : Byte) (params : List Byte) (s : State) : Host.Outcome State Fault Refusal :=
  .next (s.hostCommand .bindingScan tag params)

/-- EVENT_READ (R168, R169). -/
def execEventRead (tag : Byte) (params : List Byte) (s : State) : Host.Outcome State Fault Refusal :=
  .next (s.hostCommand .eventRead tag params)

/-- EVENT_MASK (R166). -/
def execEventMask (tag : Byte) (params : List Byte) (s : State) : Host.Outcome State Fault Refusal :=
  .next (s.hostCommand .eventMask tag params)

/-- VIEW_ACK (R170). -/
def execViewAck (tag : Byte) (params : List Byte) (s : State) : Host.Outcome State Fault Refusal :=
  .next (s.hostCommand .viewAck tag params)

/-- DISPOSITION_SET (R173). -/
def execDispositionSet (tag : Byte) (params : List Byte) (s : State) : Host.Outcome State Fault Refusal :=
  .next (s.hostCommand .dispositionSet tag params)

end Sys2Proof.Machine
end

