-- ==== Sys2Proof/Machine/LineCommands.lean ====
section
/-! DEFINITION. The meanings of the commands at the inter-car link: a transmission begun, an invalid frame, and a frame of each kind
received. A frame command whose fields lie outside the ranges of R8 has the meaning of an invalid frame (log entry 6). -/

namespace Sys2Proof.Machine

/-- FRAME_TRANSMIT_START (R13, R18, R105). -/
def execFrameTransmitStart (e : LineEnd) (s : State) : Host.Outcome State Fault Refusal :=
  .next (s.startTransmit e)

/-- INVALID_FRAME (R8, R9). -/
def execInvalidFrame (e : LineEnd) (s : State) : Host.Outcome State Fault Refusal :=
  .next (s.receiveInvalid e)

/-- BEACON (R9, R10, R14, R15, R33), received on end `e`. -/
def execBeacon (e : LineEnd) (hdr : Header) (senderEnd flags : Byte) (ea digest : Word) (s : State) : Host.Outcome State Fault Refusal :=
  .next (s.receiveFrame e ⟨hdr, .beacon senderEnd flags ea digest⟩)

/-- CALL (R35, R36, R37), received on end `e`. -/
def execCall (e : LineEnd) (hdr : Header) (s : State) : Host.Outcome State Fault Refusal :=
  .next (s.receiveFrame e ⟨hdr, .call⟩)

/-- ROLL (R39 to R43), received on end `e`. -/
def execRoll (e : LineEnd) (hdr : Header) (entries : List CarEntry) (s : State) : Host.Outcome State Fault Refusal :=
  .next (s.receiveFrame e ⟨hdr, .roll entries⟩)

/-- ROSTER (R45 to R49), received on end `e`. -/
def execRoster (e : LineEnd) (hdr : Header) (entries : List CarEntry) (s : State) : Host.Outcome State Fault Refusal :=
  .next (s.receiveFrame e ⟨hdr, .roster entries⟩)

/-- STEER (R65, R66), received on end `e`. -/
def execSteer (e : LineEnd) (hdr : Header) (cab : Byte) (s : State) : Host.Outcome State Fault Refusal :=
  .next (s.receiveFrame e ⟨hdr, .steer cab⟩)

/-- PUBLISH (R86 to R88, R100, R101), received on end `e`. -/
def execPublish (e : LineEnd) (hdr : Header) (body : RecordBody) (s : State) : Host.Outcome State Fault Refusal :=
  .next (s.receiveFrame e ⟨hdr, .publish body⟩)

/-- WITHDRAW (R86, R91, R100, R101), received on end `e`. -/
def execWithdraw (e : LineEnd) (hdr : Header) (tag : Tag) (side : Byte) (s : State) : Host.Outcome State Fault Refusal :=
  .next (s.receiveFrame e ⟨hdr, .withdraw tag side⟩)

/-- QUERY (R100, R102, R108), received on end `e`. -/
def execQuery (e : LineEnd) (hdr : Header) (id : Byte) (tag : Tag) (s : State) : Host.Outcome State Fault Refusal :=
  .next (s.receiveFrame e ⟨hdr, .query id tag⟩)

/-- ANSWER (R89, R100, R102, R109, R128, R148), received on end `e`. -/
def execAnswer (e : LineEnd) (hdr : Header) (id : Byte) (bodies : List RecordBody) (s : State) : Host.Outcome State Fault Refusal :=
  .next (s.receiveFrame e ⟨hdr, .answer id bodies⟩)

/-- CHANGE_REQ (R100, R102, R115, R116), received on end `e`. -/
def execChangeReq (e : LineEnd) (hdr : Header) (id : Byte) (tag : Tag) (side desired : Byte) (s : State) : Host.Outcome State Fault Refusal :=
  .next (s.receiveFrame e ⟨hdr, .changeReq id tag side desired⟩)

/-- CHANGE_REPLY (R100, R102, R113), received on end `e`. -/
def execChangeReply (e : LineEnd) (hdr : Header) (id outcome : Byte) (rev : Half) (s : State) : Host.Outcome State Fault Refusal :=
  .next (s.receiveFrame e ⟨hdr, .changeReply id outcome rev⟩)

end Sys2Proof.Machine
end

