-- ==== Sys2Proof/Machine/Pins.lean ====
section
/-! DEFINITION. The meanings of the commands that stand for the supply and the inputs of the part: POWER_ON, PORT_RESET,
PORT_RESET_RELEASE, CONTACT_CLOSE, CONTACT_OPEN and CAB_INPUT_CHANGE. -/

namespace Sys2Proof.Machine

/-- POWER_ON (R1, R28, R54, R78, R99, R117, R135, R152, R174, R175, R180): every block takes its reset values, the Car Port among them,
the start cause is POWER_ON and WAKE is raised with it. The levels at the inputs stay what they are (log entry 4). -/
def execPowerOn (s : State) : Host.Outcome State Fault Refusal :=
  .next ((s.resetBlocks .powerOn).setPort { State.reset.port with resetInput := s.port.resetInput })

/-- PORT_RESET (R161): the port reset input is asserted. -/
def execPortReset (s : State) : Host.Outcome State Fault Refusal :=
  .next s.portReset

/-- PORT_RESET_RELEASE (R161): the port reset input is deasserted; transactions begun from now on are acted on. -/
def execPortResetRelease (s : State) : Host.Outcome State Fault Refusal :=
  .next (s.setPort { s.port with resetInput := false })

/-- The wake cause of a contact closure (R179). -/
def Cause.contact : LineEnd → Cause
  | .a => .contactA
  | .b => .contactB

/-- The contact of end `e` has closed (R4, R6, R179): an OPEN end goes to SETTLING; in DORMANT, an end whose isolation flag is clear
wakes the part; in the other states the level alone is kept. -/
def State.contactClosed (s : State) (e : LineEnd) : State :=
  let t := s.updEnd e fun l => { l with contact := true }
  match (s.lineEnd e).state with
  | .opened => t.changeEnd e LineEndSt.toSettling
  | .bypassed => if s.ctrl.part = .dormant ∧ (s.lineEnd e).isolated = false then t.wake (Cause.contact e) else t
  | .settling => t
  | .hunting => t
  | .locked => t
  | .barred => t
  | .isolated => t

/-- CONTACT_CLOSE (R4, R6, R179). A contact that is closed already does not close (log entry 15). -/
def execContactClose (e : LineEnd) (s : State) : Host.Outcome State Fault Refusal :=
  .next (if (s.lineEnd e).contact then s else s.contactClosed e)

/-- The contact of end `e` has opened (R4, R5, R6): a SETTLING end returns to OPEN; a HUNTING, LOCKED or BARRED end goes to OPEN, and
a flap is counted if it was LOCKED (R23); in the other states the level alone is kept. -/
def State.contactOpened (s : State) (e : LineEnd) : State :=
  let t := s.updEnd e fun l => { l with contact := false }
  match (s.lineEnd e).state with
  | .settling => t.changeEnd e LineEndSt.toOpen
  | .hunting => t.loseEnd e LineEndSt.toOpen
  | .locked => t.loseEnd e LineEndSt.toOpen
  | .barred => t.loseEnd e LineEndSt.toOpen
  | .bypassed => t
  | .opened => t
  | .isolated => t

/-- CONTACT_OPEN (R4, R5, R6, R23). A contact that is open already does not open (log entry 15). -/
def execContactOpen (e : LineEnd) (s : State) : Host.Outcome State Fault Refusal :=
  .next (if (s.lineEnd e).contact then s.contactOpened e else s)

/-- CAB_INPUT_CHANGE (R60): the debounce timer runs exactly while the input differs from the debounced level, started afresh by each
change. An input that has this level already does not change (log entry 15). -/
def execCabInputChange (active : Bool) (s : State) : Host.Outcome State Fault Refusal :=
  .next
    (if active = s.consist.cabInput then s
     else
      s.setConsist { s.consist with
        cabInput := active
        debounceT := if active = s.consist.cabLevel then .stopped else .running Config.debounceMs })

end Sys2Proof.Machine
end

