-- ==== Sys2Proof/Machine/Timers.lean ====
section
/-! DEFINITION. The meanings of the timer expiries. A timer that is stopped does not expire, and a command that says it does has no
effect (log entry 2). -/

namespace Sys2Proof.Machine

/-- DEBOUNCE_TIMER_EXPIRY (R60, R61, R62): the debounced level takes the input level; a change of the part's own active cab end goes
on to the consist. -/
def execDebounceTimerExpiry (s : State) : Host.Outcome State Fault Refusal :=
  .next
    (if s.consist.debounceT.isRunning then
      let t := s.setConsist { s.consist with cabLevel := s.consist.cabInput, debounceT := .stopped }
      if t.ownCab = s.ownCab then t else t.ownCabChanged
     else s)

/-- An end as its release timer expires (R3): to ISOLATED if its isolation flag is set, otherwise by its contact. -/
def LineEndSt.transferred (l : LineEndSt) : LineEndSt :=
  let m := { l with releaseT := .stopped }
  if l.isolated then m.toIsolated else m.byContact

/-- RELEASE_TIMER_EXPIRY (R3). -/
def execReleaseTimerExpiry (e : LineEnd) (s : State) : Host.Outcome State Fault Refusal :=
  .next (if (s.lineEnd e).releaseT.isRunning then s.changeEnd e LineEndSt.transferred else s)

/-- SETTLE_TIMER_EXPIRY (R4, R12). -/
def execSettleTimerExpiry (e : LineEnd) (s : State) : Host.Outcome State Fault Refusal :=
  .next (if (s.lineEnd e).settleT.isRunning then s.changeEnd e LineEndSt.toHunting else s)

/-- LOSS_TIMER_EXPIRY (R10, R20, R23). -/
def execLossTimerExpiry (e : LineEnd) (s : State) : Host.Outcome State Fault Refusal :=
  .next (if (s.lineEnd e).lossT.isRunning then s.loseEnd e LineEndSt.toLost else s)

/-- BEACON_TIMER_EXPIRY (R12): a BEACON is offered and the timer restarted. -/
def execBeaconTimerExpiry (e : LineEnd) (s : State) : Host.Outcome State Fault Refusal :=
  .next
    (if (s.lineEnd e).beaconT.isRunning then
      s.updEnd e fun l => { l.offerBeacon with beaconT := .running Config.beaconMs }
     else s)

/-- LEAK_TIMER_EXPIRY (R23): the flap count falls by 1, not below 0, and the timer is restarted. -/
def execLeakTimerExpiry (e : LineEnd) (s : State) : Host.Outcome State Fault Refusal :=
  .next
    (if (s.lineEnd e).leakT.isRunning then
      s.updEnd e fun l => { l with flap := l.flap - 1, leakT := .running Config.leakMs }
     else s)

/-- ROLL_TIMER_EXPIRY (R50, R51, R52). -/
def execRollTimerExpiry (s : State) : Host.Outcome State Fault Refusal :=
  .next s.rollExpiry

/-- REFRESH_WINDOW_EXPIRY (R97). -/
def execRefreshWindowExpiry (s : State) : Host.Outcome State Fault Refusal :=
  .next (if s.dir.refreshT.isRunning then s.endRefresh else s)

/-- The change request timer has expired on this request (R112): sent again at attempt 1, given up with NO_ANSWER at attempt 2. -/
def State.changeTimeout (s : State) (c : ChangeRequest) : State :=
  if c.attempt = 1 then
    (s.setTraffic { s.traffic with change := some { c with attempt := 2 }, changeT := .running Config.changeMs }).sendChangeReq c
  else s.clearChange.complete .noAnswer [] false

/-- CHANGE_REQUEST_TIMER_EXPIRY (R112). -/
def execChangeRequestTimerExpiry (s : State) : Host.Outcome State Fault Refusal :=
  .next
    (match s.traffic.change with
     | some c => if s.traffic.changeT.isRunning then s.changeTimeout c else s
     | none => s)

/-- The query timer has expired on this foreground query (R127): sent again at attempt 1, given up with NO_ANSWER at attempt 2. -/
def State.foregroundTimeout (s : State) (q : ForegroundQuery) : State :=
  if q.attempt = 1 then
    (s.setResolver { query := some { q with attempt := 2 }, timer := .running Config.queryMs }).resendQuery q.id q.index q.tag
  else s.clearForeground.endResolution .noAnswer

/-- QUERY_TIMER_EXPIRY (R127). -/
def execQueryTimerExpiry (s : State) : Host.Outcome State Fault Refusal :=
  .next
    (match s.resolver.query with
     | some q => if s.resolver.timer.isRunning then s.foregroundTimeout q else s
     | none => s)

/-- The tag that the background query asks for: that of the binding it serves. -/
def State.backgroundTag (s : State) (q : BackgroundQuery) : Tag :=
  match s.binding q.slot with
  | some b => b.question.tag
  | none => []

/-- The background query timer has expired (R148): sent again at attempt 1; at attempt 2 its binding becomes UNRESOLVED with reason
NO_ANSWER. -/
def State.backgroundExpiry (s : State) (q : BackgroundQuery) : State :=
  if q.attempt = 1 then
    (s.setBindings { s.bindings with query := some { q with attempt := 2 }, timer := .running Config.queryMs }).resendQuery q.id q.index
      (s.backgroundTag q)
  else s.backgroundTimeout q

/-- BACKGROUND_QUERY_TIMER_EXPIRY (R148). -/
def execBackgroundQueryTimerExpiry (s : State) : Host.Outcome State Fault Refusal :=
  .next
    (match s.bindings.query with
     | some q => if s.bindings.timer.isRunning then s.backgroundExpiry q else s
     | none => s)

end Sys2Proof.Machine
end

