-- ==== Sys2Proof/Machine/Dispatch.lean ====
section
/-! DEFINITION. One arm per command: each a direct call of its meaning. -/

namespace Sys2Proof.Machine

def exec (i : Instr) (s : State) : Host.Outcome State Fault Refusal :=
  match i with
  | .powerOn => Sys2Proof.Machine.execPowerOn s
  | .portReset => Sys2Proof.Machine.execPortReset s
  | .contactClose e => Sys2Proof.Machine.execContactClose e s
  | .contactOpen e => Sys2Proof.Machine.execContactOpen e s
  | .cabInputChange active => Sys2Proof.Machine.execCabInputChange active s
  | .debounceTimerExpiry => Sys2Proof.Machine.execDebounceTimerExpiry s
  | .releaseTimerExpiry e => Sys2Proof.Machine.execReleaseTimerExpiry e s
  | .settleTimerExpiry e => Sys2Proof.Machine.execSettleTimerExpiry e s
  | .lossTimerExpiry e => Sys2Proof.Machine.execLossTimerExpiry e s
  | .beaconTimerExpiry e => Sys2Proof.Machine.execBeaconTimerExpiry e s
  | .leakTimerExpiry e => Sys2Proof.Machine.execLeakTimerExpiry e s
  | .rollTimerExpiry => Sys2Proof.Machine.execRollTimerExpiry s
  | .refreshWindowExpiry => Sys2Proof.Machine.execRefreshWindowExpiry s
  | .changeRequestTimerExpiry => Sys2Proof.Machine.execChangeRequestTimerExpiry s
  | .queryTimerExpiry => Sys2Proof.Machine.execQueryTimerExpiry s
  | .backgroundQueryTimerExpiry => Sys2Proof.Machine.execBackgroundQueryTimerExpiry s
  | .frameTransmitStart e => Sys2Proof.Machine.execFrameTransmitStart e s
  | .invalidFrame e => Sys2Proof.Machine.execInvalidFrame e s
  | .beacon e hdr senderEnd flags ea digest => Sys2Proof.Machine.execBeacon e hdr senderEnd flags ea digest s
  | .call e hdr => Sys2Proof.Machine.execCall e hdr s
  | .roll e hdr entries => Sys2Proof.Machine.execRoll e hdr entries s
  | .roster e hdr entries => Sys2Proof.Machine.execRoster e hdr entries s
  | .steer e hdr cab => Sys2Proof.Machine.execSteer e hdr cab s
  | .publish e hdr body => Sys2Proof.Machine.execPublish e hdr body s
  | .withdraw e hdr tag side => Sys2Proof.Machine.execWithdraw e hdr tag side s
  | .query e hdr id tag => Sys2Proof.Machine.execQuery e hdr id tag s
  | .answer e hdr id bodies => Sys2Proof.Machine.execAnswer e hdr id bodies s
  | .changeReq e hdr id tag side desired => Sys2Proof.Machine.execChangeReq e hdr id tag side desired s
  | .changeReply e hdr id outcome rev => Sys2Proof.Machine.execChangeReply e hdr id outcome rev s
  | .writeTransaction bytes => Sys2Proof.Machine.execWriteTransaction bytes s
  | .identify tag params => Sys2Proof.Machine.execIdentify tag params s
  | .getInfo tag params => Sys2Proof.Machine.execGetInfo tag params s
  | .sleep tag params => Sys2Proof.Machine.execSleep tag params s
  | .partReset tag params => Sys2Proof.Machine.execPartReset tag params s
  | .lineStatus tag params => Sys2Proof.Machine.execLineStatus tag params s
  | .lineIsolate tag params => Sys2Proof.Machine.execLineIsolate tag params s
  | .lineRestore tag params => Sys2Proof.Machine.execLineRestore tag params s
  | .lineUnbar tag params => Sys2Proof.Machine.execLineUnbar tag params s
  | .consistRead tag params => Sys2Proof.Machine.execConsistRead tag params s
  | .rollCall tag params => Sys2Proof.Machine.execRollCall tag params s
  | .recordOffer tag params => Sys2Proof.Machine.execRecordOffer tag params s
  | .recordUpdate tag params => Sys2Proof.Machine.execRecordUpdate tag params s
  | .recordWithdraw tag params => Sys2Proof.Machine.execRecordWithdraw tag params s
  | .recordList tag params => Sys2Proof.Machine.execRecordList tag params s
  | .requestState tag params => Sys2Proof.Machine.execRequestState tag params s
  | .lookup tag params => Sys2Proof.Machine.execLookup tag params s
  | .interestAdd tag params => Sys2Proof.Machine.execInterestAdd tag params s
  | .interestClear tag params => Sys2Proof.Machine.execInterestClear tag params s
  | .interestAll tag params => Sys2Proof.Machine.execInterestAll tag params s
  | .bind tag params => Sys2Proof.Machine.execBind tag params s
  | .unbind tag params => Sys2Proof.Machine.execUnbind tag params s
  | .bindingGet tag params => Sys2Proof.Machine.execBindingGet tag params s
  | .bindingScan tag params => Sys2Proof.Machine.execBindingScan tag params s
  | .eventRead tag params => Sys2Proof.Machine.execEventRead tag params s
  | .eventMask tag params => Sys2Proof.Machine.execEventMask tag params s
  | .viewAck tag params => Sys2Proof.Machine.execViewAck tag params s
  | .dispositionSet tag params => Sys2Proof.Machine.execDispositionSet tag params s
  | .portResetRelease => Sys2Proof.Machine.execPortResetRelease s

end Sys2Proof.Machine
end

