-- ==== Sys2Proof/Safety.lean ====
section
/-! DEFINITION. The terms claims about the part are stated in: what a host command looks like when it has completed, the work that may
keep a command in flight, and the invariants of the blocks. -/

namespace Sys2Proof

/-- The command of the summary whose block a host row writes, with the block's tag and parameter bytes; none for the other rows. -/
def Instr.hostCmd : Instr → Option (Machine.Cmd × Byte × List Byte)
  | .powerOn => none
  | .portReset => none
  | .contactClose _ => none
  | .contactOpen _ => none
  | .cabInputChange _ => none
  | .debounceTimerExpiry => none
  | .releaseTimerExpiry _ => none
  | .settleTimerExpiry _ => none
  | .lossTimerExpiry _ => none
  | .beaconTimerExpiry _ => none
  | .leakTimerExpiry _ => none
  | .rollTimerExpiry => none
  | .refreshWindowExpiry => none
  | .changeRequestTimerExpiry => none
  | .queryTimerExpiry => none
  | .backgroundQueryTimerExpiry => none
  | .frameTransmitStart _ => none
  | .invalidFrame _ => none
  | .beacon _ _ _ _ _ _ => none
  | .call _ _ => none
  | .roll _ _ _ => none
  | .roster _ _ _ => none
  | .steer _ _ _ => none
  | .publish _ _ _ => none
  | .withdraw _ _ _ _ => none
  | .query _ _ _ _ => none
  | .answer _ _ _ _ => none
  | .changeReq _ _ _ _ _ _ => none
  | .changeReply _ _ _ _ _ => none
  | .writeTransaction _ => none
  | .identify tag params => some (.identify, tag, params)
  | .getInfo tag params => some (.getInfo, tag, params)
  | .sleep tag params => some (.sleep, tag, params)
  | .partReset tag params => some (.partReset, tag, params)
  | .lineStatus tag params => some (.lineStatus, tag, params)
  | .lineIsolate tag params => some (.lineIsolate, tag, params)
  | .lineRestore tag params => some (.lineRestore, tag, params)
  | .lineUnbar tag params => some (.lineUnbar, tag, params)
  | .consistRead tag params => some (.consistRead, tag, params)
  | .rollCall tag params => some (.rollCall, tag, params)
  | .recordOffer tag params => some (.recordOffer, tag, params)
  | .recordUpdate tag params => some (.recordUpdate, tag, params)
  | .recordWithdraw tag params => some (.recordWithdraw, tag, params)
  | .recordList tag params => some (.recordList, tag, params)
  | .requestState tag params => some (.requestState, tag, params)
  | .lookup tag params => some (.lookup, tag, params)
  | .interestAdd tag params => some (.interestAdd, tag, params)
  | .interestClear tag params => some (.interestClear, tag, params)
  | .interestAll tag params => some (.interestAll, tag, params)
  | .bind tag params => some (.bind, tag, params)
  | .unbind tag params => some (.unbind, tag, params)
  | .bindingGet tag params => some (.bindingGet, tag, params)
  | .bindingScan tag params => some (.bindingScan, tag, params)
  | .eventRead tag params => some (.eventRead, tag, params)
  | .eventMask tag params => some (.eventMask, tag, params)
  | .viewAck tag params => some (.viewAck, tag, params)
  | .dispositionSet tag params => some (.dispositionSet, tag, params)
  | .portResetRelease => none

/-- A write of the host, or power-on: what may change the settings the host has given. -/
def Instr.fromHost : Instr → Bool
  | .powerOn => true
  | .portReset => false
  | .contactClose _ => false
  | .contactOpen _ => false
  | .cabInputChange _ => false
  | .debounceTimerExpiry => false
  | .releaseTimerExpiry _ => false
  | .settleTimerExpiry _ => false
  | .lossTimerExpiry _ => false
  | .beaconTimerExpiry _ => false
  | .leakTimerExpiry _ => false
  | .rollTimerExpiry => false
  | .refreshWindowExpiry => false
  | .changeRequestTimerExpiry => false
  | .queryTimerExpiry => false
  | .backgroundQueryTimerExpiry => false
  | .frameTransmitStart _ => false
  | .invalidFrame _ => false
  | .beacon _ _ _ _ _ _ => false
  | .call _ _ => false
  | .roll _ _ _ => false
  | .roster _ _ _ => false
  | .steer _ _ _ => false
  | .publish _ _ _ => false
  | .withdraw _ _ _ _ => false
  | .query _ _ _ _ => false
  | .answer _ _ _ _ => false
  | .changeReq _ _ _ _ _ _ => false
  | .changeReply _ _ _ _ _ => false
  | .writeTransaction _ => true
  | .identify _ _ => true
  | .getInfo _ _ => true
  | .sleep _ _ => true
  | .partReset _ _ => true
  | .lineStatus _ _ => true
  | .lineIsolate _ _ => true
  | .lineRestore _ _ => true
  | .lineUnbar _ _ => true
  | .consistRead _ _ => true
  | .rollCall _ _ => true
  | .recordOffer _ _ => true
  | .recordUpdate _ _ => true
  | .recordWithdraw _ _ => true
  | .recordList _ _ => true
  | .requestState _ _ => true
  | .lookup _ _ => true
  | .interestAdd _ _ => true
  | .interestClear _ _ => true
  | .interestAll _ _ => true
  | .bind _ _ => true
  | .unbind _ _ => true
  | .bindingGet _ _ => true
  | .bindingScan _ _ => true
  | .eventRead _ _ => true
  | .eventMask _ _ => true
  | .viewAck _ _ => true
  | .dispositionSet _ _ => true
  | .portResetRelease => false

namespace Machine

/-! ## Frames received and sent -/

/-- A tag of good form (R74, R79): 1 to 16 bytes, each 21h to 7Eh. -/
abbrev TagOk (t : Tag) : Prop :=
  1 ≤ t.length ∧ t.length ≤ 16 ∧ ∀ b ∈ t, 0x21#8 ≤ b ∧ b ≤ 0x7E#8

/-- A record of good form (R74): its tag, its attributes, and a revision from 1. -/
abbrev Rec.Good (r : Rec) : Prop :=
  TagOk r.tag ∧ r.attrs.length ≤ 8 ∧ r.rev ≠ 0#16

/-- A frame has been heard on end `e`: its loss timer has been restarted (R10). -/
def State.heardOn (s : State) (e : LineEnd) : State :=
  s.setEnd e { s.lineEnd e with lossT := .running Config.lossMs }

/-- A control frame placed in the queue of end `e`, as R17 states. -/
def State.queuedCtrl (s : State) (e : LineEnd) (f : Frame) : State :=
  s.setEnd e { s.lineEnd e with ctrlQ := pushCtrl (s.lineEnd e).ctrlQ f }

/-- A directory frame placed in the queue of end `e`, as R17 states. -/
def State.queuedDir (s : State) (e : LineEnd) (f : Frame) : State :=
  s.setEnd e { s.lineEnd e with dirQ := pushDir (s.lineEnd e).dirQ f }

/-- A directory frame with this header passes the acceptance test of R100. -/
abbrev State.FromCar (s : State) (h : Header) : Prop :=
  s.roll.state = .formed ∧ h.epoch = s.consist.ea ∧ h.src ≠ s.ownId ∧
    (s.consist.entry h.srcIdx.toNat).map RosterEntry.ident = some h.src

/-- The forwarding end toward roster index `t` is `out`, and it is joined (R69, R102). -/
abbrev State.Reaches (s : State) (t : Nat) (out : LineEnd) : Prop :=
  s.consist.forwardEnd t = some out ∧ (s.lineEnd out).state = .locked

/-- The entries of a ROLL or ROSTER have the form R39 and R46 ask for. -/
abbrev EntriesOk (es : List CarEntry) : Prop :=
  (∀ c ∈ es, c.ident ≠ 0#32 ∧ c.ident ≠ 0xFFFFFFFF#32 ∧ c.face ≤ 1#8 ∧ c.cab ≤ 2#8) ∧ (es.map CarEntry.ident).Nodup

/-- A ROSTER with this source index and these entries, arrived on end `e`, passes the consistency check of R46 with this part at roster
index `own`, of which it says facing `face` and active cab end `cab`. -/
abbrev State.RosterFits (s : State) (e : LineEnd) (h : Header) (es : List CarEntry) (own : Nat) (cab : Byte) : Prop :=
  EntriesOk es ∧ 1 ≤ own ∧ 1 ≤ h.srcIdx.toNat ∧ h.srcIdx.toNat ≠ own ∧
  (es[h.srcIdx.toNat - 1]?).map CarEntry.ident = some h.src ∧
  es[own - 1]? = some ⟨s.ownId, if h.srcIdx.toNat < own then e.code else e.other.code, cab⟩

/-! ## Commands of the host -/


/-- The Car Port will take a command block with this tag, and taking it wakes nothing (R154, R156, R157, R161). -/
abbrev State.CanTake (s : State) (tag : Byte) : Prop :=
  s.port.resetInput = false ∧ s.port.state ≠ .inFlight ∧ s.ctrl.part ≠ .dormant ∧ tag ≠ 0#8

/-- The part with a command completed at once under this tag (R158, R159): the port is READY and holds its status block, whose view
number, attention flag and consist state are those of `s`; the rest is as in `s`. -/
def State.answered (s : State) (tag : Byte) (st : Status) (data : List Byte) (stale : Bool) : State :=
  { s with
    port := { s.port with
      state := .ready
      rxBuffer := []
      inFlight := none
      overrun := false
      status := some
        { status := st, tag := tag, view := s.consist.view, attention := s.attention, overrun := false, stale := stale,
          consist := s.roll.state, data := data } } }

/-- The part with this command taken and waiting for another car (R157, R158). -/
def State.waiting (s : State) (c : Cmd) (tag : Byte) : State :=
  { s with
    port := { s.port with
      state := .inFlight
      rxBuffer := []
      inFlight := some { code := c.code, tag := tag, owner := c.owner }
      status := none
      overrun := false } }

/-- The status block of the port reports this outcome under this tag, with these data and the view number and consist state of `s`. -/
abbrev State.Reports (s : State) (tag : Byte) (st : Status) (data : List Byte) : Prop :=
  s.port.state = .ready ∧ s.port.inFlight = none ∧
    s.port.status.map (fun b => (b.status, b.tag, b.data)) = some (st, tag, data) ∧
    s.port.status.map (fun b => (b.view, b.consist)) = some (s.consist.view, s.roll.state)

/-- A selector whose value passes the checks of R118. -/
def Selector.ok : Selector → Bool
  | .front k => decide (1 ≤ k ∧ k ≤ 16)
  | .rear k => decide (1 ≤ k ∧ k ≤ 16)
  | .self => true
  | .car id => decide (id ≠ 0#32 ∧ id ≠ 0xFFFFFFFF#32)
  | .nearest => true

/-- No command waits for another car: no foreground query, no change request, no handle reserved (R114, R117, R139). -/
abbrev State.Quiet (s : State) : Prop :=
  s.resolver.query = none ∧ s.traffic.change = none ∧ s.firstSlot HandleSlot.isReserved = none

/-- A report about a record of this tag moves no binding and starts no query (R145, R147). -/
abbrev State.Unbound (s : State) (t : Tag) : Prop :=
  s.namesTag t = false ∧ s.firstSlot HandleSlot.isPending = none

/-- The part with its command in flight completed (R158, R159): the port is READY and holds the status block; the rest is as in `s`. -/
def State.endedWith (s : State) (tag : Byte) (st : Status) (data : List Byte) (stale : Bool) : State :=
  { s with
    port := { s.port with
      state := .ready
      inFlight := none
      status := some
        { status := st, tag := tag, view := s.consist.view, attention := s.attention, overrun := s.port.overrun, stale := stale,
          consist := s.roll.state, data := data } } }

/-- `t` keeps what only the host sets (Part Control, the home records, the interest filter, the mask and the dispositions). -/
abbrev State.KeepsSettings (s t : State) : Prop :=
  t.ctrl = s.ctrl ∧ t.dir.home = s.dir.home ∧ t.dir.interest = s.dir.interest ∧ t.dir.allMode = s.dir.allMode ∧
    t.attn.mask = s.attn.mask ∧ t.attn.disp = s.attn.disp

/-- The line end `m` differs from `l` in its queues alone. -/
abbrev LineEndSt.SameButQueues (l m : LineEndSt) : Prop :=
  { m with ctrlQ := l.ctrlQ, dirQ := l.dirQ } = l

/-- A trigger has been taken with no joined end (R31): a one-car roster is adopted at an increased epoch. -/
abbrev State.AdoptedAlone (s t : State) : Prop :=
  t.roll = { s.roll with epoch := increaseEpoch s.roll.epoch, state := .formed, attempts := 0, timer := .stopped } ∧
    t.consist.roster = [⟨t.ownId, .a, t.ownCab⟩] ∧ t.consist.ea = increaseEpoch s.roll.epoch ∧ t.consist.ownIdx = 1 ∧
    t.consist.view = s.consist.view + 1#16

/-- A trigger has been taken with end `e` the one joined end (R31, R38): a ROLL is originated out of it. -/
abbrev State.Originated (s t : State) (e : LineEnd) : Prop :=
  t.roll =
      { epoch := increaseEpoch s.roll.epoch, state := .rolling, attempts := 0, timer := .running Config.rollFastMs,
        lastOrig := increaseEpoch s.roll.epoch } ∧
    t.consist = s.consist ∧
    (t.lineEnd e).ctrlQ = pushCtrl (s.lineEnd e).ctrlQ
      ⟨⟨increaseEpoch s.roll.epoch, s.ownId, 0#8, 0#8⟩, .roll [⟨s.ownId, e.other.code, s.ownCab.code⟩]⟩

/-- A trigger has been taken with two joined ends (R31, R35): a CALL is offered to both. -/
abbrev State.Called (s t : State) : Prop :=
  t.roll = { s.roll with state := .rolling, attempts := 0, timer := .running Config.rollFastMs } ∧
    t.consist = s.consist ∧
    t.lineA.ctrlQ = pushCtrl s.lineA.ctrlQ ⟨⟨s.roll.epoch, s.ownId, 0#8, 0#8⟩, .call⟩ ∧
    t.lineB.ctrlQ = pushCtrl s.lineB.ctrlQ ⟨⟨s.roll.epoch, s.ownId, 0#8, 0#8⟩, .call⟩

/-- A directory frame placed in the queue of each joined end (R17, R103). -/
def State.queuedJoined (s : State) (f : Frame) : State :=
  { s with
    lineA := { s.lineA with dirQ := if s.lineA.state = .locked then pushDir s.lineA.dirQ f else s.lineA.dirQ }
    lineB := { s.lineB with dirQ := if s.lineB.state = .locked then pushDir s.lineB.dirQ f else s.lineB.dirQ } }

/-- A DORMANT part has woken (R176, R179): READY with the bypass released and its timers started, the one-car roster adopted, the mirrors
of other cars gone (R96), no burst (R105) and no background query (R149), WAKE pending, and the rest as it was. -/
abbrev State.WokenBy (s t : State) (c : Cause) : Prop :=
  t.ctrl = { s.ctrl with part := .ready, bypass := false } ∧ s.AdoptedAlone t ∧ t.attn.events.wake = some c ∧
    t.lineA =
      { s.lineA with
        releaseT := .running Config.releaseMs
        leakT := .running Config.leakMs
        dirQ := s.lineA.dirQ.filter fun f => decide (f.hdr.epoch = increaseEpoch s.roll.epoch) } ∧
    t.lineB =
      { s.lineB with
        releaseT := .running Config.releaseMs
        leakT := .running Config.leakMs
        dirQ := s.lineB.dirQ.filter fun f => decide (f.hdr.epoch = increaseEpoch s.roll.epoch) } ∧
    t.dir.home = s.dir.home ∧ t.dir.interest = s.dir.interest ∧ t.dir.allMode = s.dir.allMode ∧
    t.dir.refreshT = .running Config.refreshMs ∧ (∀ m ∈ t.dir.mirrors, m.owner = s.ownId ∧ m.fresh = .stale) ∧
    t.traffic = { s.traffic with burst := false, remainder := [], replies := [] } ∧ t.resolver = s.resolver ∧
    t.bindings.query = none ∧ t.bindings.timer = .stopped ∧ t.attn.mask = s.attn.mask ∧ t.attn.disp = s.attn.disp

/-! ## The republish burst -/

/-- The PUBLISH of the home record with this key, as the record stands (R103, R105). -/
def State.publishFrame (s : State) (k : Tag × Side) : List Frame :=
  (s.dir.home.find? fun r => decide (r.tag = k.1 ∧ r.side = k.2)).toList.map fun r =>
    ⟨⟨s.consist.ea, s.ownId, 0#8, byteOf s.consist.ownIdx⟩, .publish r.toBody⟩

/-- The directory queue of end `e` once the burst has offered the records with these keys, one after another (R17, R105). -/
def State.burstQueue (s : State) (e : LineEnd) (ks : List (Tag × Side)) : List Frame :=
  if (s.lineEnd e).state = .locked then (ks.flatMap s.publishFrame).foldl pushDir (s.lineEnd e).dirQ else (s.lineEnd e).dirQ

/-- Every joined end's directory queue holds 8 or fewer frames once the burst has offered these records (R105). -/
abbrev State.burstRoom (s : State) (ks : List (Tag × Side)) : Prop :=
  ∀ e ∈ [LineEnd.a, .b], (s.lineEnd e).state = .locked → (s.burstQueue e ks).length ≤ Config.burstOccupancy

/-- The burst has run from `s` with this remainder until its condition failed or the remainder was empty (R105): the first `k` records
have been offered to every joined end, each while there was room, and the rest are the remainder. -/
abbrev State.BurstRan (s t : State) (rem : List (Tag × Side)) : Prop :=
  ∃ k ∈ List.range (rem.length + 1),
    (∀ j ∈ List.range k, s.burstRoom (rem.take j)) ∧ (k < rem.length → ¬s.burstRoom (rem.take k)) ∧
    t.traffic.remainder = rem.drop k ∧ t.traffic.burst = decide (k < rem.length) ∧
    ∀ e ∈ [LineEnd.a, .b], (t.lineEnd e).dirQ = s.burstQueue e (rem.take k)

/-- The keys of the home list, in its order. -/
def State.homeKeys (s : State) : List (Tag × Side) :=
  s.dir.home.map fun r => (r.tag, r.side)

/-! ## Eviction, purge and re-resolution -/

/-- `v` is the mirror that eviction takes (R92), between `pre` and `post` in the use order: the least recently used STALE one that no
binding pins, or, if there is none, the least recently used that no binding pins. -/
abbrev State.Evicts (s : State) (pre : List Mirror) (v : Mirror) (post : List Mirror) : Prop :=
  s.dir.mirrors = pre ++ v :: post ∧ s.dir.home.length + s.dir.mirrors.length = Config.maxRecords ∧
    (∀ m ∈ pre ++ post, ¬(m.owner = v.owner ∧ m.body.tag = v.body.tag ∧ m.body.side = v.body.side)) ∧ v.pins = 0 ∧
    (∀ m ∈ pre, m.pins = 0 → m.fresh = .current ∧ v.fresh = .stale) ∧
    (v.fresh = .current → ∀ m ∈ post, m.pins = 0 → m.fresh = .current)

/-- The mirrors of `t` are those of `s` whose owners its roster holds, every one STALE, in some use order (R96). -/
abbrev State.Purged (s t : State) : Prop :=
  (t.dir.mirrors.map fun m => (m.owner, m.body, m.fresh)).Perm
    ((s.dir.mirrors.filter fun m => (t.consist.roster.map RosterEntry.ident).contains m.owner).map fun m =>
      (m.owner, m.body, Freshness.stale))

/-- A binding RESOLVED on a record found, in terms of the train as it stands (R143). -/
def State.resolvedOn (s : State) (h : Hit) : BindState :=
  .resolved
    { source := h.source, owner := h.owner, carSide := h.body.side,
      trainSide := trainSide (s.consist.aligned h.index) h.body.side, position := s.consist.position h.index, index := h.index,
      addr := h.body.addr, state := h.body.state, rev := h.body.rev }

/-- What R143 makes of a binding that asks this question, with the roster, the directory and the consist state as they stand. -/
def State.resolution (s : State) (q : Question) : BindState :=
  if s.roll.state = .unformed then .unresolved (if q.sel = .self then .noRecord else .noConsist)
  else if q.sel = .nearest then
    match s.consist.nearest.findSome? fun i => s.matchCar i q.tag q.filter with
    | some h => s.resolvedOn h
    | none => .unresolved .noRecord
  else
    match s.consist.target q.sel with
    | .absent => .unresolved .notPresent
    | .car i =>
      match s.matchCar i q.tag q.filter with
      | some h => s.resolvedOn h
      | none =>
        if s.roll.state = .formed ∧ (s.consist.entry i).all (fun r => decide (r.ident = s.ownId)) = false then .pending
        else .unresolved .noRecord

/-- The binding rests on a STALE mirror. -/
def State.restsOnStale (s : State) (b : Binding) : Bool :=
  s.dir.mirrors.any fun m =>
    decide (b.st.mirrorKey b.question.tag = some (m.owner, m.body.tag, m.body.side) ∧ m.fresh = .stale)

/-- The binding with the contents that R143 gives it, its stale flag as R136 and its changed mark as R150 say. -/
def State.rebound (s : State) (b : Binding) : Binding :=
  let n := { b with st := s.resolution b.question }
  let stale := s.roll.state.unsettled || (decide (s.roll.state = .formed) && s.restsOnStale n)
  { n with stale := stale, changed := b.changed || decide (n.st ≠ b.st ∨ stale ≠ b.stale) }

/-- Every binding of `s` whose tag `p` holds of has been re-resolved, as the part stands in `t`, and the other handles are as they were;
BINDING_CHANGED is pending if it was or if some binding's contents differ (R143 to R145, R150). -/
abbrev State.Rebound (s t : State) (p : Tag → Bool) : Prop :=
  (∀ i ∈ slots,
    t.slot i =
      match s.slot i with
      | .held b => .held (if p b.question.tag then t.rebound b else b)
      | .reserved q => .reserved q
      | .free => .free) ∧
  t.attn.events.bindingChanged =
    (s.attn.events.bindingChanged ||
      slots.any fun i =>
        match s.binding i with
        | some b => p b.question.tag && decide ((t.rebound b).st ≠ b.st ∨ (t.rebound b).stale ≠ b.stale)
        | none => false)

/-! ## Invariants -/

/-- What holds of every line end (R1 to R25): queue limits, and which fields are in use in which end state. -/
abbrev LineEndSt.Ok (l : LineEndSt) : Prop :=
  l.ctrlQ.length ≤ Config.ctrlQueueMax ∧ l.dirQ.length ≤ Config.dirQueueMax ∧ l.ctrlQ.count .beacon ≤ 1 ∧
  l.flap ≤ Config.flapMax ∧ l.lockCount < Config.lockFrames ∧ (l.state ≠ .hunting → l.lockCount = 0) ∧
  (l.state ≠ .locked → l.dirQ = [] ∧ ∀ c ∈ l.ctrlQ, c = .beacon) ∧
  (l.state.framing = false → l.ctrlQ = [] ∧ l.sending = none ∧ l.barFlag = false ∧ l.neighbour = none) ∧
  l.beaconT = (if l.state.framing then .running Config.beaconMs else .stopped) ∧
  l.settleT = (if l.state = .settling then .running Config.settleMs else .stopped) ∧
  l.lossT = (if l.state = .locked ∨ l.state = .barred then .running Config.lossMs else .stopped) ∧
  (l.state ≠ .bypassed → l.releaseT = .stopped) ∧
  (l.state = .locked → l.barFlag = false) ∧ (l.state = .barred → l.barFlag = true) ∧
  (l.state = .settling ∨ l.state.framing → l.contact = true) ∧
  (l.state = .isolated → l.isolated = true) ∧ (l.isolated = true → l.state = .bypassed ∨ l.state = .isolated)

/-- The line ends and the part state agree (R2, R3, R23, R176). -/
abbrev State.LineInv (s : State) : Prop :=
  s.lineA.Ok ∧ s.lineB.Ok ∧ s.ctrl.bypass = decide (s.ctrl.part ≠ .ready) ∧
  (s.ctrl.part ≠ .ready →
    s.lineA.state = .bypassed ∧ s.lineB.state = .bypassed ∧ s.lineA.releaseT = .stopped ∧ s.lineB.releaseT = .stopped ∧
    s.lineA.leakT = .stopped ∧ s.lineB.leakT = .stopped) ∧
  (s.ctrl.part = .ready → s.lineA.leakT = .running Config.leakMs ∧ s.lineB.leakT = .running Config.leakMs)

/-- Some end is joined. -/
abbrev State.someJoined (s : State) : Prop :=
  s.lineA.state = .locked ∨ s.lineB.state = .locked

/-- The Roll-Call Engine and the part state (R28, R30, R31, R50 to R53): epochs, and what each consist state goes with. -/
abbrev State.RollInv (s : State) : Prop :=
  s.consist.ea ≤ s.roll.epoch ∧ s.roll.lastOrig ≤ s.roll.epoch ∧
  (s.roll.state = .unformed ↔ s.ctrl.part = .unidentified) ∧
  (s.roll.state = .unformed ∨ s.roll.state = .formed → s.roll.timer = .stopped ∧ s.roll.attempts = 0) ∧
  (s.roll.state = .rolling →
    s.roll.timer = .running Config.rollFastMs ∧ s.roll.attempts < Config.fastAttempts ∧ s.ctrl.part = .ready ∧ s.someJoined) ∧
  (s.roll.state = .degraded →
    s.roll.timer = .running Config.rollSlowMs ∧ s.roll.attempts = Config.fastAttempts ∧ s.ctrl.part = .ready ∧ s.someJoined)

/-- The Consist Table (R54 to R59): the roster, and the fields that follow from it. -/
abbrev State.TableInv (s : State) : Prop :=
  s.consist.roster.length ≤ Config.maxCars ∧ (s.consist.roster.map RosterEntry.ident).Nodup ∧
  s.consist.digest = rosterDigest s.consist.roster ∧ s.consist.dir = directionOf s.consist.roster ∧
  s.consist.conflict = conflictOf s.consist.roster ∧
  (s.ctrl.identity = none ↔ s.ctrl.part = .unidentified) ∧
  (s.roll.state = .unformed → s.consist.roster = [] ∧ s.consist.ownIdx = 0) ∧
  (s.roll.state ≠ .unformed → s.consist.ownIdx = rosterIndex s.consist.roster s.ownId ∧ s.consist.ownIdx ≠ 0)

/-- The Function Directory (R74, R75, R81): its limits and its keys. -/
abbrev State.DirInv (s : State) : Prop :=
  s.dir.home.length ≤ Config.maxHome ∧ s.dir.home.length + s.dir.mirrors.length ≤ Config.maxRecords ∧
  (s.dir.home.map fun r => (r.tag, r.side)).Nodup ∧ (s.dir.mirrors.map fun m => (m.owner, m.body.tag, m.body.side)).Nodup ∧
  (∀ r ∈ s.dir.home, r.rev ≠ 0#16) ∧ ∀ m ∈ s.dir.mirrors, m.body.rev ≠ 0#16

/-- The Car Port and the remote work of the command in flight (R112, R117, R126, R152, R158): a command is in flight exactly while the
port is IN_FLIGHT, and exactly one of a foreground query and a change request then waits; a handle is reserved only beside a foreground
query. -/
abbrev State.PortInv (s : State) : Prop :=
  (s.port.inFlight.isSome = decide (s.port.state = .inFlight)) ∧ (s.port.status.isSome = decide (s.port.state = .ready)) ∧
  s.port.rxBuffer = [] ∧
  (s.port.state = .inFlight → (s.resolver.query.isSome != s.traffic.change.isSome) = true) ∧
  (s.port.state ≠ .inFlight → s.resolver.query = none ∧ s.traffic.change = none) ∧
  (s.resolver.query = none → slots.countP (fun i => (s.slot i).isReserved) = 0) ∧
  slots.countP (fun i => (s.slot i).isReserved) ≤ 1 ∧
  (s.resolver.query.isSome → s.roll.state = .formed) ∧ (s.traffic.change.isSome → s.roll.state = .formed) ∧
  s.resolver.timer = (if s.resolver.query.isSome then .running Config.queryMs else .stopped) ∧
  s.traffic.changeT = (if s.traffic.change.isSome then .running Config.changeMs else .stopped)

/-- The event set (R164): the order of pending names each kind that is pending, once, and no other. -/
abbrev Events.Ok (ev : Events) : Prop :=
  ev.order.Nodup ∧ ∀ k ∈ EventKind.all, (k ∈ ev.order ↔ ev.has k = true)

/-- A binding in the table rests on the mirror with this key. -/
def HandleSlot.restsOn (k : Ident × Tag × Side) : HandleSlot → Bool
  | .held b => decide (b.st.mirrorKey b.question.tag = some k)
  | .reserved _ => false
  | .free => false

/-- Each handle that a BIND in flight has reserved keeps a question of the foreground query's tag (R126, R137, R138; log entry 20). -/
abbrev State.ReservedInv (s : State) : Prop :=
  ∀ i ∈ slots, ∀ t ∈ (match s.slot i with
    | .reserved q => some q.tag
    | .held _ => none
    | .free => none), s.resolver.query.map ForegroundQuery.tag = some t

/-- The pins (R93, R136, R151): each mirror's pin count is the number of bindings that rest on it, and each binding that rests on a
mirror rests on one that is held. -/
abbrev State.PinInv (s : State) : Prop :=
  (∀ m ∈ s.dir.mirrors, m.pins = slots.countP fun i => (s.slot i).restsOn (m.owner, m.body.tag, m.body.side)) ∧
  ∀ i ∈ slots, ∀ k ∈ (match s.binding i with
    | some b => (b.st.mirrorKey b.question.tag).toList
    | none => []), (s.dir.findMirror k.1 k.2.1 k.2.2).isSome = true

end Machine

end Sys2Proof
end

