-- ==== Sys2Proof/Certificates/Slice0/Obligations.lean ====
section
/-! DEFINITION. The statements for the provers, in the manual's order: the queue and the invariants, the line frames, the train
arithmetic, the pins and timers, the frames of the line, the host's commands. -/

open Sys2Proof Sys2Proof.Machine

/-- For every command c and state s, the step of s with c at the front of its queue is exec c on s. On an empty queue the part
idles: that a tick without a command changes nothing is the model's choice (log entry 1).
Rests on Introduction (each command is one whole occurrence), 00_scope.md. -/
def Obligations.StepRunsTheFrontCommand : Prop :=
  (∀ (c : Instr) (s : State),
      (step { s with pending := c :: s.pending } = exec c s)) ∧
  (∀ (s : State),
      (s.pending = []) →
      (step s = .next s))

/-- For every command c and state s, exec c on s answers a next state whose queue is that of s: no command faults, none is
refused, and none adds or takes a waiting command. That no command faults and none is refused in any state is read from the
manual by inference (log entry 24).
Rests on Introduction (each command is one whole occurrence), 95_what_each_step_holds.md. -/
def Obligations.EveryCommandCompletesAndKeepsTheQueue : Prop :=
  ∀ (c : Instr) (s : State),
    (∃ t, exec (c) s = .next t ∧
      t.pending = s.pending)

/-- State.reset satisfies the line end, roll call, consist table, directory, port, event set and pin invariants that the
statements about every step assume.
Rests on R1, R28, R54, R78, R135, R152, R174. -/
def Obligations.InvariantsHoldAtReset : Prop :=
        (State.reset.LineInv ∧
      State.reset.RollInv ∧
      State.reset.TableInv ∧
      State.reset.DirInv ∧
      State.reset.PortInv ∧
      State.reset.attn.events.Ok ∧
      State.reset.PinInv)

/-- If the two line ends satisfy the line end invariant (queue limits; the queues, timers, flags and neighbour record that go with
each end state; both ends BYPASSED and their timers stopped outside READY), they satisfy it after any step.
Rests on R2, R3, R4, R5, R9, R10, R12, R16, R17, R20, R23, R25. -/
def Obligations.EveryStepKeepsTheLineEnds : Prop :=
  ∀ (s t : State),
    (s.LineInv) →
    (step s = .next t) →
    (t.LineInv)

/-- From a state with the line end and roll call invariants, any step keeps these: Ea and the last origination epoch are at most
E; UNFORMED goes with UNIDENTIFIED; in FORMED the roll timer is stopped and the attempt count 0; in ROLLING and DEGRADED the
part is READY with a joined end, and the timer and attempt count are those of the fast attempts and the slow retries.
Rests on R28, R31, R39, R49, R50, R51, R52, R53. -/
def Obligations.EveryStepKeepsTheRollCall : Prop :=
  ∀ (s t : State),
    (s.LineInv) →
    (s.RollInv) →
    (step s = .next t) →
    (t.RollInv)

/-- From a state with the line end, roll call and consist table invariants, any step keeps these: at most 16 cars, no identity
twice, the digest, D and the cab conflict flag are those of the entries, and the own roster index is that of the part's own
identity.
Rests on R46, R54, R55, R56, R58, R59, R66. -/
def Obligations.EveryStepKeepsTheConsistTable : Prop :=
  ∀ (s t : State),
    (s.LineInv) →
    (s.RollInv) →
    (s.TableInv) →
    (step s = .next t) →
    (t.TableInv)

/-- At most 32 home records and 256 records in all, no key twice, and no revision 0: if this holds it holds after any step.
Rests on R74, R75, R80, R81, R86, R88, R92. -/
def Obligations.EveryStepKeepsTheDirectory : Prop :=
  ∀ (s t : State),
    (s.DirInv) →
    (step s = .next t) →
    (t.DirInv)

/-- A command is in flight exactly while the port is IN_FLIGHT; exactly one of a foreground query and a change request then waits,
with its timer running, in FORMED; a handle is reserved only beside a foreground query, and at most one. If this holds it
holds after any step.
Rests on R112, R114, R117, R126, R129, R139, R152, R158. -/
def Obligations.EveryStepKeepsOneCommandInFlight : Prop :=
  ∀ (s t : State),
    (s.PortInv) →
    (step s = .next t) →
    (t.PortInv)

/-- If the order of pending names each pending kind once and no other kind, it does so after any step.
Rests on R164, R165, R169, R170. -/
def Obligations.EveryStepKeepsTheEventSet : Prop :=
  ∀ (s t : State),
    (s.attn.events.Ok) →
    (step s = .next t) →
    (t.attn.events.Ok)

/-- From a state with the directory and port invariants, in which a handle that a BIND in flight has reserved keeps a question of
the foreground query's tag, each mirror's pin count is the number of bindings whose answer it is, and every binding that rests
on a mirror rests on one that is held, the last two hold after any step. The second and third clauses say that the premise on
reserved handles (whose question the model keeps there, log entry 20) is an invariant too: every step keeps it beside the port
invariant, and State.reset has it.
Rests on R92, R93, R126, R136, R137, R139, R145, R151. -/
def Obligations.EveryStepKeepsThePins : Prop :=
  (∀ (s t : State),
      (s.DirInv) →
      (s.PortInv) →
      (s.ReservedInv) →
      (s.PinInv) →
      (step s = .next t) →
      (t.PinInv)) ∧
  (∀ (s t : State),
      (s.PortInv) →
      (s.ReservedInv) →
      (step s = .next t) →
      (t.ReservedInv)) ∧
  (      (State.reset.ReservedInv))

/-- Every command answers a next state in which E is at least what it was, or the part is UNIDENTIFIED with E 0, as power-on and
PART_RESET leave it.
Rests on R28, R29, R49. -/
def Obligations.EpochFallsOnlyAtAReset : Prop :=
  ∀ (c : Instr) (s : State),
    (∃ t, exec (c) s = .next t ∧
      (s.roll.epoch ≤ t.roll.epoch ∨ (t.ctrl.part = .unidentified ∧ t.roll.epoch = 0#32)))

/-- From a state in which no two home records have one tag and side, a command that is neither a write of the host nor power-on
leaves as they were: the identity, the configured cab end and the start cause, the event mask, the dispositions, the interest
filter and ALL mode, and the tags, sides, service addresses, permissions and attributes of the home records in their order.
Rests on R74, R95, R166, R173, R175. -/
def Obligations.OnlyTheHostChangesItsSettings : Prop :=
  ∀ (c : Instr) (s : State),
    (s.DirInv) →
    (c.fromHost = false) →
    (∃ t, exec (c) s = .next t ∧
      t.ctrl.identity = s.ctrl.identity ∧
      t.ctrl.cabCfg = s.ctrl.cabCfg ∧
      t.ctrl.startCause = s.ctrl.startCause ∧
      t.attn.mask = s.attn.mask ∧
      t.attn.disp = s.attn.disp ∧
      t.dir.interest = s.dir.interest ∧
      t.dir.allMode = s.dir.allMode ∧
      t.dir.home.map (fun r => (r.tag, r.side, r.addr, r.perm, r.attrs)) = s.dir.home.map (fun r => (r.tag, r.side, r.addr, r.perm, r.attrs)))

/-- For every valid frame, of every kind and with every field, the receiver that takes its bytes after the delimiter, with
anything behind them, judges it valid, reads back exactly that frame and has taken exactly its bytes.
Rests on R7, R8, Line frames (Common header, Frame kinds, Payloads). -/
def Obligations.FramesAreReadAsTheyAreSent : Prop :=
  ∀ (f : Frame) (rest : List Byte),
    (f.valid = true) →
    (judgeFrame (f.body ++ rest) = .valid f f.body.length)

/-- Whenever the receiver judges the bytes after a delimiter valid, the frame read is valid and the bytes taken are exactly those
a transmitter sends for it, CRC and all.
Rests on R7, R8, Line frames (Common header, Frame kinds, Payloads). -/
def Obligations.NothingElseIsAValidFrame : Prop :=
  ∀ (bs : List Byte) (f : Frame) (n : Nat),
    (judgeFrame bs = .valid f n) →
    (f.valid = true ∧
      bs.take n = f.body ∧
      n = f.body.length)

/-- For every valid frame, a stream of any number of idle one bits followed by the bits of the frame is received as that one frame
and nothing else.
Rests on R7, R8. -/
def Obligations.TheReceiverFindsAFrameInTheBits : Prop :=
  ∀ (f : Frame) (idle fuel : Nat),
    (f.valid = true) →
    (idle + f.bits.length ≤ fuel) →
    (receiveBits fuel (List.replicate idle true ++ f.bits) = [some f])

/-- For i from 1 to N the train position of the car at roster index i is i in REF and N + 1 - i in FAR; it lies in 1 to N, and the
roster index at that position is i again, so the positions are the numbers 1 to N, each once. The roster index at position p
is p in REF and N + 1 - p in FAR. With N = 1 the one car is at position 1.
States R67. -/
def Obligations.TrainPositions : Prop :=
  ∀ (c : ConsistTable) (i : Nat),
    (1 ≤ i) →
    (i ≤ c.n) →
    ((c.dir = .ref → c.position i = i ∧ c.indexAt i = i) ∧
      (c.dir = .far → c.position i = c.n + 1 - i ∧ c.indexAt i = c.n + 1 - i) ∧
      1 ≤ c.position i ∧
      c.position i ≤ c.n ∧
      c.indexAt (c.position i) = i ∧
      c.position (c.indexAt i) = i ∧
      (c.n = 1 → c.position i = 1) ∧
      ∀ d, ({ c with dir := d } : ConsistTable).entry i = c.entry i)

/-- A car is aligned when its facing is A and D is REF or its facing is B and D is FAR, and not otherwise. On an aligned car S1 is
LEFT and S2 is RIGHT, on another S1 is RIGHT and S2 is LEFT; BOTH and NONE stay. LEFT and RIGHT come from one car side only,
so the table is read back the same way. A change of D swaps LEFT and RIGHT.
States R68. -/
def Obligations.AlignmentAndSides : Prop :=
  (∀ (c : ConsistTable) (i : Nat) (r : RosterEntry),
      (c.entry i = some r) →
      ((c.aligned i = true ↔ (r.facing = .a ∧ c.dir = .ref) ∨ (r.facing = .b ∧ c.dir = .far)))) ∧
  (∀ (al : Bool) (x : Side),
      (trainSide true .s1 = .left ∧
        trainSide true .s2 = .right ∧
        trainSide false .s1 = .right ∧
        trainSide false .s2 = .left ∧
        trainSide al .both = .both ∧
        trainSide al .none = .none ∧
        (trainSide al x = .left ↔ x = if al then .s1 else .s2) ∧
        (trainSide al x = .right ↔ x = if al then .s2 else .s1))) ∧
  (∀ (f : LineEnd),
      (alignedFacing .far f = !alignedFacing .ref f))

/-- For a part at roster index o with facing f, the forwarding end toward t is f below o, the other end above o up to N, and none
for o itself, for 0 and above N. It does not change with D or with any car's active cab end.
Rests on R69. -/
def Obligations.ForwardingEnds : Prop :=
  ∀ (c : ConsistTable) (t : Nat) (r : RosterEntry),
    (c.entry c.ownIdx = some r) →
    ((1 ≤ t → t < c.ownIdx → c.forwardEnd t = some r.facing) ∧
      (c.ownIdx < t → t ≤ c.n → c.forwardEnd t = some r.facing.other) ∧
      (t = c.ownIdx → c.forwardEnd t = none) ∧
      (t = 0 → c.forwardEnd t = none) ∧
      (c.n < t → c.forwardEnd t = none) ∧
      (∀ d, ({ c with dir := d } : ConsistTable).forwardEnd t = c.forwardEnd t) ∧
      ∀ i cab, (c.setCab i cab).forwardEnd t = c.forwardEnd t)

/-- For a part with a place in its roster, the nearest order lists the roster indices 1 to N, each once, by increasing hop count
and, at equal hop count, the lower train position first; the own car comes first. The hop count is the absolute difference of
the roster indices.
States R70. -/
def Obligations.NearestOrder : Prop :=
  ∀ (c : ConsistTable),
    (1 ≤ c.ownIdx) →
    (c.ownIdx ≤ c.n) →
    (c.nearest.Perm ((List.range c.n).map (· + 1)) ∧
      c.nearest.Pairwise (fun i j => c.hops i < c.hops j ∨ (c.hops i = c.hops j ∧ c.position i < c.position j)) ∧
      c.nearest.head? = some c.ownIdx ∧
      c.hops c.ownIdx = 0 ∧
      (∀ t, (c.hops t : Int) = |(t : Int) - c.ownIdx|) ∧
      (c.n ≤ 16 → ∀ t, 1 ≤ t → t ≤ c.n → c.hops t ≤ 15))

/-- A record is chosen among the candidates of one car exactly when some candidate has a train side that the filter takes (LEFT,
then BOTH; RIGHT, then BOTH; BOTH, NONE, LEFT, RIGHT for ANY); the one chosen is a candidate, and no other candidate has a
train side that comes earlier in that order.
Rests on R121, R122. -/
def Obligations.SideFilterChoice : Prop :=
  (∀ (al : Bool) (f : SideFilter) (cs : List Hit) (h : Hit),
      ((preferred al f cs).head? = some h) →
      (h ∈ cs ∧
        trainSide al h.body.side ∈ f.preference ∧
        ∀ x ∈ cs, f.preference.idxOf (trainSide al h.body.side) ≤ f.preference.idxOf (trainSide al x.body.side))) ∧
  (∀ (al : Bool) (f : SideFilter) (cs : List Hit),
      ((preferred al f cs).head? = none) →
      (∀ x ∈ cs, trainSide al x.body.side ∉ f.preference))

/-- Let a list of entries of good form, of two or more cars, be what a completed ROLL holds. The ROLL that travels the other way
lists the same cars in reverse with the opposite toward-origin ends. The rosters built from the two are the same.
Rests on R42, R43. -/
def Obligations.BothBuildersReachOneRoster : Prop :=
  ∀ (es : List CarEntry),
    (EntriesOk es) →
    (2 ≤ es.length) →
    (buildRoster (es.reverse.map fun c => { c with face := if c.face = 0#8 then 1#8 else 0#8 }) = buildRoster es)

/-- Increasing E gives E + 1, and FFFFFFFFh stays FFFFFFFFh; raising E to an epoch gives the larger of the two as unsigned
numbers.
Rests on R29. -/
def Obligations.EpochArithmetic : Prop :=
  ∀ (e f : Epoch),
    ((increaseEpoch e).toNat = min (e.toNat + 1) (2 ^ 32 - 1) ∧
      (raiseEpoch e f).toNat = max e.toNat f.toNat)

/-- A control frame offered to a control queue of fewer than 4 frames joins its tail. With 4 frames and a BEACON among them, the
BEACON leaves, the others keep their order and the frame joins the tail. With 4 frames and no BEACON it is discarded. A
directory frame joins the tail of a directory queue of fewer than 24 frames and is discarded otherwise.
Rests on R17. -/
def Obligations.QueueLimits : Prop :=
  (∀ (q : List CtrlItem) (f : Frame),
      (q.length < 4) →
      (pushCtrl q f = q ++ [.frame f])) ∧
  (∀ (pre post : List CtrlItem) (f : Frame),
      (pre.length + post.length = 3) →
      (CtrlItem.beacon ∉ pre) →
      (pushCtrl (pre ++ .beacon :: post) f = pre ++ post ++ [.frame f])) ∧
  (∀ (q : List CtrlItem) (f : Frame),
      (4 ≤ q.length) →
      (CtrlItem.beacon ∉ q) →
      (pushCtrl q f = q)) ∧
  (∀ (q : List Frame) (f : Frame),
      (pushDir q f = if q.length < 24 then q ++ [f] else q))

/-- POWER_ON leaves every block as State.reset has it, the inputs at their present levels (their levels at reset are the model's
choice, log entry 4), and the debounce timer running exactly when the cab-active input is active. The second clause lists the
reset values: ends BYPASSED with empty queues and records and flap count 0, E, Ea and the last origination epoch 0, UNFORMED,
an empty roster, an empty directory and filter, counters 0, all handles free, the port EMPTY, WAKE with cause POWER_ON the one
pending event, no kind masked, every disposition REPORT, UNIDENTIFIED with the bypass engaged.
Rests on R1, R28, R54, R78, R99, R117, R135, R152, R174, R175, R180. -/
def Obligations.PowerOnResetsEveryBlock : Prop :=
  (∀ (s : State),
      (exec (.powerOn) s =
        .next ({ State.reset with lineA := { State.reset.lineA with contact := s.lineA.contact }, lineB := { State.reset.lineB with contact := s.lineB.contact }, consist := { State.reset.consist with cabInput := s.consist.cabInput, debounceT := if s.consist.cabInput then .running 20 else .stopped }, freeCount := s.freeCount, pending := s.pending, port := { State.reset.port with resetInput := s.port.resetInput } }))) ∧
  (      (State.reset.lineA = ⟨.bypassed, false, false, false, 0, none, 0, [], [], none, .stopped, .stopped, .stopped, .stopped, .stopped⟩ ∧
        State.reset.lineB = State.reset.lineA ∧
        State.reset.roll = ⟨0#32, .unformed, 0, .stopped, 0#32⟩ ∧
        State.reset.consist = ⟨[], 0#32, 0#32, 0, .ref, false, 0#16, false, false, .stopped⟩ ∧
        State.reset.dir = ⟨[], [], Vector.replicate 64 false, false, .stopped⟩ ∧
        State.reset.traffic = ⟨false, [], none, .stopped, 0#8, 0#8, []⟩ ∧
        State.reset.resolver = ⟨none, .stopped⟩ ∧
        State.reset.bindings = ⟨Vector.replicate 32 .free, none, .stopped⟩ ∧
        State.reset.port = ⟨.empty, [], none, none, false, false⟩ ∧
        State.reset.attn = ⟨⟨none, none, none, none, none, false, none, none, some .powerOn, [.wake]⟩, 0#9, ⟨.report, .report, .report, .report, .report, .report⟩⟩ ∧
        State.reset.ctrl = ⟨.unidentified, none, .none, .powerOn, true⟩))

/-- PORT_RESET leaves the port EMPTY, its buffer, status block, in-flight command and overrun flag cleared. With no command in
flight nothing else changes. With one in flight, the foreground query and the change request are cleared with their timers
stopped, the handle a BIND had reserved is free, and the counters, the bindings, the background query and every other block
are as they were. PORT_RESET_RELEASE ends the time in which select is ignored and changes nothing else.
Rests on R99, R114, R130, R135, R139, R161. -/
def Obligations.PortResetAndRelease : Prop :=
  (∀ (s : State),
      (s.port.inFlight = none) →
      (exec (.portReset) s =
        .next ({ s with port := ⟨.empty, [], none, none, false, true⟩ }))) ∧
  (∀ (s : State),
      (s.port.inFlight.isSome = true) →
      (∃ t, exec (.portReset) s = .next t ∧
        t.port = ⟨.empty, [], none, none, false, true⟩ ∧
        t.resolver = ⟨none, .stopped⟩ ∧
        t.traffic = { s.traffic with change := none, changeT := .stopped } ∧
        t.bindings.query = s.bindings.query ∧
        t.bindings.timer = s.bindings.timer ∧
        (∀ i ∈ slots, t.slot i = if s.firstSlot HandleSlot.isReserved = some i then .free else s.slot i) ∧
        t.lineA = s.lineA ∧
        t.lineB = s.lineB ∧
        t.roll = s.roll ∧
        t.consist = s.consist ∧
        t.dir = s.dir ∧
        t.attn = s.attn ∧
        t.ctrl = s.ctrl)) ∧
  (∀ (s : State),
      (exec (.portResetRelease) s =
        .next ({ s with port := { s.port with resetInput := false } })))

/-- At an OPEN end the closure enters SETTLING, starts the 50 ms settle timer and reports the change as a LINE event, and changes
nothing else. In any other state in which it wakes no part, it changes the level alone.
Rests on R3, R4, R6, R25. -/
def Obligations.ContactClosure : Prop :=
  (∀ (s : State) (e : LineEnd),
      ((s.lineEnd e).state = .opened) →
      ((s.lineEnd e).contact = false) →
      (exec (.contactClose e) s =
        .next ((s.setEnd e { s.lineEnd e with contact := true, state := .settling, ctrlQ := [], dirQ := [], sending := none, settleT := .running 50 }).raise (Events.raiseLine e .opened .settling)))) ∧
  (∀ (s : State) (e : LineEnd),
      ((s.lineEnd e).state ≠ .opened) →
      ((s.lineEnd e).contact = false) →
      ((s.lineEnd e).state = .bypassed → s.ctrl.part ≠ .dormant ∨ (s.lineEnd e).isolated = true) →
      (exec (.contactClose e) s =
        .next (s.setEnd e { s.lineEnd e with contact := true })))

/-- In DORMANT, with both ends BYPASSED and no command waiting for another car, a closure at an end whose isolation flag is clear
wakes the part with cause CONTACT_A or CONTACT_B, and changes that contact besides. Every command block that is taken, and so
every row of the host, acts as it would on a part w that differs from the sleeping one in having woken with cause COMMAND; a
block of a single byte is then answered with PROTOCOL_ERROR. A part that has woken is READY with the bypass released, both
release timers at 15 ms and leak timers at 2000 ms and the ends otherwise as they were but for directory frames of other
epochs, a one-car roster adopted at an increased E with one view step, the mirrors of all other cars removed, the refresh
window started, no burst and no background query, WAKE pending with its cause, and the identity, the home records, the filter,
the mask, the dispositions and the port kept.
Rests on R6, R19, R31, R96, R97, R105, R116, R149, R157, R174, R176, R179. -/
def Obligations.DormantPartWakes : Prop :=
  (∀ (s : State) (e : LineEnd),
      (s.ctrl.part = .dormant) →
      (s.lineA.state = .bypassed) →
      (s.lineB.state = .bypassed) →
      (s.Quiet) →
      ((s.lineEnd e).isolated = false) →
      ((s.lineEnd e).contact = false) →
      (∃ t, exec (.contactClose e) s = .next t ∧
        (s.setEnd e { s.lineEnd e with contact := true }).WokenBy t (Cause.contact e) ∧
        t.port = s.port)) ∧
  (∀ (s : State) (bs : List Byte),
      (s.ctrl.part = .dormant) →
      (s.lineA.state = .bypassed) →
      (s.lineB.state = .bypassed) →
      (s.Quiet) →
      (s.port.resetInput = false) →
      (s.port.state ≠ .inFlight) →
      (bs ≠ []) →
      (∃ w, s.WokenBy w .command ∧
        w.port = s.port ∧
        w.pending = s.pending ∧
        exec (.writeTransaction bs) s = exec (.writeTransaction bs) w)) ∧
  (∀ (s : State) (i : Instr) (c : Cmd) (tag : Byte) (ps : List Byte),
      (i.hostCmd = some (c, tag, ps)) →
      (s.ctrl.part = .dormant) →
      (s.lineA.state = .bypassed) →
      (s.lineB.state = .bypassed) →
      (s.Quiet) →
      (s.port.resetInput = false) →
      (s.port.state ≠ .inFlight) →
      (∃ w, s.WokenBy w .command ∧
        w.port = s.port ∧
        w.pending = s.pending ∧
        exec (i) s = exec (i) w)) ∧
  (∀ (s : State) (b : Byte),
      (s.ctrl.part = .dormant) →
      (s.lineA.state = .bypassed) →
      (s.lineB.state = .bypassed) →
      (s.Quiet) →
      (s.port.resetInput = false) →
      (s.port.state ≠ .inFlight) →
      (∃ t, exec (.writeTransaction [b]) s = .next t ∧
        s.WokenBy t .command ∧
        t.Reports 0#8 .protocolError []))

/-- A SETTLING, HUNTING or BARRED end goes to OPEN: its timers stop, its queues and neighbour record empty, its bar flag and lock
count clear, the flap count stays, a LINE event is raised and nothing else changes. A LOCKED end goes to OPEN in the same way
with its flap count raised by 1 up to 8, unless the fifth flap isolates it; the other end, if joined, is the terminal's end
out of which a ROLL is originated, and otherwise a one-car roster is adopted. In the other states the level alone changes.
Rests on R4, R5, R6, R20, R23, R31. -/
def Obligations.ContactOpening : Prop :=
  (∀ (s : State) (e : LineEnd),
      ((s.lineEnd e).state = .settling ∨ (s.lineEnd e).state = .hunting ∨ (s.lineEnd e).state = .barred) →
      ((s.lineEnd e).contact = true) →
      (exec (.contactOpen e) s =
        .next ((s.setEnd e { s.lineEnd e with contact := false, state := .opened, barFlag := false, lockCount := 0, neighbour := none, ctrlQ := [], dirQ := [], sending := none, settleT := .stopped, lossT := .stopped, beaconT := .stopped }).raise (Events.raiseLine e (s.lineEnd e).state .opened)))) ∧
  (∀ (s : State) (e : LineEnd),
      ((s.lineEnd e).state = .locked) →
      ((s.lineEnd e).contact = true) →
      (((s.lineEnd e).flap ≠ 4 ∨ s.attn.disp.get (.flap e) ≠ .isolate)) →
      (∃ t, exec (.contactOpen e) s = .next t ∧
        t.lineEnd e = { s.lineEnd e with contact := false, state := .opened, flap := min ((s.lineEnd e).flap + 1) 8, barFlag := false, lockCount := 0, neighbour := none, ctrlQ := [], dirQ := [], sending := none, settleT := .stopped, lossT := .stopped, beaconT := .stopped } ∧
        ((s.lineEnd e.other).state = .locked → s.Originated t e.other) ∧
        ((s.lineEnd e.other).state ≠ .locked → s.AdoptedAlone t) ∧
        t.attn.events.has (EventKind.line e) = true ∧
        s.KeepsSettings t ∧
        LineEndSt.SameButQueues (s.lineEnd e.other) (t.lineEnd e.other))) ∧
  (∀ (s : State) (e : LineEnd),
      ((s.lineEnd e).state = .bypassed ∨ (s.lineEnd e).state = .opened ∨ (s.lineEnd e).state = .isolated) →
      ((s.lineEnd e).contact = true) →
      (exec (.contactOpen e) s =
        .next (s.setEnd e { s.lineEnd e with contact := false })))

/-- A change of the input starts the debounce timer afresh at 20 ms when the new level differs from the debounced level and stops
it otherwise, and changes nothing else. When the timer expires, the debounced level takes the input's level; outside FORMED,
or when the own active cab end is the same, nothing else changes. In FORMED a new own active cab end is written into the own
roster entry, D and the cab conflict flag are those of the entries, the view number takes a step exactly when D changes, and a
STEER announcing the new cab end is offered to the control queue of each joined end.
Rests on R57, R58, R59, R60, R61, R62, R64. -/
def Obligations.CabInputAndDebounce : Prop :=
  (∀ (s : State) (active : Bool),
      (active ≠ s.consist.cabInput) →
      (exec (.cabInputChange active) s =
        .next ({ s with consist := { s.consist with cabInput := active, debounceT := if active = s.consist.cabLevel then .stopped else .running 20 } }))) ∧
  (∀ (s : State),
      (s.consist.debounceT.isRunning = true) →
      (s.roll.state ≠ .formed ∨ ({ s with consist := { s.consist with cabLevel := s.consist.cabInput, debounceT := .stopped } } : State).ownCab = s.ownCab) →
      (exec (.debounceTimerExpiry) s =
        .next (({ s with consist := { s.consist with cabLevel := s.consist.cabInput, debounceT := .stopped } } : State)))) ∧
  (∀ (s : State),
      (s.consist.debounceT.isRunning = true) →
      (s.roll.state = .formed) →
      (({ s with consist := { s.consist with cabLevel := s.consist.cabInput, debounceT := .stopped } } : State).ownCab ≠ s.ownCab) →
      (∃ t, exec (.debounceTimerExpiry) s = .next t ∧
        t.consist.roster = (s.consist.setCab s.consist.ownIdx ({ s with consist := { s.consist with cabLevel := s.consist.cabInput, debounceT := .stopped } } : State).ownCab).roster ∧
        t.consist.dir = directionOf (s.consist.setCab s.consist.ownIdx ({ s with consist := { s.consist with cabLevel := s.consist.cabInput, debounceT := .stopped } } : State).ownCab).roster ∧
        t.consist.conflict = conflictOf (s.consist.setCab s.consist.ownIdx ({ s with consist := { s.consist with cabLevel := s.consist.cabInput, debounceT := .stopped } } : State).ownCab).roster ∧
        t.consist.view = (if directionOf (s.consist.setCab s.consist.ownIdx ({ s with consist := { s.consist with cabLevel := s.consist.cabInput, debounceT := .stopped } } : State).ownCab).roster = s.consist.dir then s.consist.view else s.consist.view + 1#16) ∧
        t.consist.cabLevel = s.consist.cabInput ∧
        t.consist.debounceT = .stopped ∧
        t.consist.ea = s.consist.ea ∧
        t.consist.digest = s.consist.digest ∧
        t.consist.ownIdx = s.consist.ownIdx ∧
        t.roll = s.roll ∧
        s.KeepsSettings t ∧
        t.lineA.ctrlQ = (if s.lineA.state = .locked then pushCtrl s.lineA.ctrlQ ⟨⟨s.consist.ea, s.ownId, 0#8, byteOf s.consist.ownIdx⟩, .steer ({ s with consist := { s.consist with cabLevel := s.consist.cabInput, debounceT := .stopped } } : State).ownCab.code⟩ else s.lineA.ctrlQ) ∧
        t.lineB.ctrlQ = (if s.lineB.state = .locked then pushCtrl s.lineB.ctrlQ ⟨⟨s.consist.ea, s.ownId, 0#8, byteOf s.consist.ownIdx⟩, .steer ({ s with consist := { s.consist with cabLevel := s.consist.cabInput, debounceT := .stopped } } : State).ownCab.code⟩ else s.lineB.ctrlQ) ∧
        t.port = s.port))

/-- The release timer's expiry on a BYPASSED end takes it to ISOLATED if its isolation flag is set, else to SETTLING with the
settle timer started if its contact is closed, else to OPEN. The settle timer's expiry takes a SETTLING end with an empty
control queue to HUNTING, its first BEACON queued and the beacon timer started. The beacon timer's expiry on an end that
frames queues a BEACON unless one waits or the queue holds 4 frames, and restarts the timer. The leak timer's expiry lowers
the flap count by 1, not below 0, and restarts the timer. Each state change raises its LINE event; nothing else changes.
Rests on R3, R4, R12, R16, R23. -/
def Obligations.EndTimersExpire : Prop :=
  (∀ (s : State) (e : LineEnd),
      ((s.lineEnd e).state = .bypassed) →
      ((s.lineEnd e).releaseT.isRunning = true) →
      ((s.lineEnd e).isolated = true) →
      (exec (.releaseTimerExpiry e) s =
        .next ((s.setEnd e { s.lineEnd e with releaseT := .stopped, state := .isolated, barFlag := false, lockCount := 0, neighbour := none, ctrlQ := [], dirQ := [], sending := none, settleT := .stopped, lossT := .stopped, beaconT := .stopped }).raise (Events.raiseLine e .bypassed .isolated)))) ∧
  (∀ (s : State) (e : LineEnd),
      ((s.lineEnd e).state = .bypassed) →
      ((s.lineEnd e).releaseT.isRunning = true) →
      ((s.lineEnd e).isolated = false) →
      ((s.lineEnd e).contact = true) →
      (exec (.releaseTimerExpiry e) s =
        .next ((s.setEnd e { s.lineEnd e with releaseT := .stopped, state := .settling, ctrlQ := [], dirQ := [], sending := none, settleT := .running 50 }).raise (Events.raiseLine e .bypassed .settling)))) ∧
  (∀ (s : State) (e : LineEnd),
      ((s.lineEnd e).state = .bypassed) →
      ((s.lineEnd e).releaseT.isRunning = true) →
      ((s.lineEnd e).isolated = false) →
      ((s.lineEnd e).contact = false) →
      (exec (.releaseTimerExpiry e) s =
        .next ((s.setEnd e { s.lineEnd e with releaseT := .stopped, state := .opened, barFlag := false, lockCount := 0, neighbour := none, ctrlQ := [], dirQ := [], sending := none, settleT := .stopped, lossT := .stopped, beaconT := .stopped }).raise (Events.raiseLine e .bypassed .opened)))) ∧
  (∀ (s : State) (e : LineEnd),
      ((s.lineEnd e).state = .settling) →
      ((s.lineEnd e).settleT.isRunning = true) →
      ((s.lineEnd e).ctrlQ = []) →
      (exec (.settleTimerExpiry e) s =
        .next ((s.setEnd e { s.lineEnd e with state := .hunting, lockCount := 0, settleT := .stopped, beaconT := .running 10, ctrlQ := [.beacon] }).raise (Events.raiseLine e .settling .hunting)))) ∧
  (∀ (s : State) (e : LineEnd),
      ((s.lineEnd e).state.framing = true) →
      ((s.lineEnd e).beaconT.isRunning = true) →
      (exec (.beaconTimerExpiry e) s =
        .next (s.setEnd e { s.lineEnd e with beaconT := .running 10, ctrlQ := if CtrlItem.beacon ∈ (s.lineEnd e).ctrlQ ∨ 4 ≤ (s.lineEnd e).ctrlQ.length then (s.lineEnd e).ctrlQ else (s.lineEnd e).ctrlQ ++ [.beacon] }))) ∧
  (∀ (s : State) (e : LineEnd),
      ((s.lineEnd e).leakT.isRunning = true) →
      (exec (.leakTimerExpiry e) s =
        .next (s.setEnd e { s.lineEnd e with flap := (s.lineEnd e).flap - 1, leakT := .running 2000 })))

/-- A BARRED end goes to HUNTING with its lock count 0, its directory queue emptied and its control queue trimmed to BEACONs; its
bar flag, neighbour record, beacon timer and flap count are kept and nothing else changes. A LOCKED end does the same with its
flap count raised by 1 up to 8, and the roll call goes on out of the other end, or a one-car roster is adopted. When the count
goes from 4 to 5 under the disposition ISOLATE, the end ends in ISOLATED with its flag set and the flap fault is pending.
Rests on R6, R10, R20, R23, R31, R171, R172. -/
def Obligations.LossOfTheLink : Prop :=
  (∀ (s : State) (e : LineEnd),
      ((s.lineEnd e).state = .barred) →
      ((s.lineEnd e).lossT.isRunning = true) →
      (exec (.lossTimerExpiry e) s =
        .next ((s.setEnd e { s.lineEnd e with state := .hunting, lockCount := 0, lossT := .stopped, dirQ := [], ctrlQ := (s.lineEnd e).ctrlQ.filter (· = .beacon) }).raise (Events.raiseLine e .barred .hunting)))) ∧
  (∀ (s : State) (e : LineEnd),
      ((s.lineEnd e).state = .locked) →
      ((s.lineEnd e).lossT.isRunning = true) →
      (((s.lineEnd e).flap ≠ 4 ∨ s.attn.disp.get (.flap e) ≠ .isolate)) →
      (∃ t, exec (.lossTimerExpiry e) s = .next t ∧
        t.lineEnd e = { s.lineEnd e with state := .hunting, lockCount := 0, lossT := .stopped, dirQ := [], ctrlQ := (s.lineEnd e).ctrlQ.filter (· = .beacon), flap := min ((s.lineEnd e).flap + 1) 8 } ∧
        ((s.lineEnd e.other).state = .locked → s.Originated t e.other) ∧
        ((s.lineEnd e.other).state ≠ .locked → s.AdoptedAlone t) ∧
        t.attn.events.has (EventKind.line e) = true ∧
        s.KeepsSettings t ∧
        LineEndSt.SameButQueues (s.lineEnd e.other) (t.lineEnd e.other))) ∧
  (∀ (s : State) (e : LineEnd),
      ((s.lineEnd e).state = .locked) →
      ((s.lineEnd e).lossT.isRunning = true) →
      ((s.lineEnd e).flap = 4) →
      (s.attn.disp.get (.flap e) = .isolate) →
      (∃ t, exec (.lossTimerExpiry e) s = .next t ∧
        (t.lineEnd e).state = .isolated ∧
        (t.lineEnd e).isolated = true ∧
        (t.lineEnd e).flap = 5 ∧
        (t.lineEnd e).neighbour = none ∧
        (t.attn.events.fault.map fun f => f.getLsbD (FaultKind.flap e).bit) = some true ∧
        ((s.lineEnd e.other).state = .locked → s.Originated t e.other) ∧
        ((s.lineEnd e.other).state ≠ .locked → s.AdoptedAlone t) ∧
        s.KeepsSettings t))

/-- In ROLLING below the third attempt, the attempt count rises by 1; a part with one joined end originates a ROLL at an increased
E and restarts the timer at 250 ms, a part with two restarts it and sends nothing. At the third the part enters DEGRADED with
the attempt count 3 and the timer at 2000 ms, CONSIST_UNSETTLED carries DEGRADED, ROLL_FAILED is reported unless its
disposition is SILENT, and roster, ends and settings are kept. In DEGRADED a part with one joined end originates and a part
with two sends nothing, with the timer at 2000 ms.
Rests on R32, R38, R50, R51, R52. -/
def Obligations.RollTimerExpires : Prop :=
  (∀ (s : State) (e : LineEnd),
      (s.roll.state = .rolling) →
      (s.roll.timer.isRunning = true) →
      (s.roll.attempts < 2) →
      ((s.lineEnd e).state = .locked) →
      ((s.lineEnd e.other).state ≠ .locked) →
      (exec (.rollTimerExpiry) s =
        .next (({ s with roll := { s.roll with attempts := s.roll.attempts + 1, epoch := increaseEpoch s.roll.epoch, lastOrig := increaseEpoch s.roll.epoch, timer := .running 250 } } : State).queuedCtrl e ⟨⟨increaseEpoch s.roll.epoch, s.ownId, 0#8, 0#8⟩, .roll [⟨s.ownId, e.other.code, s.ownCab.code⟩]⟩))) ∧
  (∀ (s : State),
      (s.roll.state = .rolling) →
      (s.roll.timer.isRunning = true) →
      (s.roll.attempts < 2) →
      (s.lineA.state = .locked) →
      (s.lineB.state = .locked) →
      (exec (.rollTimerExpiry) s =
        .next ({ s with roll := { s.roll with attempts := s.roll.attempts + 1, timer := .running 250 } }))) ∧
  (∀ (s : State),
      (s.roll.state = .rolling) →
      (s.roll.timer.isRunning = true) →
      (s.roll.attempts = 2) →
      (∃ t, exec (.rollTimerExpiry) s = .next t ∧
        t.roll = { s.roll with state := .degraded, attempts := 3, timer := .running 2000 } ∧
        t.attn.events.unsettled = some .degraded ∧
        (s.attn.disp.rollFailed ≠ .silent → (t.attn.events.fault.map fun f => f.getLsbD 2) = some true) ∧
        (s.attn.disp.rollFailed = .silent → t.attn.events.fault = s.attn.events.fault) ∧
        t.consist = s.consist ∧
        t.lineA = s.lineA ∧
        t.lineB = s.lineB ∧
        s.KeepsSettings t)) ∧
  (∀ (s : State) (e : LineEnd),
      (s.roll.state = .degraded) →
      (s.roll.timer.isRunning = true) →
      ((s.lineEnd e).state = .locked) →
      ((s.lineEnd e.other).state ≠ .locked) →
      (exec (.rollTimerExpiry) s =
        .next (({ s with roll := { s.roll with epoch := increaseEpoch s.roll.epoch, lastOrig := increaseEpoch s.roll.epoch, timer := .running 2000 } } : State).queuedCtrl e ⟨⟨increaseEpoch s.roll.epoch, s.ownId, 0#8, 0#8⟩, .roll [⟨s.ownId, e.other.code, s.ownCab.code⟩]⟩))) ∧
  (∀ (s : State),
      (s.roll.state = .degraded) →
      (s.roll.timer.isRunning = true) →
      (s.lineA.state = .locked) →
      (s.lineB.state = .locked) →
      (exec (.rollTimerExpiry) s =
        .next ({ s with roll := { s.roll with timer := .running 2000 } })))

/-- When the refresh window timer runs and expires, with no key twice among the mirrors, the mirrors held afterwards are the
CURRENT ones that were held, with the same owners and fields, in some use order; the timer is stopped, and the roster, the
roll call, the home records and the host's settings are kept.
Rests on R77, R97. -/
def Obligations.RefreshWindowEnds : Prop :=
  ∀ (s : State),
    (s.dir.refreshT.isRunning = true) →
    ((s.dir.mirrors.map fun m => (m.owner, m.body.tag, m.body.side)).Nodup) →
    (∃ t, exec (.refreshWindowExpiry) s = .next t ∧
      (t.dir.mirrors.map fun m => (m.owner, m.body, m.fresh)).Perm ((s.dir.mirrors.filter (·.fresh = .current)).map fun m => (m.owner, m.body, m.fresh)) ∧
      t.dir.refreshT = .stopped ∧
      t.roll = s.roll ∧
      t.consist = s.consist ∧
      t.port = s.port ∧
      s.KeepsSettings t)

/-- At attempt 1 the same CHANGE_REQ, with its id, is offered toward the owner, the attempt becomes 2 and the timer restarts at 60
ms; where the forwarding end is not joined the offer is discarded and the rest is done. At attempt 2 the request is cleared,
the timer stopped, and the REQUEST_STATE completes with NO_ANSWER and no data. Nothing else changes.
Rests on R16, R103, R112, R158. -/
def Obligations.ChangeRequestTimerExpires : Prop :=
  (∀ (s : State) (c : ChangeRequest) (out : LineEnd),
      (s.traffic.change = some c) →
      (s.traffic.changeT.isRunning = true) →
      (c.attempt = 1) →
      (s.Reaches c.index out) →
      (exec (.changeRequestTimerExpiry) s =
        .next (({ s with traffic := { s.traffic with change := some { c with attempt := 2 }, changeT := .running 60 } } : State).queuedDir out ⟨⟨s.consist.ea, s.ownId, byteOf c.index, byteOf s.consist.ownIdx⟩, (.changeReq c.id c.tag c.side.code c.desired.code)⟩))) ∧
  (∀ (s : State) (c : ChangeRequest),
      (s.traffic.change = some c) →
      (s.traffic.changeT.isRunning = true) →
      (c.attempt = 1) →
      (∀ out ∈ s.consist.forwardEnd c.index, (s.lineEnd out).state ≠ .locked) →
      (exec (.changeRequestTimerExpiry) s =
        .next ({ s with traffic := { s.traffic with change := some { c with attempt := 2 }, changeT := .running 60 } }))) ∧
  (∀ (s : State) (c : ChangeRequest) (f : InFlight),
      (s.traffic.change = some c) →
      (s.traffic.changeT.isRunning = true) →
      (c.attempt = 2) →
      (s.port.inFlight = some f) →
      (exec (.changeRequestTimerExpiry) s =
        .next (({ s with traffic := { s.traffic with change := none, changeT := .stopped } } : State).endedWith f.tag .noAnswer [] false)))

/-- At attempt 1 the QUERY is offered again under its id toward the target, the attempt becomes 2 and the timer restarts at 60 ms.
At attempt 2 the query is cleared and a LOOKUP completes with NO_ANSWER and no data; a BIND completes with SUCCESS, and its
handle holds a binding UNRESOLVED with reason NO_ANSWER, its changed mark clear. Nothing else changes in the first two cases;
in the last the other handles and the directory are as they were.
Rests on R103, R107, R127, R134, R136, R139. -/
def Obligations.QueryTimerExpires : Prop :=
  (∀ (s : State) (q : ForegroundQuery) (out : LineEnd),
      (s.resolver.query = some q) →
      (s.resolver.timer.isRunning = true) →
      (q.attempt = 1) →
      (s.Reaches q.index out) →
      (exec (.queryTimerExpiry) s =
        .next (({ s with resolver := { query := some { q with attempt := 2 }, timer := .running 60 } } : State).queuedDir out ⟨⟨s.consist.ea, s.ownId, byteOf q.index, byteOf s.consist.ownIdx⟩, (.query q.id q.tag)⟩))) ∧
  (∀ (s : State) (q : ForegroundQuery) (f : InFlight),
      (s.resolver.query = some q) →
      (s.resolver.timer.isRunning = true) →
      (q.attempt = 2) →
      (s.port.inFlight = some f) →
      (s.firstSlot HandleSlot.isReserved = none) →
      (exec (.queryTimerExpiry) s =
        .next (({ s with resolver := { query := none, timer := .stopped } } : State).endedWith f.tag .noAnswer [] s.roll.state.unsettled))) ∧
  (∀ (s : State) (q : ForegroundQuery) (f : InFlight) (i : Nat) (qu : Question),
      (s.resolver.query = some q) →
      (s.resolver.timer.isRunning = true) →
      (q.attempt = 2) →
      (s.port.inFlight = some f) →
      (s.firstSlot HandleSlot.isReserved = some i) →
      (s.slot i = .reserved qu) →
      (∃ t, exec (.queryTimerExpiry) s = .next t ∧
        t.slot i = .held ⟨qu, .unresolved .noAnswer, s.roll.state.unsettled, false⟩ ∧
        (∀ j ∈ slots, j ≠ i → t.slot j = s.slot j) ∧
        t.Reports f.tag .success (t.bindingData i ⟨qu, .unresolved .noAnswer, s.roll.state.unsettled, false⟩) ∧
        t.resolver = ⟨none, .stopped⟩ ∧
        t.dir = s.dir ∧
        t.roll = s.roll ∧
        t.consist = s.consist ∧
        t.attn = s.attn ∧
        t.lineA = s.lineA ∧
        t.lineB = s.lineB))

/-- At attempt 1 the QUERY is offered again under its id, with the tag of the binding served, the attempt becomes 2 and the timer
restarts at 60 ms, and nothing else changes. At attempt 2 the PENDING binding served becomes UNRESOLVED with reason NO_ANSWER,
its changed mark is set and BINDING_CHANGED is pending; the other handles, the directory and the consist are as they were, and
if no other binding is PENDING no background query is outstanding.
Rests on R103, R107, R147, R148, R150. -/
def Obligations.BackgroundQueryTimerExpires : Prop :=
  (∀ (s : State) (q : BackgroundQuery) (b : Binding) (out : LineEnd),
      (s.bindings.query = some q) →
      (s.bindings.timer.isRunning = true) →
      (q.attempt = 1) →
      (s.binding q.slot = some b) →
      (s.Reaches q.index out) →
      (exec (.backgroundQueryTimerExpiry) s =
        .next (({ s with bindings := { s.bindings with query := some { q with attempt := 2 }, timer := .running 60 } } : State).queuedDir out ⟨⟨s.consist.ea, s.ownId, byteOf q.index, byteOf s.consist.ownIdx⟩, (.query q.id b.question.tag)⟩))) ∧
  (∀ (s : State) (q : BackgroundQuery) (b : Binding),
      (s.bindings.query = some q) →
      (s.bindings.timer.isRunning = true) →
      (q.attempt = 2) →
      (s.binding q.slot = some b) →
      (b.st = .pending) →
      (∃ t, exec (.backgroundQueryTimerExpiry) s = .next t ∧
        t.slot q.slot = .held { b with st := .unresolved .noAnswer, stale := s.roll.state.unsettled, changed := true } ∧
        (∀ j ∈ slots, j ≠ q.slot → t.slot j = s.slot j) ∧
        t.attn.events.bindingChanged = true ∧
        t.dir = s.dir ∧
        t.roll = s.roll ∧
        t.consist = s.consist ∧
        t.port = s.port ∧
        ((∀ j ∈ slots, j ≠ q.slot → (s.slot j).isPending = false) → t.bindings.query = none ∧ t.lineA = s.lineA ∧ t.lineB = s.lineB)))

/-- On an end that frames, the head of the control queue is taken, a BEACON with its contents at this moment (E, identity, own
roster index, the end's code, the bar flag in bit 0 and the consist state in bits 2 and 1, Ea and digest); with an empty
control queue the head of the directory queue; with both empty nothing is sent. Nothing else changes, unless a directory frame
leaves a joined end while the republish burst runs: the burst then goes on from its remainder, offering the PUBLISH of one
home record after another, as the record stands, to every joined end whose queue has place for it, for as long as every joined
end's directory queue holds 8 or fewer frames, and it stops when its remainder is empty. On an end that does not frame nothing
happens. That the frame begun stands in a field of its own until the next is taken is the model's choice (log entry 5); the
bits that the end puts on its line from then on are those of that frame and idle fill behind it, one bits alone when there is
nothing to send, and none on an end that may not send.
Rests on R7, R13, R17, R18, R103, R105. -/
def Obligations.TransmissionStarts : Prop :=
  (∀ (s : State) (e : LineEnd) (cs : List CtrlItem),
      ((s.lineEnd e).state.framing = true) →
      ((s.lineEnd e).ctrlQ = .beacon :: cs) →
      (exec (.frameTransmitStart e) s =
        .next (s.setEnd e { s.lineEnd e with ctrlQ := cs, sending := some ⟨⟨s.roll.epoch, s.ownId, 0#8, byteOf s.consist.ownIdx⟩, .beacon (if e = .a then 0#8 else 1#8) (byteOf ((if (s.lineEnd e).barFlag then 1 else 0) + 2 * (match s.roll.state with | .unformed => 0 | .formed => 1 | .rolling => 2 | .degraded => 3))) s.consist.ea s.consist.digest⟩ }))) ∧
  (∀ (s : State) (e : LineEnd) (f : Frame) (cs : List CtrlItem),
      ((s.lineEnd e).state.framing = true) →
      ((s.lineEnd e).ctrlQ = .frame f :: cs) →
      (exec (.frameTransmitStart e) s =
        .next (s.setEnd e { s.lineEnd e with ctrlQ := cs, sending := some f }))) ∧
  (∀ (s : State) (e : LineEnd) (f : Frame) (fs : List Frame),
      ((s.lineEnd e).state.framing = true) →
      ((s.lineEnd e).ctrlQ = []) →
      ((s.lineEnd e).dirQ = f :: fs) →
      (s.traffic.burst = false) →
      (exec (.frameTransmitStart e) s =
        .next (s.setEnd e { s.lineEnd e with dirQ := fs, sending := some f }))) ∧
  (∀ (s : State) (e : LineEnd),
      ((s.lineEnd e).state.framing = true) →
      ((s.lineEnd e).ctrlQ = []) →
      ((s.lineEnd e).dirQ = []) →
      (exec (.frameTransmitStart e) s =
        .next (s.setEnd e { s.lineEnd e with sending := none }))) ∧
  (∀ (s : State) (e : LineEnd) (f : Frame) (fs : List Frame),
      ((s.lineEnd e).state = .locked) →
      ((s.lineEnd e).ctrlQ = []) →
      ((s.lineEnd e).dirQ = f :: fs) →
      (s.traffic.burst = true) →
      (∃ t, exec (.frameTransmitStart e) s = .next t ∧
        ((s.setEnd e { s.lineEnd e with dirQ := fs, sending := some f })).BurstRan t s.traffic.remainder ∧
        t = { (s.setEnd e { s.lineEnd e with dirQ := fs, sending := some f }) with lineA := { ((s.setEnd e { s.lineEnd e with dirQ := fs, sending := some f })).lineA with dirQ := t.lineA.dirQ }, lineB := { ((s.setEnd e { s.lineEnd e with dirQ := fs, sending := some f })).lineB with dirQ := t.lineB.dirQ }, traffic := { s.traffic with remainder := t.traffic.remainder, burst := t.traffic.burst } })) ∧
  (∀ (s : State) (e : LineEnd) (f : Frame) (fs : List Frame),
      ((s.lineEnd e).state = .hunting ∨ (s.lineEnd e).state = .barred) →
      ((s.lineEnd e).ctrlQ = []) →
      ((s.lineEnd e).dirQ = f :: fs) →
      (exec (.frameTransmitStart e) s =
        .next ((s.setEnd e { s.lineEnd e with dirQ := fs, sending := some f })))) ∧
  (∀ (s : State) (e : LineEnd),
      ((s.lineEnd e).state.framing = false) →
      (exec (.frameTransmitStart e) s =
        .next (s))) ∧
  (∀ (s : State) (e : LineEnd) (f : Frame) (n : Nat),
      ((s.lineEnd e).state.framing = true) →
      ((s.lineEnd e).sending = some f) →
      (s.lineBits e n = (f.bits ++ List.replicate n true).take n)) ∧
  (∀ (s : State) (e : LineEnd) (n : Nat),
      ((s.lineEnd e).state.framing = true) →
      ((s.lineEnd e).sending = none) →
      (s.lineBits e n = List.replicate n true)) ∧
  (∀ (s : State) (e : LineEnd) (n : Nat),
      ((s.lineEnd e).state.framing = false) →
      (s.lineBits e n = []))

/-- A valid frame of any kind but BEACON received in HUNTING adds 1 to the lock count and does nothing else, below the third; in
BARRED it restarts the loss timer and does nothing else; in the four states without a receiver it is lost. The third valid
frame in a row takes a HUNTING end with its bar flag set to BARRED, and one with it clear to LOCKED, a roll-call trigger, with
the loss timer started and the lock count 0. An invalid frame, or a frame command whose fields lie outside the ranges of R8
(that such a command is an invalid frame is the model's reading, log entry 6), sets the lock count of a HUNTING end to 0 and
changes nothing else.
Rests on R8, R9, R10, R11, Receiving. -/
def Obligations.FramesOutsideLocked : Prop :=
  (∀ (s : State) (e : LineEnd) (f : Frame),
      (f.valid = true) →
      (f.payload.kind ≠ 1#8) →
      ((s.lineEnd e).state = .hunting) →
      ((s.lineEnd e).lockCount < 2) →
      (exec (f.toInstr e) s =
        .next (s.setEnd e { s.lineEnd e with lockCount := (s.lineEnd e).lockCount + 1 }))) ∧
  (∀ (s : State) (e : LineEnd) (f : Frame),
      (f.valid = true) →
      (f.payload.kind ≠ 1#8) →
      ((s.lineEnd e).state = .hunting) →
      ((s.lineEnd e).lockCount = 2) →
      ((s.lineEnd e).barFlag = true) →
      (exec (f.toInstr e) s =
        .next ((s.setEnd e { s.lineEnd e with state := .barred, lockCount := 0, lossT := .running 35 }).raise (Events.raiseLine e .hunting .barred)))) ∧
  (∀ (s : State) (e : LineEnd) (f : Frame),
      (f.valid = true) →
      (f.payload.kind ≠ 1#8) →
      ((s.lineEnd e).state = .hunting) →
      ((s.lineEnd e).lockCount = 2) →
      ((s.lineEnd e).barFlag = false) →
      (∃ t, exec (f.toInstr e) s = .next t ∧
        (t.lineEnd e).state = .locked ∧
        (t.lineEnd e).lockCount = 0 ∧
        (t.lineEnd e).lossT = .running 35 ∧
        t.attn.events.has (EventKind.line e) = true ∧
        ((s.lineEnd e.other).state = .locked → s.Called t) ∧
        ((s.lineEnd e.other).state ≠ .locked → s.Originated t e) ∧
        s.KeepsSettings t)) ∧
  (∀ (s : State) (e : LineEnd) (f : Frame),
      (f.valid = true) →
      (f.payload.kind ≠ 1#8) →
      ((s.lineEnd e).state = .barred) →
      (exec (f.toInstr e) s =
        .next (s.heardOn e))) ∧
  (∀ (s : State) (e : LineEnd) (f : Frame),
      (f.valid = true) →
      ((s.lineEnd e).state.framing = false) →
      (exec (f.toInstr e) s =
        .next (s))) ∧
  (∀ (s : State) (e : LineEnd),
      (exec (.invalidFrame e) s =
        .next (if (s.lineEnd e).state = .hunting then s.setEnd e { s.lineEnd e with lockCount := 0 } else s))) ∧
  (∀ (s : State) (e : LineEnd) (f : Frame),
      (f.valid = false) →
      (exec (f.toInstr e) s =
        .next (if (s.lineEnd e).state = .hunting then s.setEnd e { s.lineEnd e with lockCount := 0 } else s)))

/-- In HUNTING a BEACON replaces the neighbour record, sets or clears the bar flag exactly when its barred flag differs from the
record's, and counts toward the lock, which the third completes: to BARRED with the bar flag set, and to LOCKED, a trigger,
with it clear. In LOCKED and BARRED it restarts the loss timer and updates the record and the bar flag; a LOCKED end that it
newly bars goes to BARRED with its queues trimmed, a BARRED end that it newly unbars goes to LOCKED, and each is a trigger. A
BEACON that newly bars an end is not compared for a mismatch (log entry 16). On an end it leaves in LOCKED, in FORMED, an Ea
above the part's own, or an equal Ea with another digest, is a trigger; otherwise nothing more happens.
Rests on R9, R10, R11, R14, R15, R20, R30, R33. -/
def Obligations.BeaconReceived : Prop :=
  (∀ (s : State) (e : LineEnd) (h : Header) (se fl : Byte) (ea dg : Word),
      (se ≤ 1#8) →
      ((s.lineEnd e).state = .hunting) →
      ((s.lineEnd e).lockCount < 2) →
      (exec (.beacon e h se fl ea dg) s =
        .next (s.setEnd e { s.lineEnd e with neighbour := some ⟨h.src, if se = 0#8 then .a else .b, ea, dg, if fl.toNat / 2 % 4 = 0 then .unformed else if fl.toNat / 2 % 4 = 1 then .formed else if fl.toNat / 2 % 4 = 2 then .rolling else .degraded, decide (fl.toNat % 2 = 1)⟩, barFlag := if decide (fl.toNat % 2 = 1) = (s.lineEnd e).neighbourBarred then (s.lineEnd e).barFlag else decide (fl.toNat % 2 = 1), lockCount := (s.lineEnd e).lockCount + 1 }))) ∧
  (∀ (s : State) (e : LineEnd) (h : Header) (se fl : Byte) (ea dg : Word),
      (se ≤ 1#8) →
      ((s.lineEnd e).state = .hunting) →
      ((s.lineEnd e).lockCount = 2) →
      ((if decide (fl.toNat % 2 = 1) = (s.lineEnd e).neighbourBarred then (s.lineEnd e).barFlag else decide (fl.toNat % 2 = 1)) = true) →
      (exec (.beacon e h se fl ea dg) s =
        .next ((s.setEnd e { s.lineEnd e with neighbour := some ⟨h.src, if se = 0#8 then .a else .b, ea, dg, if fl.toNat / 2 % 4 = 0 then .unformed else if fl.toNat / 2 % 4 = 1 then .formed else if fl.toNat / 2 % 4 = 2 then .rolling else .degraded, decide (fl.toNat % 2 = 1)⟩, barFlag := true, lockCount := 0, state := .barred, lossT := .running 35 }).raise (Events.raiseLine e .hunting .barred)))) ∧
  (∀ (s : State) (e : LineEnd) (h : Header) (se fl : Byte) (ea dg : Word),
      (se ≤ 1#8) →
      ((s.lineEnd e).state = .hunting) →
      ((s.lineEnd e).lockCount = 2) →
      ((if decide (fl.toNat % 2 = 1) = (s.lineEnd e).neighbourBarred then (s.lineEnd e).barFlag else decide (fl.toNat % 2 = 1)) = false) →
      (∃ t, exec (.beacon e h se fl ea dg) s = .next t ∧
        (t.lineEnd e).state = .locked ∧
        (t.lineEnd e).barFlag = false ∧
        (t.lineEnd e).neighbour = some ⟨h.src, if se = 0#8 then .a else .b, ea, dg, if fl.toNat / 2 % 4 = 0 then .unformed else if fl.toNat / 2 % 4 = 1 then .formed else if fl.toNat / 2 % 4 = 2 then .rolling else .degraded, decide (fl.toNat % 2 = 1)⟩ ∧
        (t.lineEnd e).lockCount = 0 ∧
        (t.lineEnd e).lossT = .running 35 ∧
        ((s.lineEnd e.other).state = .locked → s.Called t) ∧
        ((s.lineEnd e.other).state ≠ .locked → s.Originated t e) ∧
        s.KeepsSettings t)) ∧
  (∀ (s : State) (e : LineEnd) (h : Header) (se fl : Byte) (ea dg : Word),
      (se ≤ 1#8) →
      ((s.lineEnd e).state = .locked) →
      ((decide (fl.toNat % 2 = 1) = true → (s.lineEnd e).neighbourBarred = true)) →
      (¬(s.roll.state = .formed ∧ (s.consist.ea < ea ∨ (ea = s.consist.ea ∧ dg ≠ s.consist.digest)))) →
      (exec (.beacon e h se fl ea dg) s =
        .next (s.setEnd e { s.lineEnd e with lossT := .running 35, neighbour := some ⟨h.src, if se = 0#8 then .a else .b, ea, dg, if fl.toNat / 2 % 4 = 0 then .unformed else if fl.toNat / 2 % 4 = 1 then .formed else if fl.toNat / 2 % 4 = 2 then .rolling else .degraded, decide (fl.toNat % 2 = 1)⟩, barFlag := if decide (fl.toNat % 2 = 1) = (s.lineEnd e).neighbourBarred then (s.lineEnd e).barFlag else false }))) ∧
  (∀ (s : State) (e : LineEnd) (h : Header) (se fl : Byte) (ea dg : Word),
      (se ≤ 1#8) →
      ((s.lineEnd e).state = .locked) →
      (decide (fl.toNat % 2 = 1) = true) →
      ((s.lineEnd e).neighbourBarred = false) →
      (∃ t, exec (.beacon e h se fl ea dg) s = .next t ∧
        t.lineEnd e = { s.lineEnd e with state := .barred, barFlag := true, lossT := .running 35, neighbour := some ⟨h.src, if se = 0#8 then .a else .b, ea, dg, if fl.toNat / 2 % 4 = 0 then .unformed else if fl.toNat / 2 % 4 = 1 then .formed else if fl.toNat / 2 % 4 = 2 then .rolling else .degraded, decide (fl.toNat % 2 = 1)⟩, dirQ := [], ctrlQ := (s.lineEnd e).ctrlQ.filter (· = .beacon) } ∧
        ((s.lineEnd e.other).state = .locked → s.Originated t e.other) ∧
        ((s.lineEnd e.other).state ≠ .locked → s.AdoptedAlone t) ∧
        t.attn.events.has (EventKind.line e) = true ∧
        s.KeepsSettings t)) ∧
  (∀ (s : State) (e : LineEnd) (h : Header) (se fl : Byte) (ea dg : Word),
      (se ≤ 1#8) →
      ((s.lineEnd e).state = .locked) →
      ((decide (fl.toNat % 2 = 1) = true → (s.lineEnd e).neighbourBarred = true)) →
      (s.roll.state = .formed ∧ (s.consist.ea < ea ∨ (ea = s.consist.ea ∧ dg ≠ s.consist.digest))) →
      (∃ t, exec (.beacon e h se fl ea dg) s = .next t ∧
        (t.lineEnd e).state = .locked ∧
        (t.lineEnd e).neighbour = some ⟨h.src, if se = 0#8 then .a else .b, ea, dg, if fl.toNat / 2 % 4 = 0 then .unformed else if fl.toNat / 2 % 4 = 1 then .formed else if fl.toNat / 2 % 4 = 2 then .rolling else .degraded, decide (fl.toNat % 2 = 1)⟩ ∧
        (t.lineEnd e).lossT = .running 35 ∧
        ((s.lineEnd e.other).state = .locked → s.Called t) ∧
        ((s.lineEnd e.other).state ≠ .locked → s.Originated t e) ∧
        t.attn.events.unsettled = some .rolling ∧
        s.KeepsSettings t)) ∧
  (∀ (s : State) (e : LineEnd) (h : Header) (se fl : Byte) (ea dg : Word),
      (se ≤ 1#8) →
      ((s.lineEnd e).state = .barred) →
      ((decide (fl.toNat % 2 = 1) = false → (s.lineEnd e).neighbourBarred = false)) →
      (exec (.beacon e h se fl ea dg) s =
        .next (s.setEnd e { s.lineEnd e with lossT := .running 35, neighbour := some ⟨h.src, if se = 0#8 then .a else .b, ea, dg, if fl.toNat / 2 % 4 = 0 then .unformed else if fl.toNat / 2 % 4 = 1 then .formed else if fl.toNat / 2 % 4 = 2 then .rolling else .degraded, decide (fl.toNat % 2 = 1)⟩, barFlag := if decide (fl.toNat % 2 = 1) = (s.lineEnd e).neighbourBarred then (s.lineEnd e).barFlag else true }))) ∧
  (∀ (s : State) (e : LineEnd) (h : Header) (se fl : Byte) (ea dg : Word),
      (se ≤ 1#8) →
      ((s.lineEnd e).state = .barred) →
      (decide (fl.toNat % 2 = 1) = false) →
      ((s.lineEnd e).neighbourBarred = true) →
      (∃ t, exec (.beacon e h se fl ea dg) s = .next t ∧
        (t.lineEnd e).state = .locked ∧
        (t.lineEnd e).barFlag = false ∧
        (t.lineEnd e).neighbour = some ⟨h.src, if se = 0#8 then .a else .b, ea, dg, if fl.toNat / 2 % 4 = 0 then .unformed else if fl.toNat / 2 % 4 = 1 then .formed else if fl.toNat / 2 % 4 = 2 then .rolling else .degraded, decide (fl.toNat % 2 = 1)⟩ ∧
        ((s.lineEnd e.other).state = .locked → s.Called t) ∧
        ((s.lineEnd e.other).state ≠ .locked → s.Originated t e) ∧
        t.attn.events.has (EventKind.line e) = true ∧
        s.KeepsSettings t))

/-- A CALL on a LOCKED end restarts its loss timer and raises E to its epoch. At an intermediate it is forwarded unchanged out of
the other end in FORMED, where the part enters ROLLING with attempt count 0 and the timer at 250 ms, in DEGRADED, and in
ROLLING when its epoch is above the E held before; otherwise it is not forwarded. At a terminal a ROLL is originated out of
the arrival end above the raised E in FORMED, where the part enters ROLLING, in DEGRADED, and in ROLLING when the CALL's epoch
is at or above the last origination epoch; otherwise nothing more happens.
Rests on R32, R35, R36, R37, R38. -/
def Obligations.CallReceived : Prop :=
  (∀ (s : State) (e : LineEnd) (h : Header),
      ((s.lineEnd e).state = .locked) →
      ((s.lineEnd e.other).state = .locked) →
      (s.roll.state = .formed) →
      (∃ t, exec (.call e h) s = .next t ∧
        t.roll = { s.roll with epoch := raiseEpoch s.roll.epoch h.epoch, state := .rolling, attempts := 0, timer := .running 250 } ∧
        (t.lineEnd e.other).ctrlQ = pushCtrl (s.lineEnd e.other).ctrlQ ⟨h, .call⟩ ∧
        (t.lineEnd e).ctrlQ = (s.lineEnd e).ctrlQ ∧
        t.attn.events.unsettled = some .rolling ∧
        t.consist = s.consist ∧
        s.KeepsSettings t)) ∧
  (∀ (s : State) (e : LineEnd) (h : Header),
      ((s.lineEnd e).state = .locked) →
      ((s.lineEnd e.other).state = .locked) →
      (s.roll.state = .degraded ∨ (s.roll.state = .rolling ∧ s.roll.epoch < h.epoch)) →
      (exec (.call e h) s =
        .next ((({ s with roll := { s.roll with epoch := raiseEpoch s.roll.epoch h.epoch } } : State).heardOn e).queuedCtrl e.other ⟨h, .call⟩))) ∧
  (∀ (s : State) (e : LineEnd) (h : Header),
      ((s.lineEnd e).state = .locked) →
      ((s.lineEnd e.other).state = .locked) →
      (s.roll.state = .rolling) →
      (h.epoch ≤ s.roll.epoch) →
      (exec (.call e h) s =
        .next (s.heardOn e))) ∧
  (∀ (s : State) (e : LineEnd) (h : Header),
      ((s.lineEnd e).state = .locked) →
      ((s.lineEnd e.other).state ≠ .locked) →
      (s.roll.state = .formed) →
      (∃ t, exec (.call e h) s = .next t ∧
        ({ s with roll := { s.roll with epoch := raiseEpoch s.roll.epoch h.epoch } } : State).Originated t e ∧
        t.attn.events.unsettled = some .rolling ∧
        s.KeepsSettings t)) ∧
  (∀ (s : State) (e : LineEnd) (h : Header),
      ((s.lineEnd e).state = .locked) →
      ((s.lineEnd e.other).state ≠ .locked) →
      (s.roll.state = .degraded ∨ (s.roll.state = .rolling ∧ s.roll.lastOrig ≤ h.epoch)) →
      (exec (.call e h) s =
        .next ((({ s with roll := { s.roll with epoch := increaseEpoch (raiseEpoch s.roll.epoch h.epoch), lastOrig := increaseEpoch (raiseEpoch s.roll.epoch h.epoch), timer := .running (if s.roll.state = .degraded then 2000 else 250) } } : State).heardOn e).queuedCtrl e ⟨⟨increaseEpoch (raiseEpoch s.roll.epoch h.epoch), s.ownId, 0#8, 0#8⟩, .roll [⟨s.ownId, e.other.code, s.ownCab.code⟩]⟩))) ∧
  (∀ (s : State) (e : LineEnd) (h : Header),
      ((s.lineEnd e).state = .locked) →
      ((s.lineEnd e.other).state ≠ .locked) →
      (s.roll.state = .rolling) →
      (h.epoch < s.roll.lastOrig) →
      (exec (.call e h) s =
        .next (({ s with roll := { s.roll with epoch := raiseEpoch s.roll.epoch h.epoch } } : State).heardOn e)))

/-- A ROLL on a LOCKED end restarts its loss timer. One of bad form (no entries, an identity that names no car, an end or cab code
out of range, an identity twice) or of an epoch below E has no other effect. An intermediate that is ROLLING or DEGRADED and
accepts a ROLL of fewer than 16 entries without its own identity takes its epoch as E, appends its own entry with the arrival
end as toward-origin end, forwards it under the received header out of the other end and restarts its roll timer, at 250 ms or
2000 ms; in FORMED it first enters ROLLING with attempt count 0.
Rests on R38, R39, R42. -/
def Obligations.RollDiscardedOrForwarded : Prop :=
  (∀ (s : State) (e : LineEnd) (h : Header) (es : List CarEntry),
      (es.length ≤ 16) →
      ((s.lineEnd e).state = .locked) →
      (es = [] ∨ ¬EntriesOk es ∨ h.epoch < s.roll.epoch) →
      (exec (.roll e h es) s =
        .next (s.heardOn e))) ∧
  (∀ (s : State) (e : LineEnd) (h : Header) (es : List CarEntry),
      ((s.lineEnd e).state = .locked) →
      ((s.lineEnd e.other).state = .locked) →
      (s.roll.state = .rolling ∨ s.roll.state = .degraded) →
      (EntriesOk es) →
      (es ≠ []) →
      (es.length ≤ 15) →
      (∀ c ∈ es, c.ident ≠ s.ownId) →
      (s.roll.epoch ≤ h.epoch) →
      (exec (.roll e h es) s =
        .next ((({ s with roll := { s.roll with epoch := h.epoch, timer := .running (if s.roll.state = .degraded then 2000 else 250) } } : State).heardOn e).queuedCtrl e.other ⟨h, .roll (es ++ [⟨s.ownId, e.code, s.ownCab.code⟩])⟩))) ∧
  (∀ (s : State) (e : LineEnd) (h : Header) (es : List CarEntry),
      ((s.lineEnd e).state = .locked) →
      ((s.lineEnd e.other).state = .locked) →
      (s.roll.state = .formed) →
      (EntriesOk es) →
      (es ≠ []) →
      (es.length ≤ 15) →
      (∀ c ∈ es, c.ident ≠ s.ownId) →
      (s.roll.epoch ≤ h.epoch) →
      (∃ t, exec (.roll e h es) s = .next t ∧
        t.roll = { s.roll with epoch := h.epoch, state := .rolling, attempts := 0, timer := .running 250 } ∧
        (t.lineEnd e.other).ctrlQ = pushCtrl (s.lineEnd e.other).ctrlQ ⟨h, .roll (es ++ [⟨s.ownId, e.code, s.ownCab.code⟩])⟩ ∧
        (t.lineEnd e).ctrlQ = (s.lineEnd e).ctrlQ ∧
        t.consist = s.consist ∧
        t.attn.events.unsettled = some .rolling ∧
        s.KeepsSettings t))

/-- A terminal that accepts a ROLL of 1 to 15 entries without its own identity adopts, in every consist state but UNFORMED, the
roster built from the entries and its own: E and Ea are the ROLL's epoch, FORMED, attempt count 0, the timer stopped, the last
origination epoch kept, the digest that of the roster, D and conflict those of its cabs, the own roster index its own place,
one view step, the refresh window started, and the ROSTER with that place as source index offered to the arrival end. The
host's settings are kept. With no command waiting for another car, the mirrors held afterwards are those of the cars of the
new roster, all STALE, and the reply memory is empty; from ROLLING and DEGRADED (in FORMED the part enters ROLLING first,
which marks the bindings) every binding is re-resolved as the part then stands, with its changed mark and BINDING_CHANGED
judged between its contents before and after; with no binding in the table, the republish burst of all home records in their
order has run from the directory queues left by the new epoch for as long as every joined end's queue held 8 or fewer frames.
Rests on R39, R43, R44, R49, R55, R57, R96, R97, R105, R116, R143, R144. -/
def Obligations.RollCompletedAtATerminal : Prop :=
  (∀ (s : State) (e : LineEnd) (h : Header) (es : List CarEntry),
      ((s.lineEnd e).state = .locked) →
      ((s.lineEnd e.other).state ≠ .locked) →
      (s.roll.state ≠ .unformed) →
      (EntriesOk es) →
      (es ≠ []) →
      (es.length ≤ 15) →
      (∀ c ∈ es, c.ident ≠ s.ownId) →
      (s.roll.epoch ≤ h.epoch) →
      (∃ t, exec (.roll e h es) s = .next t ∧
        t.roll = { epoch := h.epoch, state := .formed, attempts := 0, timer := .stopped, lastOrig := s.roll.lastOrig } ∧
        t.consist.roster = buildRoster (es ++ [⟨s.ownId, e.code, s.ownCab.code⟩]) ∧
        t.consist.ea = h.epoch ∧
        t.consist.digest = rosterDigest (buildRoster (es ++ [⟨s.ownId, e.code, s.ownCab.code⟩])) ∧
        t.consist.dir = directionOf (buildRoster (es ++ [⟨s.ownId, e.code, s.ownCab.code⟩])) ∧
        t.consist.conflict = conflictOf (buildRoster (es ++ [⟨s.ownId, e.code, s.ownCab.code⟩])) ∧
        t.consist.ownIdx = rosterIndex (buildRoster (es ++ [⟨s.ownId, e.code, s.ownCab.code⟩])) s.ownId ∧
        t.consist.ownIdx ≠ 0 ∧
        t.consist.view = s.consist.view + 1#16 ∧
        t.dir.refreshT = .running 500 ∧
        (t.lineEnd e).ctrlQ = pushCtrl (s.lineEnd e).ctrlQ ⟨⟨h.epoch, s.ownId, 0#8, byteOf t.consist.ownIdx⟩, .roster ((buildRoster (es ++ [⟨s.ownId, e.code, s.ownCab.code⟩])).map RosterEntry.toCar)⟩ ∧
        t.attn.events.view = some ⟨t.consist.view, t.consist.dir, es.length + 1⟩ ∧
        s.KeepsSettings t)) ∧
  (∀ (s : State) (e : LineEnd) (h : Header) (es : List CarEntry),
      (s.Quiet) →
      ((s.dir.mirrors.map fun m => (m.owner, m.body.tag, m.body.side)).Nodup) →
      ((s.lineEnd e).state = .locked) →
      ((s.lineEnd e.other).state ≠ .locked) →
      (s.roll.state ≠ .unformed) →
      (EntriesOk es) →
      (es ≠ []) →
      (es.length ≤ 15) →
      (∀ c ∈ es, c.ident ≠ s.ownId) →
      (s.roll.epoch ≤ h.epoch) →
      (∃ t, exec (.roll e h es) s = .next t ∧
        s.Purged t ∧
        t.traffic.replies = [] ∧
        (s.roll.state ≠ .formed → s.Rebound t fun _ => true))) ∧
  (∀ (s : State) (e : LineEnd) (h : Header) (es : List CarEntry),
      (s.Quiet) →
      (∀ i ∈ slots, s.slot i = .free) →
      ((s.lineEnd e).state = .locked) →
      ((s.lineEnd e.other).state ≠ .locked) →
      (s.roll.state ≠ .unformed) →
      (EntriesOk es) →
      (es ≠ []) →
      (es.length ≤ 15) →
      (∀ c ∈ es, c.ident ≠ s.ownId) →
      (s.roll.epoch ≤ h.epoch) →
      (∃ t, exec (.roll e h es) s = .next t ∧
        ({ t with lineA := { t.lineA with dirQ := s.lineA.dirQ.filter (·.hdr.epoch = h.epoch) }, lineB := { t.lineB with dirQ := s.lineB.dirQ.filter (·.hdr.epoch = h.epoch) } } : State).BurstRan t s.homeKeys))

/-- A ROLL that lists the part's own identity is discarded: E and the consist state are as acceptance left them and no frame is
offered; under REPORT, DUPLICATE_ID is pending and the end stays LOCKED; under SILENT nothing is reported; under ISOLATE the
arrival end goes to ISOLATED and DUPLICATE_ID is pending. An accepted ROLL of 16 entries without the own identity bars the
arrival end, with its queues trimmed and its flap count kept, and reports OVERLENGTH unless its disposition is SILENT.
Rests on R21, R39, R40, R41, R171, R172. -/
def Obligations.RollFaults : Prop :=
  (∀ (s : State) (e : LineEnd) (h : Header) (es : List CarEntry),
      ((s.lineEnd e).state = .locked) →
      (s.roll.state = .rolling ∨ s.roll.state = .degraded) →
      (EntriesOk es) →
      (es.length ≤ 16) →
      (∃ c ∈ es, c.ident = s.ownId) →
      (s.roll.epoch ≤ h.epoch) →
      (s.attn.disp.duplicateId ≠ .isolate) →
      (exec (.roll e h es) s =
        .next (if s.attn.disp.duplicateId = .silent then ({ s with roll := { s.roll with epoch := h.epoch } } : State).heardOn e else (({ s with roll := { s.roll with epoch := h.epoch } } : State).heardOn e).raise (Events.raiseFault .duplicateId)))) ∧
  (∀ (s : State) (e : LineEnd) (h : Header) (es : List CarEntry),
      ((s.lineEnd e).state = .locked) →
      (s.roll.state ≠ .unformed) →
      (EntriesOk es) →
      (es.length ≤ 16) →
      (∃ c ∈ es, c.ident = s.ownId) →
      (s.roll.epoch ≤ h.epoch) →
      (s.attn.disp.duplicateId = .isolate) →
      (∃ t, exec (.roll e h es) s = .next t ∧
        (t.lineEnd e).state = .isolated ∧
        (t.lineEnd e).isolated = true ∧
        (t.lineEnd e).flap = (s.lineEnd e).flap ∧
        (t.attn.events.fault.map fun f => f.getLsbD 0) = some true ∧
        ((s.lineEnd e.other).state ≠ .locked → ({ s with roll := { s.roll with epoch := h.epoch } } : State).AdoptedAlone t) ∧
        ((s.lineEnd e.other).state = .locked → ({ s with roll := { s.roll with epoch := h.epoch } } : State).Originated t e.other) ∧
        s.KeepsSettings t)) ∧
  (∀ (s : State) (e : LineEnd) (h : Header) (es : List CarEntry),
      ((s.lineEnd e).state = .locked) →
      (s.roll.state ≠ .unformed) →
      (EntriesOk es) →
      (es.length = 16) →
      (∀ c ∈ es, c.ident ≠ s.ownId) →
      (s.roll.epoch ≤ h.epoch) →
      (∃ t, exec (.roll e h es) s = .next t ∧
        t.lineEnd e = { s.lineEnd e with lossT := .running 35, state := .barred, barFlag := true, dirQ := [], ctrlQ := (s.lineEnd e).ctrlQ.filter (· = .beacon) } ∧
        (s.attn.disp.overlength ≠ .silent → (t.attn.events.fault.map fun f => f.getLsbD 1) = some true) ∧
        ((s.lineEnd e.other).state ≠ .locked → ({ s with roll := { s.roll with epoch := h.epoch } } : State).AdoptedAlone t) ∧
        ((s.lineEnd e.other).state = .locked → ({ s with roll := { s.roll with epoch := h.epoch } } : State).Originated t e.other) ∧
        s.KeepsSettings t))

/-- A ROSTER on a LOCKED end restarts its loss timer. Below E it has no other effect. One that fails the consistency check is a
trigger. One that passes, in FORMED at an epoch equal to Ea, is ignored when its digest is the part's and a trigger when it is
not. Every other one that passes is adopted at its epoch: E, Ea, FORMED, its identities and facings in its order, its cab ends
but for the own entry, which takes the own active cab end, the own roster index, one view step; it is forwarded unchanged out
of the other end if that is joined, with a STEER behind it on each joined end exactly when the own entry's cab end differs.
With no command waiting for another car, an adoption removes the mirrors of the cars that its roster does not hold and marks
the others STALE, re-resolves every binding as the part then stands, and empties the reply memory; with no binding in the
table, the republish burst of all home records in their order has run from the directory queues left by the new epoch for as
long as every joined end's queue held 8 or fewer frames.
Rests on R45, R46, R47, R48, R49, R55, R63, R96, R105, R116, R143, R144. -/
def Obligations.RosterReceived : Prop :=
  (∀ (s : State) (e : LineEnd) (h : Header) (es : List CarEntry),
      (1 ≤ es.length) →
      (es.length ≤ 16) →
      ((s.lineEnd e).state = .locked) →
      (h.epoch < s.roll.epoch) →
      (exec (.roster e h es) s =
        .next (s.heardOn e))) ∧
  (∀ (s : State) (e : LineEnd) (h : Header) (es : List CarEntry),
      (1 ≤ es.length) →
      (es.length ≤ 16) →
      ((s.lineEnd e).state = .locked) →
      (s.roll.epoch ≤ h.epoch) →
      (s.roll.state ≠ .unformed) →
      (∀ own ∈ List.range 17, ∀ c ∈ es, ¬s.RosterFits e h es own c.cab) →
      (∃ t, exec (.roster e h es) s = .next t ∧
        ((s.lineEnd e.other).state = .locked → s.Called t) ∧
        ((s.lineEnd e.other).state ≠ .locked → s.Originated t e) ∧
        s.KeepsSettings t)) ∧
  (∀ (s : State) (e : LineEnd) (h : Header) (es : List CarEntry) (own : Nat) (cab : Byte),
      (es.length ≤ 16) →
      ((s.lineEnd e).state = .locked) →
      (s.RosterFits e h es own cab) →
      (s.roll.epoch ≤ h.epoch) →
      (s.roll.state = .formed) →
      (h.epoch = s.consist.ea) →
      (∃ t, exec (.roster e h es) s = .next t ∧
        (rosterDigest (es.map (CarEntry.toRoster false)) = s.consist.digest → t = s.heardOn e) ∧
        (rosterDigest (es.map (CarEntry.toRoster false)) ≠ s.consist.digest → ((s.lineEnd e.other).state = .locked → s.Called t) ∧ ((s.lineEnd e.other).state ≠ .locked → s.Originated t e) ∧ s.KeepsSettings t))) ∧
  (∀ (s : State) (e : LineEnd) (h : Header) (es : List CarEntry) (own : Nat) (cab : Byte),
      (es.length ≤ 16) →
      ((s.lineEnd e).state = .locked) →
      (s.RosterFits e h es own cab) →
      (s.roll.epoch ≤ h.epoch) →
      (¬(s.roll.state = .formed ∧ h.epoch = s.consist.ea)) →
      (∃ t, exec (.roster e h es) s = .next t ∧
        t.roll = { epoch := h.epoch, state := .formed, attempts := 0, timer := .stopped, lastOrig := s.roll.lastOrig } ∧
        t.consist.roster = (es.map (CarEntry.toRoster false)).modify (own - 1) (fun r => { r with cab := s.ownCab }) ∧
        t.consist.ea = h.epoch ∧
        t.consist.ownIdx = own ∧
        t.consist.digest = rosterDigest (es.map (CarEntry.toRoster false)) ∧
        t.consist.dir = directionOf t.consist.roster ∧
        t.consist.view = s.consist.view + 1#16 ∧
        (t.lineEnd e).state = .locked ∧
        s.KeepsSettings t ∧
        (cab = s.ownCab.code → (t.lineEnd e).ctrlQ = (s.lineEnd e).ctrlQ ∧ (t.lineEnd e.other).ctrlQ = if (s.lineEnd e.other).state = .locked then pushCtrl (s.lineEnd e.other).ctrlQ ⟨h, .roster es⟩ else (s.lineEnd e.other).ctrlQ) ∧
        (cab ≠ s.ownCab.code → (t.lineEnd e).ctrlQ = pushCtrl (s.lineEnd e).ctrlQ ⟨⟨h.epoch, s.ownId, 0#8, byteOf own⟩, .steer s.ownCab.code⟩ ∧ (t.lineEnd e.other).ctrlQ = if (s.lineEnd e.other).state = .locked then pushCtrl (pushCtrl (s.lineEnd e.other).ctrlQ ⟨h, .roster es⟩) ⟨⟨h.epoch, s.ownId, 0#8, byteOf own⟩, .steer s.ownCab.code⟩ else (s.lineEnd e.other).ctrlQ))) ∧
  (∀ (s : State) (e : LineEnd) (h : Header) (es : List CarEntry) (own : Nat) (cab : Byte),
      (s.Quiet) →
      ((s.dir.mirrors.map fun m => (m.owner, m.body.tag, m.body.side)).Nodup) →
      (es.length ≤ 16) →
      ((s.lineEnd e).state = .locked) →
      (s.RosterFits e h es own cab) →
      (s.roll.epoch ≤ h.epoch) →
      (¬(s.roll.state = .formed ∧ h.epoch = s.consist.ea)) →
      (∃ t, exec (.roster e h es) s = .next t ∧
        s.Purged t ∧
        s.Rebound t (fun _ => true) ∧
        t.traffic.replies = [])) ∧
  (∀ (s : State) (e : LineEnd) (h : Header) (es : List CarEntry) (own : Nat) (cab : Byte),
      (s.Quiet) →
      (∀ i ∈ slots, s.slot i = .free) →
      (es.length ≤ 16) →
      ((s.lineEnd e).state = .locked) →
      (s.RosterFits e h es own cab) →
      (s.roll.epoch ≤ h.epoch) →
      (¬(s.roll.state = .formed ∧ h.epoch = s.consist.ea)) →
      (∃ t, exec (.roster e h es) s = .next t ∧
        ({ t with lineA := { t.lineA with dirQ := s.lineA.dirQ.filter (·.hdr.epoch = h.epoch) }, lineB := { t.lineB with dirQ := s.lineB.dirQ.filter (·.hdr.epoch = h.epoch) } } : State).BurstRan t s.homeKeys))

/-- A STEER on a LOCKED end restarts its loss timer. It is accepted when its epoch is Ea, its source is the car at its source
index and not the part's own, its cab code is in range and the arrival end is the forwarding end toward the source: the entry
takes the cab end, D and the cab conflict flag are those of the entries, the view number takes a step exactly when D changes,
and it is forwarded unchanged out of the other end if that is joined. A change of D re-resolves every binding, as the part
then stands and in whatever consist state; without one the bindings and the directory are as they were. Otherwise it has no
other effect.
Rests on R57, R58, R59, R65, R66, R143, R144, R150. -/
def Obligations.SteerReceived : Prop :=
  (∀ (s : State) (e : LineEnd) (h : Header) (c : CabEnd),
      ((s.lineEnd e).state = .locked) →
      (h.epoch = s.consist.ea) →
      (h.src ≠ s.ownId) →
      ((s.consist.entry h.srcIdx.toNat).map RosterEntry.ident = some h.src) →
      (s.consist.forwardEnd h.srcIdx.toNat = some e) →
      (∃ t, exec (.steer e h c.code) s = .next t ∧
        t.consist.roster = (s.consist.setCab h.srcIdx.toNat c).roster ∧
        t.consist.dir = directionOf t.consist.roster ∧
        t.consist.conflict = conflictOf t.consist.roster ∧
        t.consist.view = (if t.consist.dir = s.consist.dir then s.consist.view else s.consist.view + 1#16) ∧
        t.consist.ea = s.consist.ea ∧
        t.consist.digest = s.consist.digest ∧
        t.consist.ownIdx = s.consist.ownIdx ∧
        t.roll = s.roll ∧
        t.port = s.port ∧
        s.KeepsSettings t ∧
        (t.lineEnd e).ctrlQ = (s.lineEnd e).ctrlQ ∧
        (t.lineEnd e.other).ctrlQ = (if (s.lineEnd e.other).state = .locked then pushCtrl (s.lineEnd e.other).ctrlQ ⟨h, .steer c.code⟩ else (s.lineEnd e.other).ctrlQ))) ∧
  (∀ (s : State) (e : LineEnd) (h : Header) (cab : Byte),
      ((s.lineEnd e).state = .locked) →
      (h.epoch ≠ s.consist.ea ∨ h.src = s.ownId ∨ (s.consist.entry h.srcIdx.toNat).map RosterEntry.ident ≠ some h.src ∨ 2#8 < cab ∨ s.consist.forwardEnd h.srcIdx.toNat ≠ some e) →
      (exec (.steer e h cab) s =
        .next (s.heardOn e))) ∧
  (∀ (s : State) (e : LineEnd) (h : Header) (c : CabEnd),
      ((s.dir.mirrors.map fun m => (m.owner, m.body.tag, m.body.side)).Nodup) →
      ((s.lineEnd e).state = .locked) →
      (h.epoch = s.consist.ea) →
      (h.src ≠ s.ownId) →
      ((s.consist.entry h.srcIdx.toNat).map RosterEntry.ident = some h.src) →
      (s.consist.forwardEnd h.srcIdx.toNat = some e) →
      (∃ t, exec (.steer e h c.code) s = .next t ∧
        (t.consist.dir ≠ s.consist.dir → s.Rebound t fun _ => true) ∧
        (t.consist.dir = s.consist.dir → t.bindings = s.bindings ∧ t.dir = s.dir)))

/-- On a LOCKED end a valid directory frame of any of the six kinds restarts the loss timer and does nothing else when it is not
accepted (the consist state is not FORMED, its epoch is not Ea, its source index does not name its source, or its source is
the part itself), when a broadcast carries a destination index other than 0, or when a unicast carries 0, an index above N, an
index whose forwarding end is the arrival end, or one whose forwarding end is not joined.
Rests on R10, R100, R101, R102. -/
def Obligations.DirectoryFramesDiscarded : Prop :=
  (∀ (s : State) (e : LineEnd) (f : Frame),
      (f.valid = true) →
      (f.payload.kind.toNat / 16 = 1) →
      ((s.lineEnd e).state = .locked) →
      (¬s.FromCar f.hdr) →
      (exec (f.toInstr e) s =
        .next (s.heardOn e))) ∧
  (∀ (s : State) (e : LineEnd) (f : Frame),
      (f.valid = true) →
      (f.payload.kind = 0x11#8 ∨ f.payload.kind = 0x12#8) →
      ((s.lineEnd e).state = .locked) →
      (s.FromCar f.hdr) →
      (f.hdr.dst ≠ 0#8) →
      (exec (f.toInstr e) s =
        .next (s.heardOn e))) ∧
  (∀ (s : State) (e : LineEnd) (f : Frame),
      (f.valid = true) →
      (0x13 ≤ f.payload.kind.toNat) →
      ((s.lineEnd e).state = .locked) →
      (s.FromCar f.hdr) →
      (f.hdr.dst.toNat ≠ s.consist.ownIdx ∨ s.consist.ownIdx = 0) →
      (∀ out ∈ s.consist.forwardEnd f.hdr.dst.toNat, out = e ∨ (s.lineEnd out).state ≠ .locked) →
      (exec (f.toInstr e) s =
        .next (s.heardOn e)))

/-- An accepted QUERY, ANSWER, CHANGE_REQ or CHANGE_REPLY for another roster index, whose forwarding end is joined and is not the
arrival end, is placed unchanged in that end's directory queue, and nothing else changes but the arrival end's loss timer.
Rests on R100, R102. -/
def Obligations.UnicastsForwarded : Prop :=
  ∀ (s : State) (e out : LineEnd) (f : Frame),
    (f.valid = true) →
    (0x13 ≤ f.payload.kind.toNat) →
    ((s.lineEnd e).state = .locked) →
    (s.FromCar f.hdr) →
    (f.hdr.dst.toNat ≠ s.consist.ownIdx) →
    (s.Reaches f.hdr.dst.toNat out) →
    (out ≠ e) →
    (exec (f.toInstr e) s =
      .next ((s.heardOn e).queuedDir out f))

/-- A PUBLISH of a good record whose key is held updates that mirror: its fields, CURRENT, the most recent end of the use order,
its pin count kept. With a new key, of interest and with a free slot, a CURRENT mirror of pin count 0 joins the most recent
end; with a full directory it takes the place of the least recently used STALE mirror that no binding pins, or, if there is
none, of the least recently used that no binding pins, and then DIRECTORY_FULL is pending with the victim's tag; of no
interest, nothing is kept. A WITHDRAW removes the mirror of its key and changes nothing when none is held. Each is passed on
unchanged out of the other end if that is joined. For tags that no binding names, with no binding PENDING, nothing else
changes but the arrival end's loss timer. Whatever bindings there are, a PUBLISH that is kept without an eviction, by interest
or because a binding names its tag, and a WITHDRAW of a held mirror re-resolve every binding of that tag as the part then
stands, with its changed mark and BINDING_CHANGED; the bindings of other tags are left alone.
Rests on R74, R85, R87, R88, R91, R92, R101, R143, R145, R150. -/
def Obligations.BroadcastsTaken : Prop :=
  (∀ (s : State) (e : LineEnd) (h : Header) (r : Rec) (m : Mirror),
      (r.Good) →
      (s.Unbound r.tag) →
      ((s.lineEnd e).state = .locked) →
      (s.FromCar h) →
      (h.dst = 0#8) →
      (s.dir.findMirror h.src r.tag r.side = some m) →
      (exec (.publish e h r.toBody) s =
        .next ((if (s.lineEnd e.other).state = .locked then (({ s with dir := { s.dir with mirrors := s.dir.mirrors.filter (fun x => ¬(x.owner = h.src ∧ x.body.tag = r.tag ∧ x.body.side = r.side)) ++ [⟨h.src, r, .current, m.pins⟩] } } : State).heardOn e).queuedDir e.other ⟨h, .publish r.toBody⟩ else ({ s with dir := { s.dir with mirrors := s.dir.mirrors.filter (fun x => ¬(x.owner = h.src ∧ x.body.tag = r.tag ∧ x.body.side = r.side)) ++ [⟨h.src, r, .current, m.pins⟩] } } : State).heardOn e)))) ∧
  (∀ (s : State) (e : LineEnd) (h : Header) (r : Rec),
      (r.Good) →
      (s.Unbound r.tag) →
      ((s.lineEnd e).state = .locked) →
      (s.FromCar h) →
      (h.dst = 0#8) →
      (s.dir.findMirror h.src r.tag r.side = none) →
      (s.dir.allMode = true ∨ s.dir.interested r.tag = true) →
      (s.dir.home.length + s.dir.mirrors.length < 256) →
      (exec (.publish e h r.toBody) s =
        .next ((if (s.lineEnd e.other).state = .locked then (({ s with dir := { s.dir with mirrors := s.dir.mirrors ++ [⟨h.src, r, .current, 0⟩] } } : State).heardOn e).queuedDir e.other ⟨h, .publish r.toBody⟩ else ({ s with dir := { s.dir with mirrors := s.dir.mirrors ++ [⟨h.src, r, .current, 0⟩] } } : State).heardOn e)))) ∧
  (∀ (s : State) (e : LineEnd) (h : Header) (r : Rec),
      (r.Good) →
      (s.Unbound r.tag) →
      ((s.lineEnd e).state = .locked) →
      (s.FromCar h) →
      (h.dst = 0#8) →
      (s.dir.findMirror h.src r.tag r.side = none) →
      (s.dir.allMode = false) →
      (s.dir.interested r.tag = false) →
      (exec (.publish e h r.toBody) s =
        .next ((if (s.lineEnd e.other).state = .locked then (s.heardOn e).queuedDir e.other ⟨h, .publish r.toBody⟩ else s.heardOn e)))) ∧
  (∀ (s : State) (e : LineEnd) (h : Header) (r : Rec),
      (TagOk r.tag) →
      (s.Unbound r.tag) →
      ((s.lineEnd e).state = .locked) →
      (s.FromCar h) →
      (h.dst = 0#8) →
      ((s.dir.mirrors.filter fun x => x.owner = h.src ∧ x.body.tag = r.tag ∧ x.body.side = r.side) ≠ []) →
      (exec (.withdraw e h r.tag r.side.code) s =
        .next ((if (s.lineEnd e.other).state = .locked then (({ s with dir := { s.dir with mirrors := s.dir.mirrors.filter (fun x => ¬(x.owner = h.src ∧ x.body.tag = r.tag ∧ x.body.side = r.side)) } } : State).heardOn e).queuedDir e.other ⟨h, .withdraw r.tag r.side.code⟩ else ({ s with dir := { s.dir with mirrors := s.dir.mirrors.filter (fun x => ¬(x.owner = h.src ∧ x.body.tag = r.tag ∧ x.body.side = r.side)) } } : State).heardOn e)))) ∧
  (∀ (s : State) (e : LineEnd) (h : Header) (r : Rec),
      (TagOk r.tag) →
      ((s.lineEnd e).state = .locked) →
      (s.FromCar h) →
      (h.dst = 0#8) →
      (s.dir.findMirror h.src r.tag r.side = none) →
      (exec (.withdraw e h r.tag r.side.code) s =
        .next ((if (s.lineEnd e.other).state = .locked then (s.heardOn e).queuedDir e.other ⟨h, .withdraw r.tag r.side.code⟩ else s.heardOn e)))) ∧
  (∀ (s : State) (e : LineEnd) (h : Header) (r : Rec) (pre post : List Mirror) (v : Mirror),
      (r.Good) →
      (s.Unbound r.tag) →
      (s.Unbound v.body.tag) →
      ((s.lineEnd e).state = .locked) →
      (s.FromCar h) →
      (h.dst = 0#8) →
      (s.dir.findMirror h.src r.tag r.side = none) →
      (s.dir.allMode = true ∨ s.dir.interested r.tag = true) →
      (s.Evicts pre v post) →
      (exec (.publish e h r.toBody) s =
        .next ((if (s.lineEnd e.other).state = .locked then ((({ s with dir := { s.dir with mirrors := pre ++ post ++ [⟨h.src, r, .current, 0⟩] } } : State).raise fun ev => if v.fresh = .current then ev.raiseDirectoryFull v.body.tag else ev).heardOn e).queuedDir e.other ⟨h, .publish r.toBody⟩ else (({ s with dir := { s.dir with mirrors := pre ++ post ++ [⟨h.src, r, .current, 0⟩] } } : State).raise fun ev => if v.fresh = .current then ev.raiseDirectoryFull v.body.tag else ev).heardOn e)))) ∧
  (∀ (s : State) (e : LineEnd) (h : Header) (r : Rec),
      (r.Good) →
      ((s.dir.mirrors.map fun m => (m.owner, m.body.tag, m.body.side)).Nodup) →
      ((s.lineEnd e).state = .locked) →
      (s.FromCar h) →
      (h.dst = 0#8) →
      ((s.dir.findMirror h.src r.tag r.side).isSome = true ∨ ((s.dir.allMode = true ∨ s.dir.interested r.tag = true ∨ s.namesTag r.tag = true) ∧ s.dir.home.length + s.dir.mirrors.length < 256)) →
      (∃ t, exec (.publish e h r.toBody) s = .next t ∧
        s.Rebound t (fun g => decide (g = r.tag)) ∧
        (t.dir.mirrors.map fun m => (m.owner, m.body, m.fresh)).Perm ((s.dir.mirrors.filter fun x => ¬(x.owner = h.src ∧ x.body.tag = r.tag ∧ x.body.side = r.side)).map (fun m => (m.owner, m.body, m.fresh)) ++ [(h.src, r, .current)]) ∧
        t.dir.home = s.dir.home ∧
        t.roll = s.roll ∧
        t.consist = s.consist ∧
        t.port = s.port ∧
        t.resolver = s.resolver)) ∧
  (∀ (s : State) (e : LineEnd) (h : Header) (r : Rec),
      (TagOk r.tag) →
      ((s.dir.mirrors.map fun m => (m.owner, m.body.tag, m.body.side)).Nodup) →
      ((s.lineEnd e).state = .locked) →
      (s.FromCar h) →
      (h.dst = 0#8) →
      ((s.dir.findMirror h.src r.tag r.side).isSome = true) →
      (∃ t, exec (.withdraw e h r.tag r.side.code) s = .next t ∧
        s.Rebound t (fun g => decide (g = r.tag)) ∧
        (t.dir.mirrors.map fun m => (m.owner, m.body, m.fresh)).Perm ((s.dir.mirrors.filter fun x => ¬(x.owner = h.src ∧ x.body.tag = r.tag ∧ x.body.side = r.side)).map fun m => (m.owner, m.body, m.fresh)) ∧
        t.dir.home = s.dir.home ∧
        t.roll = s.roll ∧
        t.consist = s.consist ∧
        t.port = s.port ∧
        t.resolver = s.resolver))

/-- A QUERY taken at its destination has an ANSWER originated toward its source: its id, and every home record of its tag in home
list order with its fields as they stand, none included when there is none. Nothing else changes but the arrival end's loss
timer and the directory queue of the forwarding end. A QUERY with a tag byte outside 21h to 7Eh is discarded.
Rests on R102, R103, R108. -/
def Obligations.QueryAnswered : Prop :=
  (∀ (s : State) (e out : LineEnd) (h : Header) (id : Byte) (g : Tag),
      (TagOk g) →
      ((s.lineEnd e).state = .locked) →
      (s.FromCar h) →
      (h.dst.toNat = s.consist.ownIdx) →
      (h.dst ≠ 0#8) →
      (s.consist.ownIdx ≤ s.consist.n) →
      (s.Reaches h.srcIdx.toNat out) →
      (exec (.query e h id g) s =
        .next ((s.heardOn e).queuedDir out ⟨⟨s.consist.ea, s.ownId, byteOf h.srcIdx.toNat, byteOf s.consist.ownIdx⟩, (.answer id ((s.dir.home.filter (·.tag = g)).map Rec.toBody))⟩))) ∧
  (∀ (s : State) (e : LineEnd) (h : Header) (id : Byte) (g : Tag),
      (1 ≤ g.length) →
      (g.length ≤ 16) →
      (¬TagOk g) →
      ((s.lineEnd e).state = .locked) →
      (s.FromCar h) →
      (h.dst.toNat = s.consist.ownIdx) →
      (h.dst ≠ 0#8) →
      (s.consist.ownIdx ≤ s.consist.n) →
      (exec (.query e h id g) s =
        .next (s.heardOn e)))

/-- An ANSWER that belongs to neither outstanding query has no effect but on the arrival end's loss timer. One of no records to
the foreground query of a LOOKUP completes it with NO_RECORD, giving the target's identity, roster index and position, and
clears the query. One of a single good record of the tag, for the filter ANY and a tag that no binding names, stores it as a
CURRENT mirror at the most recent end and completes the LOOKUP with FOUND, giving that record. One of one to four good records
of one key to the foreground query of a BIND, for the filter ANY and a tag that no binding names, completes it with SUCCESS
and the binding record: the reserved handle holds a binding RESOLVED on the mirror of that key held after all were stored, the
last of them, which that binding pins. One of no records to the background query makes the PENDING binding it serves
UNRESOLVED with reason NO_RECORD, marked, with BINDING_CHANGED pending.
Rests on R86, R89, R109, R128, R132, R133, R134, R139, R148, R151. -/
def Obligations.AnswerReceived : Prop :=
  (∀ (s : State) (e : LineEnd) (h : Header) (id : Byte) (bs : List RecordBody),
      ((Payload.answer id bs).valid = true) →
      ((s.lineEnd e).state = .locked) →
      (s.FromCar h) →
      (h.dst.toNat = s.consist.ownIdx) →
      (h.dst ≠ 0#8) →
      (s.consist.ownIdx ≤ s.consist.n) →
      ((s.resolver.query.all fun q => !(q.id == id && q.target == h.src)) = true) →
      ((s.bindings.query.all fun q => !(q.id == id && q.target == h.src)) = true) →
      (exec (.answer e h id bs) s =
        .next (s.heardOn e))) ∧
  (∀ (s : State) (e : LineEnd) (h : Header) (q : ForegroundQuery) (f : InFlight) (r : RosterEntry),
      ((s.lineEnd e).state = .locked) →
      (s.FromCar h) →
      (h.dst.toNat = s.consist.ownIdx) →
      (h.dst ≠ 0#8) →
      (s.consist.ownIdx ≤ s.consist.n) →
      (s.resolver.query = some q) →
      (q.target = h.src) →
      (s.port.inFlight = some f) →
      (s.firstSlot HandleSlot.isReserved = none) →
      (s.consist.entry q.index = some r) →
      (exec (.answer e h q.id []) s =
        .next ((({ s with resolver := { query := none, timer := .stopped } } : State).heardOn e).endedWith f.tag .noRecord (be32 r.ident ++ [byteOf q.index, byteOf (s.consist.position q.index)]) false))) ∧
  (∀ (s : State) (e : LineEnd) (h : Header) (q : ForegroundQuery) (f : InFlight) (r : Rec),
      (r.Good) →
      (s.Unbound r.tag) →
      ((s.lineEnd e).state = .locked) →
      (s.FromCar h) →
      (h.dst.toNat = s.consist.ownIdx) →
      (h.dst ≠ 0#8) →
      (s.consist.ownIdx ≤ s.consist.n) →
      (s.resolver.query = some q) →
      (q.target = h.src) →
      (q.filter = .any) →
      (r.tag = q.tag) →
      (s.port.inFlight = some f) →
      (s.firstSlot HandleSlot.isReserved = none) →
      (s.dir.home.length + s.dir.mirrors.length < 256) →
      (s.dir.findMirror h.src r.tag r.side = none) →
      (∃ t, exec (.answer e h q.id [r.toBody]) s = .next t ∧
        t.resolver = ⟨none, .stopped⟩ ∧
        t.dir = { s.dir with mirrors := s.dir.mirrors ++ [⟨h.src, r, .current, 0⟩] } ∧
        t.Reports f.tag .found (s.foundData ⟨.mirror, .current, q.index, q.target, r⟩) ∧
        t.port.status.map StatusBlock.stale = some false ∧
        t.bindings = s.bindings ∧
        t.traffic = s.traffic ∧
        t.roll = s.roll ∧
        t.consist = s.consist ∧
        t.attn = s.attn)) ∧
  (∀ (s : State) (e : LineEnd) (h : Header) (q : BackgroundQuery) (b : Binding),
      ((s.lineEnd e).state = .locked) →
      (s.FromCar h) →
      (h.dst.toNat = s.consist.ownIdx) →
      (h.dst ≠ 0#8) →
      (s.consist.ownIdx ≤ s.consist.n) →
      (s.bindings.query = some q) →
      (q.target = h.src) →
      ((s.resolver.query.all fun p => !(p.id == q.id && p.target == h.src)) = true) →
      (s.binding q.slot = some b) →
      (b.st = .pending) →
      (∃ t, exec (.answer e h q.id []) s = .next t ∧
        t.slot q.slot = .held { b with st := .unresolved .noRecord, stale := false, changed := true } ∧
        (∀ j ∈ slots, j ≠ q.slot → t.slot j = s.slot j) ∧
        t.attn.events.bindingChanged = true ∧
        t.dir = s.dir ∧
        t.roll = s.roll ∧
        t.consist = s.consist ∧
        t.port = s.port ∧
        t.resolver = s.resolver)) ∧
  (∀ (s : State) (e : LineEnd) (h : Header) (q : ForegroundQuery) (f : InFlight) (pre : List Rec) (r : Rec) (i : Nat) (qu : Question),
      (pre.length ≤ 3) →
      (∀ x ∈ r :: pre, x.Good ∧ x.tag = q.tag ∧ x.side = r.side) →
      (s.Unbound q.tag) →
      ((s.lineEnd e).state = .locked) →
      (s.FromCar h) →
      (h.dst.toNat = s.consist.ownIdx) →
      (h.dst ≠ 0#8) →
      (s.consist.ownIdx ≤ s.consist.n) →
      (s.resolver.query = some q) →
      (q.target = h.src) →
      (q.filter = .any) →
      (s.port.inFlight = some f) →
      (s.firstSlot HandleSlot.isReserved = some i) →
      (s.slot i = .reserved qu) →
      (qu.tag = q.tag) →
      (s.dir.home.length + s.dir.mirrors.length < 256) →
      (s.dir.findMirror h.src q.tag r.side = none) →
      (∃ t, exec (.answer e h q.id (pre.map Rec.toBody ++ [r.toBody])) s = .next t ∧
        t.slot i = .held ⟨qu, .resolved ⟨.mirror, h.src, r.side, trainSide (s.consist.aligned q.index) r.side, s.consist.position q.index, q.index, r.addr, r.state, r.rev⟩, false, false⟩ ∧
        (∀ j ∈ slots, j ≠ i → t.slot j = s.slot j) ∧
        t.dir = { s.dir with mirrors := s.dir.mirrors ++ [⟨h.src, r, .current, 1⟩] } ∧
        t.resolver = ⟨none, .stopped⟩ ∧
        t.Reports f.tag .success (t.bindingData i ⟨qu, .resolved ⟨.mirror, h.src, r.side, trainSide (s.consist.aligned q.index) r.side, s.consist.position q.index, q.index, r.addr, r.state, r.rev⟩, false, false⟩) ∧
        t.port.status.map StatusBlock.stale = some false ∧
        t.bindings.query = s.bindings.query ∧
        t.traffic = s.traffic ∧
        t.roll = s.roll ∧
        t.consist = s.consist ∧
        t.attn = s.attn))

/-- A repeat, equal to the reply memory's entry of its source in id, tag, side and desired state, gets that entry's outcome and
revision again and changes nothing else. Otherwise, with no home record of the tag and side the reply is NO_RECORD with
revision 0; with permission DENIED it is REFUSED with the revision held; each is kept in the reply memory, and nothing else
changes. With permission ALLOWED it is ACCEPTED: the record takes the desired state and, if it differs, its revision takes one
step and REMOTE_CHANGE with tag, side, new state and requester is pending; the entry is kept. The CHANGE_REPLY is then queued
toward the requester; for a changed record of a tag that no binding names, with no binding PENDING, its PUBLISH is queued on
every joined end before it, unless the republish burst still has the record before it, and nothing else changes.
Rests on R81, R102, R103, R104, R111, R115, R116. -/
def Obligations.ChangeRequestDecided : Prop :=
  (∀ (s : State) (e out : LineEnd) (h : Header) (id : Byte) (g : Tag) (sd : Side) (d : RecState) (x : ReplyEntry),
      (TagOk g) →
      ((s.lineEnd e).state = .locked) →
      (s.FromCar h) →
      (h.dst.toNat = s.consist.ownIdx) →
      (h.dst ≠ 0#8) →
      (s.consist.ownIdx ≤ s.consist.n) →
      (s.Reaches h.srcIdx.toNat out) →
      ((s.traffic.replies.find? fun x => x.requester = h.src ∧ x.id = id ∧ x.tag = g ∧ x.side = sd ∧ x.desired = d) = some x) →
      (exec (.changeReq e h id g sd.code d.code) s =
        .next ((s.heardOn e).queuedDir out ⟨⟨s.consist.ea, s.ownId, byteOf h.srcIdx.toNat, byteOf s.consist.ownIdx⟩, (.changeReply id x.outcome.code x.rev)⟩))) ∧
  (∀ (s : State) (e out : LineEnd) (h : Header) (id : Byte) (g : Tag) (sd : Side) (d : RecState),
      (TagOk g) →
      ((s.lineEnd e).state = .locked) →
      (s.FromCar h) →
      (h.dst.toNat = s.consist.ownIdx) →
      (h.dst ≠ 0#8) →
      (s.consist.ownIdx ≤ s.consist.n) →
      (s.Reaches h.srcIdx.toNat out) →
      ((s.traffic.replies.find? fun x => x.requester = h.src ∧ x.id = id ∧ x.tag = g ∧ x.side = sd ∧ x.desired = d) = none) →
      (s.dir.findHome g sd = none) →
      (exec (.changeReq e h id g sd.code d.code) s =
        .next ((({ s with traffic := { s.traffic with replies := keepReply s.traffic.replies ⟨h.src, id, g, sd, d, .noRecord, 0#16⟩ } } : State).heardOn e).queuedDir out ⟨⟨s.consist.ea, s.ownId, byteOf h.srcIdx.toNat, byteOf s.consist.ownIdx⟩, (.changeReply id 2#8 0#16)⟩))) ∧
  (∀ (s : State) (e out : LineEnd) (h : Header) (id : Byte) (g : Tag) (sd : Side) (d : RecState) (r : Rec),
      (TagOk g) →
      ((s.lineEnd e).state = .locked) →
      (s.FromCar h) →
      (h.dst.toNat = s.consist.ownIdx) →
      (h.dst ≠ 0#8) →
      (s.consist.ownIdx ≤ s.consist.n) →
      (s.Reaches h.srcIdx.toNat out) →
      ((s.traffic.replies.find? fun x => x.requester = h.src ∧ x.id = id ∧ x.tag = g ∧ x.side = sd ∧ x.desired = d) = none) →
      (s.dir.findHome g sd = some r) →
      (r.perm = .denied) →
      (exec (.changeReq e h id g sd.code d.code) s =
        .next ((({ s with traffic := { s.traffic with replies := keepReply s.traffic.replies ⟨h.src, id, g, sd, d, .refused, r.rev⟩ } } : State).heardOn e).queuedDir out ⟨⟨s.consist.ea, s.ownId, byteOf h.srcIdx.toNat, byteOf s.consist.ownIdx⟩, (.changeReply id 1#8 r.rev)⟩))) ∧
  (∀ (s : State) (e : LineEnd) (h : Header) (id : Byte) (g : Tag) (sd : Side) (d : RecState) (r : Rec),
      (TagOk g) →
      ((s.lineEnd e).state = .locked) →
      (s.FromCar h) →
      (h.dst.toNat = s.consist.ownIdx) →
      (h.dst ≠ 0#8) →
      (s.consist.ownIdx ≤ s.consist.n) →
      ((s.traffic.replies.find? fun x => x.requester = h.src ∧ x.id = id ∧ x.tag = g ∧ x.side = sd ∧ x.desired = d) = none) →
      (s.dir.findHome g sd = some r) →
      (r.perm = .allowed) →
      (∃ t, exec (.changeReq e h id g sd.code d.code) s = .next t ∧
        t.dir.home = s.dir.home.map (fun x => if x.tag = g ∧ x.side = sd then (if r.state = d then x else { r with state := d, rev := stepRevision r.rev }) else x) ∧
        t.traffic.replies = keepReply s.traffic.replies ⟨h.src, id, g, sd, d, .accepted, (if r.state = d then r.rev else stepRevision r.rev)⟩ ∧
        (r.state ≠ d → t.attn.events.remoteChange = some ⟨g, sd, d, h.src⟩) ∧
        (r.state = d → t.attn = s.attn ∧ t.bindings = s.bindings) ∧
        t.roll = s.roll ∧
        t.consist = s.consist ∧
        t.port = s.port ∧
        t.ctrl = s.ctrl)) ∧
  (∀ (s : State) (e out : LineEnd) (h : Header) (id : Byte) (g : Tag) (sd : Side) (d : RecState) (r : Rec),
      (TagOk g) →
      ((s.lineEnd e).state = .locked) →
      (s.FromCar h) →
      (h.dst.toNat = s.consist.ownIdx) →
      (h.dst ≠ 0#8) →
      (s.consist.ownIdx ≤ s.consist.n) →
      (s.Reaches h.srcIdx.toNat out) →
      ((s.traffic.replies.find? fun x => x.requester = h.src ∧ x.id = id ∧ x.tag = g ∧ x.side = sd ∧ x.desired = d) = none) →
      (s.dir.findHome g sd = some r) →
      (r.perm = .allowed) →
      (r.state = d) →
      (exec (.changeReq e h id g sd.code d.code) s =
        .next ((({ s with traffic := { s.traffic with replies := keepReply s.traffic.replies ⟨h.src, id, g, sd, d, .accepted, r.rev⟩ } } : State).heardOn e).queuedDir out ⟨⟨s.consist.ea, s.ownId, byteOf h.srcIdx.toNat, byteOf s.consist.ownIdx⟩, (.changeReply id 0#8 r.rev)⟩))) ∧
  (∀ (s : State) (e out : LineEnd) (h : Header) (id : Byte) (g : Tag) (sd : Side) (d : RecState) (r : Rec),
      (TagOk g) →
      (s.Unbound g) →
      ((s.lineEnd e).state = .locked) →
      (s.FromCar h) →
      (h.dst.toNat = s.consist.ownIdx) →
      (h.dst ≠ 0#8) →
      (s.consist.ownIdx ≤ s.consist.n) →
      (s.Reaches h.srcIdx.toNat out) →
      ((s.traffic.replies.find? fun x => x.requester = h.src ∧ x.id = id ∧ x.tag = g ∧ x.side = sd ∧ x.desired = d) = none) →
      (s.dir.findHome g sd = some r) →
      (r.perm = .allowed) →
      (r.state ≠ d) →
      (exec (.changeReq e h id g sd.code d.code) s =
        .next (((if s.traffic.burst = true ∧ (g, sd) ∈ s.traffic.remainder then (({ s with dir := { s.dir with home := s.dir.home.map fun x => if x.tag = g ∧ x.side = sd then { r with state := d, rev := stepRevision r.rev } else x }, traffic := { s.traffic with replies := keepReply s.traffic.replies ⟨h.src, id, g, sd, d, .accepted, (stepRevision r.rev)⟩ } } : State).raise (Events.raiseRemoteChange ⟨g, sd, d, h.src⟩)) else ((({ s with dir := { s.dir with home := s.dir.home.map fun x => if x.tag = g ∧ x.side = sd then { r with state := d, rev := stepRevision r.rev } else x }, traffic := { s.traffic with replies := keepReply s.traffic.replies ⟨h.src, id, g, sd, d, .accepted, (stepRevision r.rev)⟩ } } : State).raise (Events.raiseRemoteChange ⟨g, sd, d, h.src⟩))).queuedJoined ⟨⟨s.consist.ea, s.ownId, 0#8, byteOf s.consist.ownIdx⟩, .publish (({ r with state := d, rev := stepRevision r.rev } : Rec).toBody)⟩).heardOn e).queuedDir out ⟨⟨s.consist.ea, s.ownId, byteOf h.srcIdx.toNat, byteOf s.consist.ownIdx⟩, (.changeReply id 0#8 (stepRevision r.rev))⟩)))

/-- A CHANGE_REPLY at its destination whose id and source are those of the outstanding change request, with an outcome code in
range, clears it, stops its timer and completes the REQUEST_STATE with the outcome as status and the revision as data; nothing
else changes but the arrival end's loss timer. One that fails a test changes nothing but that timer.
Rests on R113, R158, R159. -/
def Obligations.ChangeReplyReceived : Prop :=
  (∀ (s : State) (e : LineEnd) (h : Header) (o : ChangeOutcome) (rev : Half) (c : ChangeRequest) (f : InFlight),
      ((s.lineEnd e).state = .locked) →
      (s.FromCar h) →
      (h.dst.toNat = s.consist.ownIdx) →
      (h.dst ≠ 0#8) →
      (s.consist.ownIdx ≤ s.consist.n) →
      (s.traffic.change = some c) →
      (c.owner = h.src) →
      (s.port.inFlight = some f) →
      (exec (.changeReply e h c.id o.code rev) s =
        .next ((({ s with traffic := { s.traffic with change := none, changeT := .stopped } } : State).heardOn e).endedWith f.tag (match o with | .accepted => .accepted | .refused => .refused | .noRecord => .noRecord) (be16 rev) false))) ∧
  (∀ (s : State) (e : LineEnd) (h : Header) (id oc : Byte) (rev : Half),
      ((s.lineEnd e).state = .locked) →
      (s.FromCar h) →
      (h.dst.toNat = s.consist.ownIdx) →
      (h.dst ≠ 0#8) →
      (s.consist.ownIdx ≤ s.consist.n) →
      (2#8 < oc ∨ (s.traffic.change.all fun c => !(c.id == id && c.owner == h.src)) = true) →
      (exec (.changeReply e h id oc rev) s =
        .next (s.heardOn e)))

/-- Under port reset a write is ignored; a write of no bytes empties the receive buffer alone; with a command in flight the
overrun flag is set and nothing else changes. Otherwise, in READY and UNIDENTIFIED: a block of fewer than 4 bytes, of a length
field above 512, or of another length than its field says is answered PROTOCOL_ERROR under tag 0; tag 0 INVALID_PARAM; a code
that is no command's UNKNOWN_COMMAND; parameters on a command that takes none, an end code above 1, a mask of other than 2
bytes or with a bit from 9 to 15, a view number of other than 2 bytes, and a disposition that the fault kind does not admit
INVALID_PARAM, and so are parameters of IDENTIFY, RECORD_OFFER, RECORD_UPDATE, RECORD_WITHDRAW, REQUEST_STATE, LOOKUP, BIND
and INTEREST_ADD that are not laid out, field by field and in range, as the last clauses say; a LOOKUP so refused has its
stale flag by the consist state. Nothing else changes. A read in READY gives the bytes of the status block and 00h beyond
them, a read in EMPTY and IN_FLIGHT FFh, and so does any other access byte. That the port's own answer to a block of tag 0 has
its stale flag clear, a LOOKUP's among them, is the model's reading (log entry 17). Each of the 27 host rows is the writing of
its command's block (that a row stands for the whole write transaction is the model's reading, log entry 7).
Rests on R79, R110, R118, R153, R154, R155, R156, R157, R159, R160, R161, R177. -/
def Obligations.CommandBlocksAreJudged : Prop :=
  (∀ (s : State) (i : Instr) (c : Cmd) (tag : Byte) (params : List Byte),
      (i.hostCmd = some (c, tag, params)) →
      (exec i s = exec (.writeTransaction (c.code :: tag :: be16Of params.length ++ params)) s)) ∧
  (∀ (s : State) (bs : List Byte),
      (s.port.resetInput = true) →
      (exec (.writeTransaction bs) s =
        .next (s))) ∧
  (∀ (s : State),
      (s.port.resetInput = false) →
      (exec (.writeTransaction []) s =
        .next ({ s with port := { s.port with rxBuffer := [] } }))) ∧
  (∀ (s : State) (bs : List Byte),
      (s.port.resetInput = false) →
      (bs ≠ []) →
      (s.port.state = .inFlight) →
      (exec (.writeTransaction bs) s =
        .next ({ s with port := { s.port with rxBuffer := [], overrun := true } }))) ∧
  (∀ (s : State) (bs : List Byte),
      (s.CanTake 1#8) →
      (bs ≠ []) →
      (bs.length < 4) →
      (exec (.writeTransaction bs) s =
        .next (s.answered 0#8 .protocolError [] false))) ∧
  (∀ (s : State) (code tag l1 l0 : Byte) (ps : List Byte),
      (s.CanTake 1#8) →
      (512 < l1.toNat * 256 + l0.toNat ∨ ps.length ≠ l1.toNat * 256 + l0.toNat) →
      (exec (.writeTransaction (code :: tag :: l1 :: l0 :: ps)) s =
        .next (s.answered 0#8 .protocolError [] false))) ∧
  (∀ (s : State) (code : Byte) (ps : List Byte),
      (s.CanTake 1#8) →
      (ps.length ≤ 512) →
      (exec (.writeTransaction (code :: 0#8 :: be16Of ps.length ++ ps)) s =
        .next (s.answered 0#8 .invalidParam [] false))) ∧
  (∀ (s : State) (code tag : Byte) (ps : List Byte),
      (s.CanTake tag) →
      (code ∉ [0x01#8, 0x02#8, 0x03#8, 0x04#8, 0x10#8, 0x11#8, 0x12#8, 0x13#8, 0x20#8, 0x21#8, 0x30#8, 0x31#8, 0x32#8, 0x33#8, 0x34#8, 0x40#8, 0x48#8, 0x49#8, 0x4A#8, 0x50#8, 0x51#8, 0x52#8, 0x53#8, 0x60#8, 0x61#8, 0x62#8, 0x63#8]) →
      (tag ≠ 0#8) →
      (ps.length ≤ 512) →
      (exec (.writeTransaction (code :: tag :: be16Of ps.length ++ ps)) s =
        .next (s.answered tag .unknownCommand [] false))) ∧
  (∀ (s : State) (i : Instr) (c : Cmd) (tag : Byte) (ps : List Byte),
      (i.hostCmd = some (c, tag, ps)) →
      (s.CanTake tag) →
      (ps.length ≤ 512) →
      (ps ≠ []) →
      (c = .getInfo ∨ c = .sleep ∨ c = .partReset ∨ c = .lineStatus ∨ c = .consistRead ∨ c = .rollCall ∨ c = .recordList ∨ c = .interestClear ∨ c = .bindingScan ∨ c = .eventRead) →
      (exec (i) s =
        .next (s.answered tag .invalidParam [] false))) ∧
  (∀ (s : State) (i : Instr) (c : Cmd) (tag : Byte) (ps : List Byte),
      (i.hostCmd = some (c, tag, ps)) →
      (s.CanTake tag) →
      (ps.length ≤ 512) →
      (ps ≠ [0#8] ∧ ps ≠ [1#8]) →
      (c = .lineIsolate ∨ c = .lineRestore ∨ c = .lineUnbar ∨ c = .interestAll) →
      (exec (i) s =
        .next (s.answered tag .invalidParam [] false))) ∧
  (∀ (s : State) (tag : Byte) (ps : List Byte),
      (s.CanTake tag) →
      (ps.length ≤ 512) →
      (ps.length ≠ 2 ∨ 2 ≤ (ps.headD 0#8).toNat) →
      (exec (.eventMask tag ps) s =
        .next (s.answered tag .invalidParam [] false))) ∧
  (∀ (s : State) (tag : Byte) (ps : List Byte),
      (s.CanTake tag) →
      (ps.length ≤ 512) →
      (ps.length ≠ 2) →
      (exec (.viewAck tag ps) s =
        .next (s.answered tag .invalidParam [] false))) ∧
  (∀ (s : State) (tag k d : Byte),
      (s.CanTake tag) →
      (5 < k.toNat ∨ 2 < d.toNat ∨ (d = 2#8 ∧ (k = 1#8 ∨ k = 2#8 ∨ k = 3#8))) →
      (exec (.dispositionSet tag [k, d]) s =
        .next (s.answered tag .invalidParam [] false))) ∧
  (∀ (s : State) (i : Instr) (c : Cmd) (tag : Byte) (ps : List Byte),
      (i.hostCmd = some (c, tag, ps)) →
      (s.CanTake tag) →
      (ps.length ≤ 512) →
      ((c = .identify ∧ paramIdentify ps = none) ∨ ((c = .recordOffer ∨ c = .recordUpdate) ∧ paramRecord ps = none) ∨ (c = .recordWithdraw ∧ paramTagSide ps = none) ∨ (c = .interestAdd ∧ paramOnlyTag ps = none) ∨ (c = .requestState ∧ paramRequest ps = none) ∨ (c = .bind ∧ paramQuestion ps = none)) →
      (exec (i) s =
        .next (s.answered tag .invalidParam [] false))) ∧
  (∀ (s : State) (tag : Byte) (ps : List Byte),
      (s.CanTake tag) →
      (ps.length ≤ 512) →
      (paramQuestion ps = none) →
      (exec (.lookup tag ps) s =
        .next (s.answered tag .invalidParam [] s.roll.state.unsettled))) ∧
  (∀ (ps : List Byte) (id : Ident) (c : CabEnd),
      (paramIdentify ps = some (id, c) ↔ id ≠ 0#32 ∧
        id ≠ 0xFFFFFFFF#32 ∧
        ps = be32 id ++ [c.code])) ∧
  (∀ (ps : List Byte) (r : Rec),
      (paramRecord ps = some r ↔ TagOk r.tag ∧
        r.attrs.length ≤ 8 ∧
        r.rev = 1#16 ∧
        ps = tagBytes r.tag ++ [r.side.code, r.state.code] ++ be16 r.addr ++ [r.perm.code, byteOf r.attrs.length] ++ r.attrs)) ∧
  (∀ (ps : List Byte) (g : Tag) (sd : Side),
      (paramTagSide ps = some (g, sd) ↔ TagOk g ∧
        ps = tagBytes g ++ [sd.code])) ∧
  (∀ (ps : List Byte) (g : Tag),
      (paramOnlyTag ps = some g ↔ TagOk g ∧
        ps = tagBytes g)) ∧
  (∀ (ps : List Byte) (id : Ident) (g : Tag) (sd : Side) (d : RecState),
      (paramRequest ps = some (id, g, sd, d) ↔ id ≠ 0#32 ∧
        id ≠ 0xFFFFFFFF#32 ∧
        TagOk g ∧
        ps = be32 id ++ tagBytes g ++ [sd.code, d.code])) ∧
  (∀ (ps : List Byte) (q : Question),
      (paramQuestion ps = some q ↔ TagOk q.tag ∧
        q.sel.ok = true ∧
        ps = tagBytes q.tag ++ [q.filter.code] ++ q.sel.data)) ∧
  (∀ (s : State) (n : Nat) (b : StatusBlock),
      (s.port.resetInput = false) →
      (s.port.state = .ready) →
      (s.port.status = some b) →
      (s.shiftOut 0xC3#8 n = ([(match b.status with | .success => 0x00#8 | .invalidParam => 0x01#8 | .stateError => 0x02#8 | .noSpace => 0x03#8 | .notFound => 0x04#8 | .unknownCommand => 0x05#8 | .protocolError => 0x06#8 | .found => 0x10#8 | .noRecord => 0x11#8 | .notPresent => 0x12#8 | .noAnswer => 0x13#8 | .noConsist => 0x14#8 | .consistChanged => 0x15#8 | .accepted => 0x20#8 | .refused => 0x21#8), b.tag] ++ be16Of b.data.length ++ be16 b.view ++ [byteOf ((if b.attention then 1 else 0) + (if b.overrun then 2 else 0) + (if b.stale then 4 else 0)), match b.consist with | .unformed => 0#8 | .formed => 1#8 | .rolling => 2#8 | .degraded => 3#8] ++ b.data ++ List.replicate n 0#8).take n)) ∧
  (∀ (s : State) (n : Nat),
      (s.port.resetInput = false) →
      (s.port.state ≠ .ready) →
      (s.shiftOut 0xC3#8 n = List.replicate n 0xFF#8)) ∧
  (∀ (s : State) (access : Byte) (n : Nat),
      (s.port.resetInput = false) →
      (access ≠ 0xC3#8) →
      (s.shiftOut access n = List.replicate n 0xFF#8))

/-- GET_INFO gives 25 bytes: identity, configured cab end, part state, start cause, E, Ea, view number, consist state, the numbers
of home records, mirrors and bindings, the product and revision codes; nothing else changes. IDENTIFY in UNIDENTIFIED with
both ends BYPASSED makes the part READY under its identity and cab end, the bypass released, the release timers at 15 ms and
leak timers at 2000 ms, a one-car roster adopted at an increased E; in READY it is STATE_ERROR. SLEEP in READY with each end
OPEN or ISOLATED makes the part DORMANT, both ends BYPASSED and all their timers, the refresh and the roll timer stopped, no
background query, and changes nothing else but the port: no LINE event is raised, since the event set is kept (that this goes
before the general words of R6 is the model's reading, log entry 28); otherwise, in READY and UNIDENTIFIED, it is STATE_ERROR.
PART_RESET is answered SUCCESS with the part as it was, and resets every block but the Car Port, with WAKE for PART_RESET the
one pending event.
Rests on R2, R31, R98, R162, R174, R176, R177, R178, R180, R181. -/
def Obligations.IdentityDormancyAndReset : Prop :=
  (∀ (s : State) (tag : Byte),
      (s.CanTake tag) →
      (exec (.getInfo tag []) s =
        .next (s.answered tag .success (be32 (s.ctrl.identity.getD 0#32) ++ [s.ctrl.cabCfg.code, s.ctrl.part.code, s.ctrl.startCause.code] ++ be32 s.roll.epoch ++ be32 s.consist.ea ++ be16 s.consist.view ++ [s.roll.state.code, byteOf s.dir.home.length] ++ be16Of s.dir.mirrors.length ++ [byteOf (slots.countP fun i => (s.binding i).isSome), 0x08#8, 0x16#8, 0x01#8]) false))) ∧
  (∀ (s : State) (tag : Byte) (id : Ident) (c : CabEnd),
      (s.CanTake tag) →
      (s.ctrl.part = .unidentified) →
      (s.lineA.state = .bypassed) →
      (s.lineB.state = .bypassed) →
      (s.Quiet) →
      (id ≠ 0#32) →
      (id ≠ 0xFFFFFFFF#32) →
      (∃ t, exec (.identify tag (be32 id ++ [c.code])) s = .next t ∧
        t.ctrl = { s.ctrl with part := .ready, identity := some id, cabCfg := c, bypass := false } ∧
        s.AdoptedAlone t ∧
        t.lineA = { s.lineA with releaseT := .running 15, leakT := .running 2000, dirQ := t.lineA.dirQ } ∧
        t.lineB = { s.lineB with releaseT := .running 15, leakT := .running 2000, dirQ := t.lineB.dirQ } ∧
        t.dir.refreshT = .running 500 ∧
        t.Reports tag .success [] ∧
        t.dir.home = s.dir.home ∧
        t.attn.mask = s.attn.mask)) ∧
  (∀ (s : State) (tag : Byte) (id : Ident) (c : CabEnd),
      (s.CanTake tag) →
      (s.ctrl.part = .ready) →
      (id ≠ 0#32) →
      (id ≠ 0xFFFFFFFF#32) →
      (exec (.identify tag (be32 id ++ [c.code])) s =
        .next (s.answered tag .stateError [] false))) ∧
  (∀ (s : State) (tag : Byte),
      (s.CanTake tag) →
      (s.ctrl.part = .ready) →
      (s.lineA.state = .opened ∨ s.lineA.state = .isolated) →
      (s.lineB.state = .opened ∨ s.lineB.state = .isolated) →
      (exec (.sleep tag []) s =
        .next (({ s with ctrl := { s.ctrl with part := .dormant, bypass := true }, lineA := { s.lineA with state := .bypassed, releaseT := .stopped, leakT := .stopped, barFlag := false, lockCount := 0, neighbour := none, ctrlQ := [], dirQ := [], sending := none, settleT := .stopped, lossT := .stopped, beaconT := .stopped }, lineB := { s.lineB with state := .bypassed, releaseT := .stopped, leakT := .stopped, barFlag := false, lockCount := 0, neighbour := none, ctrlQ := [], dirQ := [], sending := none, settleT := .stopped, lossT := .stopped, beaconT := .stopped }, roll := { s.roll with timer := .stopped }, dir := { s.dir with refreshT := .stopped }, bindings := { s.bindings with query := none, timer := .stopped } } : State).answered tag .success [] false))) ∧
  (∀ (s : State) (tag : Byte),
      (s.CanTake tag) →
      (s.ctrl.part = .unidentified ∨ s.lineA.state.maySleep = false ∨ s.lineB.state.maySleep = false) →
      (exec (.sleep tag []) s =
        .next (s.answered tag .stateError [] false))) ∧
  (∀ (s : State) (tag : Byte),
      (s.CanTake tag) →
      (exec (.partReset tag []) s =
        .next ({ State.reset with lineA := { State.reset.lineA with contact := s.lineA.contact }, lineB := { State.reset.lineB with contact := s.lineB.contact }, consist := { State.reset.consist with cabInput := s.consist.cabInput, debounceT := if s.consist.cabInput then .running 20 else .stopped }, freeCount := s.freeCount, pending := s.pending, port := (s.answered tag .success [] false).port, attn := { State.reset.attn with events := { Events.empty with wake := some .partReset, order := [.wake] } }, ctrl := { State.reset.ctrl with startCause := .partReset } })))

/-- LINE_STATUS gives 24 bytes for each end, A first: state, contact, isolation flag, bar flag, lock count, flap count, the
lengths of the two queues, and the neighbour record with its presence byte, or 16 bytes 00h; nothing else changes.
LINE_ISOLATE of an OPEN, SETTLING, HUNTING or BARRED end takes it to ISOLATED with its flag set, everything else of the end
cleared but the flap count, and a LINE event; of a LOCKED end the same, with the roll call of an exit from LOCKED; of a
BYPASSED end it sets the flag; of an ISOLATED end it changes nothing. LINE_RESTORE of an ISOLATED end clears flag and flap
count and takes it to SETTLING with its contact closed and to OPEN with it open, with a LINE event; of another end it clears
the flap count, and of a BYPASSED end the flag too. LINE_UNBAR of an end with its bar flag clear is STATE_ERROR; of a BARRED
end it clears the flag, takes it to LOCKED and starts a roll call; of a HUNTING end with the flag set it clears it and starts
a roll call. Each of the others is SUCCESS without data.
Rests on R6, R22, R24, R25, R26, R27, R30, R31. -/
def Obligations.LineCommandsOfTheHost : Prop :=
  (∀ (s : State) (tag : Byte),
      (s.CanTake tag) →
      (exec (.lineStatus tag []) s =
        .next (s.answered tag .success (([s.lineA.state.code, byteOfBool s.lineA.contact, byteOfBool s.lineA.isolated, byteOfBool s.lineA.barFlag, byteOf s.lineA.lockCount, byteOf s.lineA.flap, byteOf s.lineA.ctrlQ.length, byteOf s.lineA.dirQ.length] ++ (match s.lineA.neighbour with | some n => [1#8] ++ be32 n.ident ++ [n.senderEnd.code] ++ be32 n.ea ++ be32 n.digest ++ [n.consist.code, byteOfBool n.barred] | none => List.replicate 16 0#8)) ++ ([s.lineB.state.code, byteOfBool s.lineB.contact, byteOfBool s.lineB.isolated, byteOfBool s.lineB.barFlag, byteOf s.lineB.lockCount, byteOf s.lineB.flap, byteOf s.lineB.ctrlQ.length, byteOf s.lineB.dirQ.length] ++ (match s.lineB.neighbour with | some n => [1#8] ++ be32 n.ident ++ [n.senderEnd.code] ++ be32 n.ea ++ be32 n.digest ++ [n.consist.code, byteOfBool n.barred] | none => List.replicate 16 0#8))) false))) ∧
  (∀ (s : State) (tag : Byte) (e : LineEnd),
      (s.CanTake tag) →
      ((s.lineEnd e).state = .opened ∨ (s.lineEnd e).state = .settling ∨ (s.lineEnd e).state = .hunting ∨ (s.lineEnd e).state = .barred) →
      (exec (.lineIsolate tag [e.code]) s =
        .next (((s.setEnd e { s.lineEnd e with state := .isolated, isolated := true, barFlag := false, lockCount := 0, neighbour := none, ctrlQ := [], dirQ := [], sending := none, settleT := .stopped, lossT := .stopped, beaconT := .stopped }).raise (Events.raiseLine e (s.lineEnd e).state .isolated)).answered tag .success [] false))) ∧
  (∀ (s : State) (tag : Byte) (e : LineEnd),
      (s.CanTake tag) →
      ((s.lineEnd e).state = .locked) →
      (s.Quiet) →
      (∃ t, exec (.lineIsolate tag [e.code]) s = .next t ∧
        t.lineEnd e = { s.lineEnd e with state := .isolated, isolated := true, barFlag := false, lockCount := 0, neighbour := none, ctrlQ := [], dirQ := [], sending := none, settleT := .stopped, lossT := .stopped, beaconT := .stopped } ∧
        ((s.lineEnd e.other).state = .locked → s.Originated t e.other) ∧
        ((s.lineEnd e.other).state ≠ .locked → s.AdoptedAlone t) ∧
        t.attn.events.has (EventKind.line e) = true ∧
        s.KeepsSettings t ∧
        t.Reports tag .success [])) ∧
  (∀ (s : State) (tag : Byte) (e : LineEnd),
      (s.CanTake tag) →
      ((s.lineEnd e).state = .bypassed ∨ (s.lineEnd e).state = .isolated) →
      ((s.lineEnd e).state = .isolated → (s.lineEnd e).isolated = true) →
      (exec (.lineIsolate tag [e.code]) s =
        .next ((s.setEnd e { s.lineEnd e with isolated := true }).answered tag .success [] false))) ∧
  (∀ (s : State) (tag : Byte) (e : LineEnd),
      (s.CanTake tag) →
      ((s.lineEnd e).state = .isolated) →
      ((s.lineEnd e).contact = true) →
      (exec (.lineRestore tag [e.code]) s =
        .next (((s.setEnd e { s.lineEnd e with flap := 0, isolated := false, state := .settling, ctrlQ := [], dirQ := [], sending := none, settleT := .running 50 }).raise (Events.raiseLine e .isolated .settling)).answered tag .success [] false))) ∧
  (∀ (s : State) (tag : Byte) (e : LineEnd),
      (s.CanTake tag) →
      ((s.lineEnd e).state = .isolated) →
      ((s.lineEnd e).contact = false) →
      (exec (.lineRestore tag [e.code]) s =
        .next (((s.setEnd e { s.lineEnd e with flap := 0, isolated := false, state := .opened, barFlag := false, lockCount := 0, neighbour := none, ctrlQ := [], dirQ := [], sending := none, settleT := .stopped, lossT := .stopped, beaconT := .stopped }).raise (Events.raiseLine e .isolated .opened)).answered tag .success [] false))) ∧
  (∀ (s : State) (tag : Byte) (e : LineEnd),
      (s.CanTake tag) →
      ((s.lineEnd e).state ≠ .isolated) →
      (exec (.lineRestore tag [e.code]) s =
        .next ((s.setEnd e { s.lineEnd e with flap := 0, isolated := if (s.lineEnd e).state = .bypassed then false else (s.lineEnd e).isolated }).answered tag .success [] false))) ∧
  (∀ (s : State) (tag : Byte) (e : LineEnd),
      (s.CanTake tag) →
      ((s.lineEnd e).barFlag = false) →
      (exec (.lineUnbar tag [e.code]) s =
        .next (s.answered tag .stateError [] false))) ∧
  (∀ (s : State) (tag : Byte) (e : LineEnd),
      (s.CanTake tag) →
      ((s.lineEnd e).state = .barred) →
      ((s.lineEnd e).barFlag = true) →
      (s.Quiet) →
      (∃ t, exec (.lineUnbar tag [e.code]) s = .next t ∧
        (t.lineEnd e).state = .locked ∧
        (t.lineEnd e).barFlag = false ∧
        (t.lineEnd e).lossT = (s.lineEnd e).lossT ∧
        ((s.lineEnd e.other).state = .locked → s.Called t) ∧
        ((s.lineEnd e.other).state ≠ .locked → s.Originated t e) ∧
        t.attn.events.has (EventKind.line e) = true ∧
        s.KeepsSettings t ∧
        t.Reports tag .success [])) ∧
  (∀ (s : State) (tag : Byte) (e : LineEnd),
      (s.CanTake tag) →
      ((s.lineEnd e).state = .hunting) →
      ((s.lineEnd e).barFlag = true) →
      ((s.lineEnd e).dirQ = []) →
      (s.Quiet) →
      (∃ t, exec (.lineUnbar tag [e.code]) s = .next t ∧
        t.lineEnd e = { s.lineEnd e with barFlag := false } ∧
        ((s.lineEnd e.other).state = .locked → s.Originated t e.other) ∧
        ((s.lineEnd e.other).state ≠ .locked → s.AdoptedAlone t) ∧
        s.KeepsSettings t ∧
        t.Reports tag .success []))

/-- CONSIST_READ gives the consist state, E, Ea, N, own roster index, D, view number, digest, cab conflict flag and 8 bytes for
each roster entry in roster order: identity, facing, active cab end, train position, alignment; nothing else changes.
ROLL_CALL in UNIDENTIFIED is STATE_ERROR. In READY, with no remote work outstanding, it is a trigger and SUCCESS: with no
joined end a one-car roster is adopted at an increased E; with one a ROLL is originated out of it; with two a CALL is offered
to both. The line ends change in their queues alone, and the host's settings are kept.
Rests on R30, R31, R34, R35, R38, R73. -/
def Obligations.ConsistCommandsOfTheHost : Prop :=
  (∀ (s : State) (tag : Byte),
      (s.CanTake tag) →
      (exec (.consistRead tag []) s =
        .next (s.answered tag .success ([s.roll.state.code] ++ be32 s.roll.epoch ++ be32 s.consist.ea ++ [byteOf s.consist.roster.length, byteOf s.consist.ownIdx, s.consist.dir.code] ++ be16 s.consist.view ++ be32 s.consist.digest ++ [byteOfBool s.consist.conflict] ++ (s.consist.roster.zipIdx 1).flatMap fun p => be32 p.1.ident ++ [p.1.facing.code, p.1.cab.code, byteOf (s.consist.position p.2), byteOfBool (alignedFacing s.consist.dir p.1.facing)]) false))) ∧
  (∀ (s : State) (tag : Byte),
      (s.CanTake tag) →
      (s.ctrl.part = .unidentified) →
      (exec (.rollCall tag []) s =
        .next (s.answered tag .stateError [] false))) ∧
  (∀ (s : State) (tag : Byte),
      (s.CanTake tag) →
      (s.ctrl.part = .ready) →
      (s.Quiet) →
      (∃ t, exec (.rollCall tag []) s = .next t ∧
        (s.lineA.state ≠ .locked → s.lineB.state ≠ .locked → s.AdoptedAlone t) ∧
        (s.lineA.state = .locked → s.lineB.state ≠ .locked → s.Originated t .a) ∧
        (s.lineA.state ≠ .locked → s.lineB.state = .locked → s.Originated t .b) ∧
        (s.lineA.state = .locked → s.lineB.state = .locked → s.Called t) ∧
        t.lineA.SameButQueues s.lineA ∧
        t.lineB.SameButQueues s.lineB ∧
        s.KeepsSettings t ∧
        t.Reports tag .success []))

/-- In READY, for a tag that no binding names, with no binding PENDING: an offer of a key not held, with fewer than 32 home
records and a free slot, puts the record with revision 1 at the tail of the home list, gives its revision and bucket, and
publishes it on every joined end when FORMED with no burst; a held key is INVALID_PARAM, a 33rd record NO_SPACE. An update of
a held key that changes a value takes the new values in place, steps the revision (65535 to 1), gives it and publishes; one
that changes nothing gives the revision and changes nothing; an unknown key is NOT_FOUND. A withdrawal removes the record, the
others keeping their order, and sends WITHDRAW; an unknown key is NOT_FOUND. While the republish burst runs, an offered record
joins the tail of its remainder and is not sent now, a changed record is sent now exactly when the remainder does not hold it,
and a withdrawn one leaves the remainder. With a full directory an offer first removes the least recently used STALE mirror
that no binding pins, or, if there is none, the least recently used that no binding pins, and raises no event. RECORD_LIST
gives the count and the records. INTEREST_ADD sets the filter entry of the tag and gives its number; INTEREST_CLEAR clears all
64; INTEREST_ALL sets the mode. UNIDENTIFIED answers the first three with STATE_ERROR.
Rests on R74, R75, R77, R79, R80, R81, R82, R83, R84, R92, R94, R104. -/
def Obligations.RecordCommandsOfTheHost : Prop :=
  (∀ (s : State) (tag : Byte) (r : Rec),
      (s.CanTake tag) →
      (s.ctrl.part = .ready) →
      (r.Good) →
      (s.Unbound r.tag) →
      (s.dir.findHome r.tag r.side = none) →
      (s.dir.home.length < 32) →
      (s.dir.home.length + s.dir.mirrors.length < 256) →
      (∃ t, exec (.recordOffer tag (tagBytes r.tag ++ [r.side.code, r.state.code] ++ be16 r.addr ++ [r.perm.code, byteOf r.attrs.length] ++ r.attrs)) s = .next t ∧
        t.dir = { s.dir with home := s.dir.home ++ [{ r with rev := 1#16 }] } ∧
        (s.roll.state = .formed → s.traffic.burst = false → t.lineA = (if s.lineA.state = .locked then { s.lineA with dirQ := pushDir s.lineA.dirQ ⟨⟨s.consist.ea, s.ownId, 0#8, byteOf s.consist.ownIdx⟩, .publish (({ r with rev := 1#16 } : Rec).toBody)⟩ } else s.lineA) ∧ t.lineB = (if s.lineB.state = .locked then { s.lineB with dirQ := pushDir s.lineB.dirQ ⟨⟨s.consist.ea, s.ownId, 0#8, byteOf s.consist.ownIdx⟩, .publish (({ r with rev := 1#16 } : Rec).toBody)⟩ } else s.lineB) ∧ t.traffic = s.traffic) ∧ (s.roll.state ≠ .formed → t.lineA = s.lineA ∧ t.lineB = s.lineB ∧ t.traffic = s.traffic) ∧ t.roll = s.roll ∧ t.consist = s.consist ∧ t.bindings = s.bindings ∧ t.resolver = s.resolver ∧ t.attn = s.attn ∧ t.ctrl = s.ctrl ∧ t.Reports tag .success [0#8, 1#8, byteOf (bucketIndex r.tag)])) ∧
  (∀ (s : State) (tag : Byte) (r : Rec),
      (s.CanTake tag) →
      (s.ctrl.part = .ready) →
      (r.Good) →
      (s.dir.findHome r.tag r.side ≠ none) →
      (exec (.recordOffer tag (tagBytes r.tag ++ [r.side.code, r.state.code] ++ be16 r.addr ++ [r.perm.code, byteOf r.attrs.length] ++ r.attrs)) s =
        .next (s.answered tag .invalidParam [] false))) ∧
  (∀ (s : State) (tag : Byte) (r : Rec),
      (s.CanTake tag) →
      (s.ctrl.part = .ready) →
      (r.Good) →
      (s.dir.findHome r.tag r.side = none) →
      (s.dir.home.length = 32) →
      (exec (.recordOffer tag (tagBytes r.tag ++ [r.side.code, r.state.code] ++ be16 r.addr ++ [r.perm.code, byteOf r.attrs.length] ++ r.attrs)) s =
        .next (s.answered tag .noSpace [] false))) ∧
  (∀ (s : State) (tag : Byte) (r : Rec) (old : Rec),
      (s.CanTake tag) →
      (s.ctrl.part = .ready) →
      (r.Good) →
      (s.Unbound r.tag) →
      (s.dir.home.filter (fun x => x.tag = r.tag ∧ x.side = r.side) = [old]) →
      ({ r with rev := old.rev } ≠ old) →
      (∃ t, exec (.recordUpdate tag (tagBytes r.tag ++ [r.side.code, r.state.code] ++ be16 r.addr ++ [r.perm.code, byteOf r.attrs.length] ++ r.attrs)) s = .next t ∧
        t.dir = { s.dir with home := s.dir.home.map fun x => if x.tag = r.tag ∧ x.side = r.side then { r with rev := if old.rev = 0xFFFF#16 then 1#16 else old.rev + 1#16 } else x } ∧
        (s.roll.state = .formed → s.traffic.burst = false → t.lineA = (if s.lineA.state = .locked then { s.lineA with dirQ := pushDir s.lineA.dirQ ⟨⟨s.consist.ea, s.ownId, 0#8, byteOf s.consist.ownIdx⟩, .publish (({ r with rev := if old.rev = 0xFFFF#16 then 1#16 else old.rev + 1#16 } : Rec).toBody)⟩ } else s.lineA) ∧ t.lineB = (if s.lineB.state = .locked then { s.lineB with dirQ := pushDir s.lineB.dirQ ⟨⟨s.consist.ea, s.ownId, 0#8, byteOf s.consist.ownIdx⟩, .publish (({ r with rev := if old.rev = 0xFFFF#16 then 1#16 else old.rev + 1#16 } : Rec).toBody)⟩ } else s.lineB) ∧ t.traffic = s.traffic) ∧ (s.roll.state ≠ .formed → t.lineA = s.lineA ∧ t.lineB = s.lineB ∧ t.traffic = s.traffic) ∧ t.roll = s.roll ∧ t.consist = s.consist ∧ t.bindings = s.bindings ∧ t.resolver = s.resolver ∧ t.attn = s.attn ∧ t.ctrl = s.ctrl ∧ t.Reports tag .success (be16 (if old.rev = 0xFFFF#16 then 1#16 else old.rev + 1#16)))) ∧
  (∀ (s : State) (tag : Byte) (r : Rec),
      (s.CanTake tag) →
      (s.ctrl.part = .ready) →
      (r.Good) →
      (s.dir.findHome r.tag r.side = some r) →
      (exec (.recordUpdate tag (tagBytes r.tag ++ [r.side.code, r.state.code] ++ be16 r.addr ++ [r.perm.code, byteOf r.attrs.length] ++ r.attrs)) s =
        .next (s.answered tag .success (be16 r.rev) false))) ∧
  (∀ (s : State) (tag : Byte) (r : Rec),
      (s.CanTake tag) →
      (s.ctrl.part = .ready) →
      (r.Good) →
      (s.dir.findHome r.tag r.side = none) →
      (exec (.recordUpdate tag (tagBytes r.tag ++ [r.side.code, r.state.code] ++ be16 r.addr ++ [r.perm.code, byteOf r.attrs.length] ++ r.attrs)) s =
        .next (s.answered tag .notFound [] false))) ∧
  (∀ (s : State) (tag : Byte) (r : Rec),
      (s.CanTake tag) →
      (s.ctrl.part = .ready) →
      (r.Good) →
      (s.Unbound r.tag) →
      (s.dir.findHome r.tag r.side ≠ none) →
      (∃ t, exec (.recordWithdraw tag (tagBytes r.tag ++ [r.side.code])) s = .next t ∧
        t.dir = { s.dir with home := s.dir.home.filter fun x => ¬(x.tag = r.tag ∧ x.side = r.side) } ∧
        (s.roll.state = .formed → s.traffic.burst = false → t.lineA = (if s.lineA.state = .locked then { s.lineA with dirQ := pushDir s.lineA.dirQ ⟨⟨s.consist.ea, s.ownId, 0#8, byteOf s.consist.ownIdx⟩, .withdraw r.tag r.side.code⟩ } else s.lineA) ∧ t.lineB = (if s.lineB.state = .locked then { s.lineB with dirQ := pushDir s.lineB.dirQ ⟨⟨s.consist.ea, s.ownId, 0#8, byteOf s.consist.ownIdx⟩, .withdraw r.tag r.side.code⟩ } else s.lineB) ∧ t.traffic = s.traffic) ∧
        (s.roll.state ≠ .formed → t.lineA = s.lineA ∧ t.lineB = s.lineB ∧ t.traffic = s.traffic) ∧
        t.roll = s.roll ∧
        t.consist = s.consist ∧
        t.bindings = s.bindings ∧
        t.resolver = s.resolver ∧
        t.attn = s.attn ∧
        t.ctrl = s.ctrl ∧
        t.Reports tag .success [])) ∧
  (∀ (s : State) (tag : Byte) (r : Rec),
      (s.CanTake tag) →
      (s.ctrl.part = .ready) →
      (r.Good) →
      (s.dir.findHome r.tag r.side = none) →
      (exec (.recordWithdraw tag (tagBytes r.tag ++ [r.side.code])) s =
        .next (s.answered tag .notFound [] false))) ∧
  (∀ (s : State) (tag : Byte) (r : Rec) (i : Instr),
      (s.CanTake tag) →
      (s.ctrl.part = .unidentified) →
      (r.Good) →
      (i = .recordOffer tag (tagBytes r.tag ++ [r.side.code, r.state.code] ++ be16 r.addr ++ [r.perm.code, byteOf r.attrs.length] ++ r.attrs) ∨ i = .recordUpdate tag (tagBytes r.tag ++ [r.side.code, r.state.code] ++ be16 r.addr ++ [r.perm.code, byteOf r.attrs.length] ++ r.attrs) ∨ i = .recordWithdraw tag (tagBytes r.tag ++ [r.side.code])) →
      (exec (i) s =
        .next (s.answered tag .stateError [] false))) ∧
  (∀ (s : State) (tag : Byte),
      (s.CanTake tag) →
      (exec (.recordList tag []) s =
        .next (s.answered tag .success (byteOf s.dir.home.length :: s.dir.home.flatMap fun r => [byteOf (bucketIndex r.tag), byteOf r.tag.length] ++ r.tag ++ [r.side.code, r.state.code] ++ be16 r.addr ++ be16 r.rev ++ [r.perm.code, byteOf r.attrs.length] ++ r.attrs) false))) ∧
  (∀ (s : State) (tag : Byte) (g : Tag),
      (s.CanTake tag) →
      (TagOk g) →
      (exec (.interestAdd tag (tagBytes g)) s =
        .next (({ s with dir := { s.dir with interest := s.dir.interest.setIfInBounds (filterIndex g) true } } : State).answered tag .success [byteOf (filterIndex g)] false))) ∧
  (∀ (s : State) (tag : Byte),
      (s.CanTake tag) →
      (exec (.interestClear tag []) s =
        .next (({ s with dir := { s.dir with interest := Vector.replicate 64 false } } : State).answered tag .success [] false))) ∧
  (∀ (s : State) (tag : Byte) (m : Bool),
      (s.CanTake tag) →
      (exec (.interestAll tag [if m then 1#8 else 0#8]) s =
        .next (({ s with dir := { s.dir with allMode := m } } : State).answered tag .success [] false))) ∧
  (∀ (s : State) (tag : Byte) (r : Rec) (pre post : List Mirror) (v : Mirror),
      (s.CanTake tag) →
      (s.ctrl.part = .ready) →
      (r.Good) →
      (s.Unbound r.tag) →
      (s.Unbound v.body.tag) →
      (s.dir.findHome r.tag r.side = none) →
      (s.dir.home.length < 32) →
      (s.Evicts pre v post) →
      (∃ t, exec (.recordOffer tag (tagBytes r.tag ++ [r.side.code, r.state.code] ++ be16 r.addr ++ [r.perm.code, byteOf r.attrs.length] ++ r.attrs)) s = .next t ∧
        t.dir = { s.dir with home := s.dir.home ++ [{ r with rev := 1#16 }], mirrors := pre ++ post } ∧
        (s.roll.state = .formed → s.traffic.burst = false → t.lineA = (if s.lineA.state = .locked then { s.lineA with dirQ := pushDir s.lineA.dirQ ⟨⟨s.consist.ea, s.ownId, 0#8, byteOf s.consist.ownIdx⟩, .publish (({ r with rev := 1#16 } : Rec).toBody)⟩ } else s.lineA) ∧ t.lineB = (if s.lineB.state = .locked then { s.lineB with dirQ := pushDir s.lineB.dirQ ⟨⟨s.consist.ea, s.ownId, 0#8, byteOf s.consist.ownIdx⟩, .publish (({ r with rev := 1#16 } : Rec).toBody)⟩ } else s.lineB) ∧ t.traffic = s.traffic) ∧ (s.roll.state ≠ .formed → t.lineA = s.lineA ∧ t.lineB = s.lineB ∧ t.traffic = s.traffic) ∧ t.roll = s.roll ∧ t.consist = s.consist ∧ t.bindings = s.bindings ∧ t.resolver = s.resolver ∧ t.attn = s.attn ∧ t.ctrl = s.ctrl ∧ t.Reports tag .success [0#8, 1#8, byteOf (bucketIndex r.tag)])) ∧
  (∀ (s : State) (tag : Byte) (r : Rec),
      (s.CanTake tag) →
      (s.ctrl.part = .ready) →
      (r.Good) →
      (s.Unbound r.tag) →
      (s.roll.state = .formed) →
      (s.traffic.burst = true) →
      (s.dir.findHome r.tag r.side = none) →
      (s.dir.home.length < 32) →
      (s.dir.home.length + s.dir.mirrors.length < 256) →
      (exec (.recordOffer tag (tagBytes r.tag ++ [r.side.code, r.state.code] ++ be16 r.addr ++ [r.perm.code, byteOf r.attrs.length] ++ r.attrs)) s =
        .next (({ s with dir := { s.dir with home := s.dir.home ++ [{ r with rev := 1#16 }] }, traffic := { s.traffic with remainder := s.traffic.remainder ++ [(r.tag, r.side)] } } : State).answered tag .success [0#8, 1#8, byteOf (bucketIndex r.tag)] false))) ∧
  (∀ (s : State) (tag : Byte) (r : Rec) (old : Rec),
      (s.CanTake tag) →
      (s.ctrl.part = .ready) →
      (r.Good) →
      (s.Unbound r.tag) →
      (s.roll.state = .formed) →
      (s.traffic.burst = true) →
      (s.dir.findHome r.tag r.side = some old) →
      ({ r with rev := old.rev } ≠ old) →
      (exec (.recordUpdate tag (tagBytes r.tag ++ [r.side.code, r.state.code] ++ be16 r.addr ++ [r.perm.code, byteOf r.attrs.length] ++ r.attrs)) s =
        .next ((if (r.tag, r.side) ∈ s.traffic.remainder then ({ s with dir := { s.dir with home := s.dir.home.map fun x => if x.tag = r.tag ∧ x.side = r.side then { r with rev := stepRevision old.rev } else x } } : State) else (({ s with dir := { s.dir with home := s.dir.home.map fun x => if x.tag = r.tag ∧ x.side = r.side then { r with rev := stepRevision old.rev } else x } } : State)).queuedJoined ⟨⟨s.consist.ea, s.ownId, 0#8, byteOf s.consist.ownIdx⟩, .publish (({ r with rev := stepRevision old.rev } : Rec).toBody)⟩).answered tag .success (be16 (stepRevision old.rev)) false))) ∧
  (∀ (s : State) (tag : Byte) (r : Rec),
      (s.CanTake tag) →
      (s.ctrl.part = .ready) →
      (r.Good) →
      (s.Unbound r.tag) →
      (s.roll.state = .formed) →
      (s.traffic.burst = true) →
      (s.dir.findHome r.tag r.side ≠ none) →
      (exec (.recordWithdraw tag (tagBytes r.tag ++ [r.side.code])) s =
        .next ((({ s with dir := { s.dir with home := s.dir.home.filter fun x => ¬(x.tag = r.tag ∧ x.side = r.side) }, traffic := { s.traffic with remainder := s.traffic.remainder.filter (· ≠ (r.tag, r.side)), burst := decide (s.traffic.remainder.filter (· ≠ (r.tag, r.side)) ≠ []) } } : State).queuedJoined ⟨⟨s.consist.ea, s.ownId, 0#8, byteOf s.consist.ownIdx⟩, .withdraw r.tag r.side.code⟩).answered tag .success [] false)))

/-- REQUEST_STATE outside FORMED is NO_CONSIST; for an identity not in the roster NOT_PRESENT; for another car, the next request
id is taken, the change request recorded at attempt 1 with its timer at 60 ms, its CHANGE_REQ queued toward the owner, and the
command stays in flight; for the own car a record not held is NO_RECORD with revision 0 and one with permission DENIED is
REFUSED with its revision; one with permission ALLOWED takes the desired state and is ACCEPTED with its revision, which a
change of state has stepped, and a changed record of a tag that no binding names, with no binding PENDING, is published on
every joined end unless the republish burst still has it before it. A REQUEST_STATE or a LOOKUP whose forwarding end is not
joined is in flight all the same, and nothing is queued. LOOKUP in UNFORMED is NO_RECORD for SELF and NO_CONSIST otherwise; a
selector that fixes no car of the roster is NOT_PRESENT; a fixed car with a match is FOUND with that record's 18 bytes and its
attributes as data, the mirror used moving to the most recent end; a fixed car without one is NO_RECORD with its identity,
index and position for the own car and outside FORMED, and otherwise a QUERY under a fresh id is queued toward it, with the
query timer at 60 ms and the command in flight; NEAREST is FOUND with the record of the first car of the nearest order that
has a match, and NO_RECORD with no data when none has.
Rests on R71, R110, R111, R112, R119, R123, R124, R125, R126, R132, R133, R134. -/
def Obligations.RemoteCommandsOfTheHost : Prop :=
  (∀ (s : State) (tag : Byte) (owner : Ident) (g : Tag) (sd : Side) (d : RecState),
      (s.CanTake tag) →
      (TagOk g) →
      (owner ≠ 0#32) →
      (owner ≠ 0xFFFFFFFF#32) →
      (s.roll.state ≠ .formed) →
      (exec (.requestState tag (be32 owner ++ tagBytes g ++ [sd.code, d.code])) s =
        .next (s.answered tag .noConsist [] false))) ∧
  (∀ (s : State) (tag : Byte) (owner : Ident) (g : Tag) (sd : Side) (d : RecState),
      (s.CanTake tag) →
      (TagOk g) →
      (owner ≠ 0#32) →
      (owner ≠ 0xFFFFFFFF#32) →
      (s.roll.state = .formed) →
      (∀ r ∈ s.consist.roster, r.ident ≠ owner) →
      (exec (.requestState tag (be32 owner ++ tagBytes g ++ [sd.code, d.code])) s =
        .next (s.answered tag .notPresent [] false))) ∧
  (∀ (s : State) (tag : Byte) (owner : Ident) (g : Tag) (sd : Side) (d : RecState) (i : Nat) (r : RosterEntry) (out : LineEnd),
      (s.CanTake tag) →
      (TagOk g) →
      (owner ≠ 0#32) →
      (owner ≠ 0xFFFFFFFF#32) →
      (s.roll.state = .formed) →
      (owner ≠ s.ownId) →
      (s.consist.entry i = some r) →
      (r.ident = owner) →
      ((s.consist.roster.map RosterEntry.ident).Nodup) →
      (s.Reaches i out) →
      (exec (.requestState tag (be32 owner ++ tagBytes g ++ [sd.code, d.code])) s =
        .next (((s.setTraffic { s.traffic with reqId := s.traffic.reqId + 1#8, change := some ⟨s.traffic.reqId + 1#8, owner, i, g, sd, d, 1⟩, changeT := .running 60 }).queuedDir out ⟨⟨s.consist.ea, s.ownId, byteOf i, byteOf s.consist.ownIdx⟩, .changeReq (s.traffic.reqId + 1#8) g sd.code d.code⟩).waiting .requestState tag))) ∧
  (∀ (s : State) (tag : Byte) (owner : Ident) (g : Tag) (sd : Side) (d : RecState),
      (s.CanTake tag) →
      (TagOk g) →
      (owner ≠ 0#32) →
      (owner ≠ 0xFFFFFFFF#32) →
      (s.roll.state = .formed) →
      (owner = s.ownId) →
      (∃ r ∈ s.consist.roster, r.ident = owner) →
      (s.dir.findHome g sd = none) →
      (exec (.requestState tag (be32 owner ++ tagBytes g ++ [sd.code, d.code])) s =
        .next (s.answered tag .noRecord [0#8, 0#8] false))) ∧
  (∀ (s : State) (tag : Byte) (owner : Ident) (g : Tag) (sd : Side) (d : RecState) (x : Rec),
      (s.CanTake tag) →
      (TagOk g) →
      (owner ≠ 0#32) →
      (owner ≠ 0xFFFFFFFF#32) →
      (s.roll.state = .formed) →
      (owner = s.ownId) →
      (∃ r ∈ s.consist.roster, r.ident = owner) →
      (s.dir.findHome g sd = some x) →
      (x.perm = .denied) →
      (exec (.requestState tag (be32 owner ++ tagBytes g ++ [sd.code, d.code])) s =
        .next (s.answered tag .refused (be16 x.rev) false))) ∧
  (∀ (s : State) (tag : Byte) (q : Question),
      (s.CanTake tag) →
      (TagOk q.tag) →
      (q.sel.ok = true) →
      (s.Quiet) →
      (s.roll.state = .unformed) →
      (exec (.lookup tag (tagBytes q.tag ++ [q.filter.code] ++ q.sel.data)) s =
        .next (s.answered tag (if q.sel = .self then .noRecord else .noConsist) [] false))) ∧
  (∀ (s : State) (tag : Byte) (q : Question),
      (s.CanTake tag) →
      (TagOk q.tag) →
      (q.sel.ok = true) →
      (s.Quiet) →
      (s.roll.state ≠ .unformed) →
      (q.sel ≠ .nearest) →
      (s.consist.target q.sel = .absent) →
      (exec (.lookup tag (tagBytes q.tag ++ [q.filter.code] ++ q.sel.data)) s =
        .next (s.answered tag .notPresent [] s.roll.state.unsettled))) ∧
  (∀ (s : State) (tag : Byte) (q : Question) (i : Nat) (h : Hit),
      (s.CanTake tag) →
      (TagOk q.tag) →
      (q.sel.ok = true) →
      (s.Quiet) →
      (s.roll.state ≠ .unformed) →
      (q.sel ≠ .nearest) →
      (s.consist.target q.sel = .car i) →
      (s.matchCar i q.tag q.filter = some h) →
      ((s.dir.mirrors.map fun m => (m.owner, m.body.tag, m.body.side)).Nodup) →
      (exec (.lookup tag (tagBytes q.tag ++ [q.filter.code] ++ q.sel.data)) s =
        .next (((match h.source with | .home => s | .mirror => s.setDir { s.dir with mirrors := s.dir.mirrors.filter (fun (m : Mirror) => ¬(m.owner = h.owner ∧ m.body.tag = h.body.tag ∧ m.body.side = h.body.side)) ++ s.dir.mirrors.filter (fun (m : Mirror) => m.owner = h.owner ∧ m.body.tag = h.body.tag ∧ m.body.side = h.body.side) })).answered tag .found ([h.source.code, h.fresh.code] ++ be32 h.owner ++ [byteOf h.index, byteOf (s.consist.position h.index), byteOf (s.consist.hops h.index), h.body.side.code, (trainSide (s.consist.aligned h.index) h.body.side).code, h.body.state.code] ++ be16 h.body.addr ++ be16 h.body.rev ++ [h.body.perm.code, byteOf h.body.attrs.length] ++ h.body.attrs) (s.roll.state.unsettled || decide (h.fresh = Freshness.stale))))) ∧
  (∀ (s : State) (tag : Byte) (q : Question) (i : Nat) (r : RosterEntry),
      (s.CanTake tag) →
      (TagOk q.tag) →
      (q.sel.ok = true) →
      (s.Quiet) →
      (s.roll.state ≠ .unformed) →
      (q.sel ≠ .nearest) →
      (s.consist.target q.sel = .car i) →
      (s.consist.entry i = some r) →
      (s.matchCar i q.tag q.filter = none) →
      (r.ident = s.ownId ∨ s.roll.state ≠ .formed) →
      (exec (.lookup tag (tagBytes q.tag ++ [q.filter.code] ++ q.sel.data)) s =
        .next (s.answered tag .noRecord (be32 r.ident ++ [byteOf i, byteOf (s.consist.position i)]) s.roll.state.unsettled))) ∧
  (∀ (s : State) (tag : Byte) (q : Question) (i : Nat) (r : RosterEntry) (id : Byte) (out : LineEnd),
      (s.CanTake tag) →
      (TagOk q.tag) →
      (q.sel.ok = true) →
      (s.Quiet) →
      (s.roll.state = .formed) →
      (q.sel ≠ .nearest) →
      (s.consist.target q.sel = .car i) →
      (s.consist.entry i = some r) →
      (s.matchCar i q.tag q.filter = none) →
      (r.ident ≠ s.ownId) →
      (s.Reaches i out) →
      (id = (if s.bindings.query.map BackgroundQuery.id = some (s.traffic.queryId + 1#8) then s.traffic.queryId + 2#8 else s.traffic.queryId + 1#8)) →
      (exec (.lookup tag (tagBytes q.tag ++ [q.filter.code] ++ q.sel.data)) s =
        .next (((((s : State).setTraffic { s.traffic with queryId := id }).setResolver ⟨some ⟨id, r.ident, i, q.tag, q.filter, 1⟩, .running 60⟩).queuedDir out ⟨⟨s.consist.ea, s.ownId, byteOf i, byteOf s.consist.ownIdx⟩, .query id q.tag⟩).waiting .lookup tag))) ∧
  (∀ (s : State) (tag : Byte) (g : Tag) (f : SideFilter) (i : Nat) (h : Hit),
      (s.CanTake tag) →
      (TagOk g) →
      (s.Quiet) →
      (s.roll.state ≠ .unformed) →
      (s.consist.nearest.find? (fun j => (s.matchCar j g f).isSome) = some i) →
      (s.matchCar i g f = some h) →
      ((s.dir.mirrors.map fun m => (m.owner, m.body.tag, m.body.side)).Nodup) →
      (exec (.lookup tag (tagBytes g ++ [f.code, 4#8])) s =
        .next (((match h.source with | .home => s | .mirror => s.setDir { s.dir with mirrors := s.dir.mirrors.filter (fun (m : Mirror) => ¬(m.owner = h.owner ∧ m.body.tag = h.body.tag ∧ m.body.side = h.body.side)) ++ s.dir.mirrors.filter (fun (m : Mirror) => m.owner = h.owner ∧ m.body.tag = h.body.tag ∧ m.body.side = h.body.side) })).answered tag .found ([h.source.code, h.fresh.code] ++ be32 h.owner ++ [byteOf h.index, byteOf (s.consist.position h.index), byteOf (s.consist.hops h.index), h.body.side.code, (trainSide (s.consist.aligned h.index) h.body.side).code, h.body.state.code] ++ be16 h.body.addr ++ be16 h.body.rev ++ [h.body.perm.code, byteOf h.body.attrs.length] ++ h.body.attrs) (s.roll.state.unsettled || decide (h.fresh = Freshness.stale))))) ∧
  (∀ (s : State) (tag : Byte) (g : Tag) (f : SideFilter),
      (s.CanTake tag) →
      (TagOk g) →
      (s.Quiet) →
      (s.roll.state ≠ .unformed) →
      (s.consist.nearest.find? (fun j => (s.matchCar j g f).isSome) = none) →
      (exec (.lookup tag (tagBytes g ++ [f.code, 4#8])) s =
        .next (s.answered tag .noRecord [] s.roll.state.unsettled))) ∧
  (∀ (s : State) (tag : Byte) (owner : Ident) (g : Tag) (sd : Side) (d : RecState) (x : Rec),
      (s.CanTake tag) →
      (TagOk g) →
      (owner ≠ 0#32) →
      (owner ≠ 0xFFFFFFFF#32) →
      (s.roll.state = .formed) →
      (owner = s.ownId) →
      (∃ r ∈ s.consist.roster, r.ident = owner) →
      (s.dir.findHome g sd = some x) →
      (x.perm = .allowed) →
      (x.state = d) →
      (exec (.requestState tag (be32 owner ++ tagBytes g ++ [sd.code, d.code])) s =
        .next (s.answered tag .accepted (be16 x.rev) false))) ∧
  (∀ (s : State) (tag : Byte) (owner : Ident) (g : Tag) (sd : Side) (d : RecState) (x : Rec),
      (s.CanTake tag) →
      (TagOk g) →
      (owner ≠ 0#32) →
      (owner ≠ 0xFFFFFFFF#32) →
      (s.Unbound g) →
      (s.roll.state = .formed) →
      (owner = s.ownId) →
      (∃ r ∈ s.consist.roster, r.ident = owner) →
      (s.dir.findHome g sd = some x) →
      (x.perm = .allowed) →
      (x.state ≠ d) →
      (exec (.requestState tag (be32 owner ++ tagBytes g ++ [sd.code, d.code])) s =
        .next ((if s.traffic.burst = true ∧ (g, sd) ∈ s.traffic.remainder then ({ s with dir := { s.dir with home := s.dir.home.map fun y => if y.tag = g ∧ y.side = sd then { x with state := d, rev := stepRevision x.rev } else y } } : State) else (({ s with dir := { s.dir with home := s.dir.home.map fun y => if y.tag = g ∧ y.side = sd then { x with state := d, rev := stepRevision x.rev } else y } } : State)).queuedJoined ⟨⟨s.consist.ea, s.ownId, 0#8, byteOf s.consist.ownIdx⟩, .publish (({ x with state := d, rev := stepRevision x.rev } : Rec).toBody)⟩).answered tag .accepted (be16 (stepRevision x.rev)) false))) ∧
  (∀ (s : State) (tag : Byte) (owner : Ident) (g : Tag) (sd : Side) (d : RecState) (i : Nat) (r : RosterEntry),
      (s.CanTake tag) →
      (TagOk g) →
      (owner ≠ 0#32) →
      (owner ≠ 0xFFFFFFFF#32) →
      (s.roll.state = .formed) →
      (owner ≠ s.ownId) →
      (s.consist.entry i = some r) →
      (r.ident = owner) →
      ((s.consist.roster.map RosterEntry.ident).Nodup) →
      (∀ out ∈ s.consist.forwardEnd i, (s.lineEnd out).state ≠ .locked) →
      (exec (.requestState tag (be32 owner ++ tagBytes g ++ [sd.code, d.code])) s =
        .next ((s.setTraffic { s.traffic with reqId := s.traffic.reqId + 1#8, change := some ⟨s.traffic.reqId + 1#8, owner, i, g, sd, d, 1⟩, changeT := .running 60 }).waiting .requestState tag))) ∧
  (∀ (s : State) (tag : Byte) (q : Question) (i : Nat) (r : RosterEntry) (id : Byte),
      (s.CanTake tag) →
      (TagOk q.tag) →
      (q.sel.ok = true) →
      (s.Quiet) →
      (s.roll.state = .formed) →
      (q.sel ≠ .nearest) →
      (s.consist.target q.sel = .car i) →
      (s.consist.entry i = some r) →
      (s.matchCar i q.tag q.filter = none) →
      (r.ident ≠ s.ownId) →
      (∀ out ∈ s.consist.forwardEnd i, (s.lineEnd out).state ≠ .locked) →
      (id = (if s.bindings.query.map BackgroundQuery.id = some (s.traffic.queryId + 1#8) then s.traffic.queryId + 2#8 else s.traffic.queryId + 1#8)) →
      (exec (.lookup tag (tagBytes q.tag ++ [q.filter.code] ++ q.sel.data)) s =
        .next ((((s : State).setTraffic { s.traffic with queryId := id }).setResolver ⟨some ⟨id, r.ident, i, q.tag, q.filter, 1⟩, .running 60⟩).waiting .lookup tag)))

/-- BIND with no free handle is NO_SPACE. It takes the lowest free handle: for a selector that fixes no car the binding is
UNRESOLVED with reason NOT_PRESENT; for SELF with a match it is RESOLVED with the home record as the train stands, in FORMED
without the stale flag; the changed mark is clear, SUCCESS gives the binding record, and the other handles and everything else
but the port are as they were. For a remote car without a match, in FORMED, the handle is reserved with the question, a QUERY
under a fresh id is queued if the forwarding end is joined, and the command stays in flight. UNBIND frees a handle that no
background query serves, and lowers the pin count of the mirror it rested on, if any; a handle without a binding is NOT_FOUND.
BINDING_GET gives the binding record with the binding's stale flag, NOT_FOUND for a handle without one; a handle outside 1 to
32 is INVALID_PARAM. BINDING_SCAN gives the number and the handles of the marked bindings in ascending order and clears their
marks. The bytes of a binding record are its handle, tag, side filter, selector with its value, state and reason, the 16 bytes
of its answer with the freshness and pin count of a mirror held under its key, 00h each when it has no answer, and its stale
flag and changed mark.
Rests on R135, R136, R137, R138, R139, R140, R141, R142, R149. -/
def Obligations.BindingCommandsOfTheHost : Prop :=
  (∀ (s : State) (tag : Byte) (q : Question),
      (s.CanTake tag) →
      (TagOk q.tag) →
      (q.sel.ok = true) →
      (s.firstSlot HandleSlot.isFree = none) →
      (exec (.bind tag (tagBytes q.tag ++ [q.filter.code] ++ q.sel.data)) s =
        .next (s.answered tag .noSpace [] false))) ∧
  (∀ (s : State) (tag : Byte) (q : Question) (i : Nat),
      (s.CanTake tag) →
      (TagOk q.tag) →
      (q.sel.ok = true) →
      (s.Quiet) →
      (s.firstSlot HandleSlot.isFree = some i) →
      (s.roll.state ≠ .unformed) →
      (q.sel ≠ .nearest) →
      (s.consist.target q.sel = .absent) →
      (∃ t, exec (.bind tag (tagBytes q.tag ++ [q.filter.code] ++ q.sel.data)) s = .next t ∧
        t.slot i = .held ⟨q, .unresolved .notPresent, s.roll.state.unsettled, false⟩ ∧
        (∀ j ∈ slots, j ≠ i → t.slot j = s.slot j) ∧
        t.Reports tag .success (t.bindingData i ⟨q, .unresolved .notPresent, s.roll.state.unsettled, false⟩) ∧
        t.dir = s.dir ∧
        t.roll = s.roll ∧
        t.consist = s.consist ∧
        t.attn = s.attn ∧
        t.ctrl = s.ctrl ∧
        t.lineA = s.lineA ∧
        t.lineB = s.lineB ∧
        t.traffic = s.traffic)) ∧
  (∀ (s : State) (tag : Byte) (g : Tag) (f : SideFilter) (i : Nat) (x : Rec),
      (s.CanTake tag) →
      (TagOk g) →
      (s.Quiet) →
      (s.firstSlot HandleSlot.isFree = some i) →
      (s.roll.state = .formed) →
      (s.matchCar s.consist.ownIdx g f = some ⟨.home, .current, s.consist.ownIdx, s.ownId, x⟩) →
      (∃ t, exec (.bind tag (tagBytes g ++ [f.code, 2#8])) s = .next t ∧
        t.slot i = .held ⟨⟨g, f, .self⟩, .resolved ⟨.home, s.ownId, x.side, trainSide (s.consist.aligned s.consist.ownIdx) x.side, s.consist.position s.consist.ownIdx, s.consist.ownIdx, x.addr, x.state, x.rev⟩, false, false⟩ ∧
        (∀ j ∈ slots, j ≠ i → t.slot j = s.slot j) ∧
        t.Reports tag .success (t.bindingData i ⟨⟨g, f, .self⟩, .resolved ⟨.home, s.ownId, x.side, trainSide (s.consist.aligned s.consist.ownIdx) x.side, s.consist.position s.consist.ownIdx, s.consist.ownIdx, x.addr, x.state, x.rev⟩, false, false⟩) ∧
        t.dir = s.dir ∧
        t.roll = s.roll ∧
        t.consist = s.consist ∧
        t.attn = s.attn ∧
        t.ctrl = s.ctrl ∧
        t.lineA = s.lineA ∧
        t.lineB = s.lineB ∧
        t.traffic = s.traffic)) ∧
  (∀ (s : State) (tag : Byte) (q : Question) (n i : Nat) (r : RosterEntry) (id : Byte) (out : LineEnd),
      (s.CanTake tag) →
      (TagOk q.tag) →
      (q.sel.ok = true) →
      (s.Quiet) →
      (s.firstSlot HandleSlot.isFree = some n) →
      (s.roll.state = .formed) →
      (q.sel ≠ .nearest) →
      (s.consist.target q.sel = .car i) →
      (s.consist.entry i = some r) →
      (s.matchCar i q.tag q.filter = none) →
      (r.ident ≠ s.ownId) →
      (s.Reaches i out) →
      (id = (if s.bindings.query.map BackgroundQuery.id = some (s.traffic.queryId + 1#8) then s.traffic.queryId + 2#8 else s.traffic.queryId + 1#8)) →
      (exec (.bind tag (tagBytes q.tag ++ [q.filter.code] ++ q.sel.data)) s =
        .next ((((((s.setSlot n (.reserved q)) : State).setTraffic { s.traffic with queryId := id }).setResolver ⟨some ⟨id, r.ident, i, q.tag, q.filter, 1⟩, .running 60⟩).queuedDir out ⟨⟨s.consist.ea, s.ownId, byteOf i, byteOf s.consist.ownIdx⟩, .query id q.tag⟩).waiting .bind tag))) ∧
  (∀ (s : State) (tag : Byte) (i : Nat) (b : Binding),
      (s.CanTake tag) →
      (i < 32) →
      (s.binding i = some b) →
      (s.bindings.query.map BackgroundQuery.slot ≠ some i) →
      (∃ t, exec (.unbind tag [byteOf (i + 1)]) s = .next t ∧
        t.slot i = .free ∧
        (∀ j ∈ slots, j ≠ i → t.slot j = s.slot j) ∧
        t.bindings.query = s.bindings.query ∧
        t.dir = { s.dir with mirrors := s.dir.mirrors.map fun m => if b.st.mirrorKey b.question.tag = some (m.owner, m.body.tag, m.body.side) then { m with pins := m.pins - 1 } else m } ∧
        t.Reports tag .success [] ∧
        t.roll = s.roll ∧
        t.consist = s.consist ∧
        t.attn = s.attn ∧
        t.ctrl = s.ctrl ∧
        t.lineA = s.lineA ∧
        t.lineB = s.lineB ∧
        t.traffic = s.traffic)) ∧
  (∀ (s : State) (tag : Byte) (i : Nat) (c : Instr),
      (s.CanTake tag) →
      (i < 32) →
      (s.binding i = none) →
      (c = .unbind tag [byteOf (i + 1)] ∨ c = .bindingGet tag [byteOf (i + 1)]) →
      (exec (c) s =
        .next (s.answered tag .notFound [] false))) ∧
  (∀ (s : State) (tag h : Byte) (c : Instr),
      (s.CanTake tag) →
      (h = 0#8 ∨ 32 < h.toNat) →
      (c = .unbind tag [h] ∨ c = .bindingGet tag [h]) →
      (exec (c) s =
        .next (s.answered tag .invalidParam [] false))) ∧
  (∀ (s : State) (tag : Byte) (i : Nat) (b : Binding),
      (s.CanTake tag) →
      (i < 32) →
      (s.binding i = some b) →
      (exec (.bindingGet tag [byteOf (i + 1)]) s =
        .next (s.answered tag .success (s.bindingData i b) b.stale))) ∧
  (∀ (s : State) (tag : Byte),
      (s.CanTake tag) →
      (∃ t, exec (.bindingScan tag []) s = .next t ∧
        t.Reports tag .success (byteOf (slots.filter s.isChanged).length :: (slots.filter s.isChanged).map fun i => byteOf (i + 1)) ∧
        (∀ i ∈ slots, t.slot i = match s.slot i with | .held b => .held { b with changed := false } | .reserved q => .reserved q | .free => .free) ∧
        t.bindings.query = s.bindings.query ∧
        t.dir = s.dir ∧
        t.roll = s.roll ∧
        t.consist = s.consist ∧
        t.attn = s.attn ∧
        t.ctrl = s.ctrl ∧
        t.lineA = s.lineA ∧
        t.lineB = s.lineB ∧
        t.traffic = s.traffic)) ∧
  (∀ (s : State) (i : Nat) (b : Binding) (a : Answer),
      (b.st = .resolved a) →
      (s.bindingData i b = [byteOf (i + 1), byteOf b.question.tag.length] ++ b.question.tag ++ [b.question.filter.code] ++ (match b.question.sel with | .front k => [0#8, byteOf k] | .rear k => [1#8, byteOf k] | .self => [2#8] | .car id => 3#8 :: be32 id | .nearest => [4#8]) ++ [0#8, 0#8] ++ [match a.source with | .home => 0#8 | .mirror => 1#8] ++ be32 a.owner ++ [a.carSide.code, a.trainSide.code, byteOf a.position, byteOf a.index] ++ be16 a.addr ++ [a.state.code] ++ be16 a.rev ++ (match a.source with | .home => [0#8, 0#8] | .mirror => match s.dir.findMirror a.owner b.question.tag a.carSide with | some m => [if m.fresh = .stale then 1#8 else 0#8, byteOf m.pins] | none => [0#8, 0#8]) ++ [if b.stale then 1#8 else 0#8, if b.changed then 1#8 else 0#8])) ∧
  (∀ (s : State) (i : Nat) (b : Binding) (r : Reason),
      (b.st = .unresolved r) →
      (s.bindingData i b = [byteOf (i + 1), byteOf b.question.tag.length] ++ b.question.tag ++ [b.question.filter.code] ++ (match b.question.sel with | .front k => [0#8, byteOf k] | .rear k => [1#8, byteOf k] | .self => [2#8] | .car id => 3#8 :: be32 id | .nearest => [4#8]) ++ [1#8, match r with | .noRecord => 0x11#8 | .notPresent => 0x12#8 | .noAnswer => 0x13#8 | .noConsist => 0x14#8] ++ List.replicate 16 0#8 ++ [if b.stale then 1#8 else 0#8, if b.changed then 1#8 else 0#8])) ∧
  (∀ (s : State) (i : Nat) (b : Binding),
      (b.st = .pending) →
      (s.bindingData i b = [byteOf (i + 1), byteOf b.question.tag.length] ++ b.question.tag ++ [b.question.filter.code] ++ (match b.question.sel with | .front k => [0#8, byteOf k] | .rear k => [1#8, byteOf k] | .self => [2#8] | .car id => 3#8 :: be32 id | .nearest => [4#8]) ++ [2#8, 0#8] ++ List.replicate 16 0#8 ++ [if b.stale then 1#8 else 0#8, if b.changed then 1#8 else 0#8])) ∧
  (∀ (s : State) (tag : Byte) (q : Question) (n i : Nat) (r : RosterEntry) (id : Byte),
      (s.CanTake tag) →
      (TagOk q.tag) →
      (q.sel.ok = true) →
      (s.Quiet) →
      (s.firstSlot HandleSlot.isFree = some n) →
      (s.roll.state = .formed) →
      (q.sel ≠ .nearest) →
      (s.consist.target q.sel = .car i) →
      (s.consist.entry i = some r) →
      (s.matchCar i q.tag q.filter = none) →
      (r.ident ≠ s.ownId) →
      (∀ out ∈ s.consist.forwardEnd i, (s.lineEnd out).state ≠ .locked) →
      (id = (if s.bindings.query.map BackgroundQuery.id = some (s.traffic.queryId + 1#8) then s.traffic.queryId + 2#8 else s.traffic.queryId + 1#8)) →
      (exec (.bind tag (tagBytes q.tag ++ [q.filter.code] ++ q.sel.data)) s =
        .next (((((s.setSlot n (.reserved q)) : State).setTraffic { s.traffic with queryId := id }).setResolver ⟨some ⟨id, r.ident, i, q.tag, q.filter, 1⟩, .running 60⟩).waiting .bind tag)))

/-- EVENT_READ with no event of an unmasked kind pending is SUCCESS without data. Otherwise it gives the kind and data of the
event of the highest priority, among equals the one pending longest; the event is removed, the others keeping their order,
unless it is a CONSIST_VIEW. EVENT_MASK replaces the mask. VIEW_ACK gives the view number, and removes a pending CONSIST_VIEW
exactly when the number given is the present one. The data of each kind are laid out as the last clause says, the kind first.
DISPOSITION_SET replaces one entry of the table, for every kind and every disposition that the kind admits. Nothing else
changes, and the status block's attention flag is that of the event set and mask as they stand after the command (for a
removal the model's reading, log entry 11).
Rests on R164, R166, R167, R168, R169, R170, R173. -/
def Obligations.AttentionCommandsOfTheHost : Prop :=
  (∀ (s : State) (tag : Byte),
      (s.CanTake tag) →
      (∀ k ∈ EventKind.all, s.attn.visible k = false) →
      (exec (.eventRead tag []) s =
        .next (s.answered tag .success [] false))) ∧
  (∀ (s : State) (tag : Byte) (k : EventKind),
      (s.CanTake tag) →
      (s.attn.events.Ok) →
      (s.attn.visible k = true) →
      (∀ j ∈ EventKind.all, s.attn.visible j = true → k.priority < j.priority ∨ (k.priority = j.priority ∧ s.attn.events.order.idxOf k ≤ s.attn.events.order.idxOf j)) →
      (exec (.eventRead tag []) s =
        .next ((if k = .consistView then s else s.raise (Events.remove k)).answered tag .success (s.attn.events.data k) false))) ∧
  (∀ (s : State) (tag : Byte) (m : BitVec 9),
      (s.CanTake tag) →
      (exec (.eventMask tag (be16 (m.setWidth 16))) s =
        .next (({ s with attn := { s.attn with mask := m } } : State).answered tag .success [] false))) ∧
  (∀ (s : State) (tag : Byte) (v : Half),
      (s.CanTake tag) →
      (exec (.viewAck tag (be16 v)) s =
        .next ((if v = s.consist.view then { s with attn := { s.attn with events := { s.attn.events with view := none, order := s.attn.events.order.filter (· ≠ .consistView) } } } else s : State).answered tag .success (be16 s.consist.view) false))) ∧
  (∀ (s : State) (tag : Byte) (e : LineEnd) (d : Disposition),
      (s.CanTake tag) →
      (exec (.dispositionSet tag [if e = .a then 4#8 else 5#8, match d with | .report => 0#8 | .silent => 1#8 | .isolate => 2#8]) s =
        .next (({ s with attn := { s.attn with disp := match e with | .a => { s.attn.disp with flapA := d } | .b => { s.attn.disp with flapB := d } } } : State).answered tag .success [] false))) ∧
  (∀ (s : State) (tag : Byte) (d : Disposition),
      (s.CanTake tag) →
      (exec (.dispositionSet tag [0#8, match d with | .report => 0#8 | .silent => 1#8 | .isolate => 2#8]) s =
        .next (({ s with attn := { s.attn with disp := { s.attn.disp with duplicateId := d } } } : State).answered tag .success [] false))) ∧
  (∀ (s : State) (tag : Byte) (d : Bool),
      (s.CanTake tag) →
      (exec (.dispositionSet tag [1#8, if d then 1#8 else 0#8]) s =
        .next (({ s with attn := { s.attn with disp := { s.attn.disp with overlength := if d then .silent else .report } } } : State).answered tag .success [] false))) ∧
  (∀ (s : State) (tag : Byte) (d : Bool),
      (s.CanTake tag) →
      (exec (.dispositionSet tag [2#8, if d then 1#8 else 0#8]) s =
        .next (({ s with attn := { s.attn with disp := { s.attn.disp with rollFailed := if d then .silent else .report } } } : State).answered tag .success [] false))) ∧
  (∀ (s : State) (tag : Byte) (d : Bool),
      (s.CanTake tag) →
      (exec (.dispositionSet tag [3#8, if d then 1#8 else 0#8]) s =
        .next (({ s with attn := { s.attn with disp := { s.attn.disp with cabConflict := if d then .silent else .report } } } : State).answered tag .success [] false))) ∧
  (∀ (ev : Events),
      ((∀ f, ev.fault = some f → ev.data .fault = [1#8, f.setWidth 8]) ∧
        (∀ x y, ev.lineA = some (x, y) → ev.data .lineA = [2#8, x.code, y.code]) ∧
        (∀ x y, ev.lineB = some (x, y) → ev.data .lineB = [3#8, x.code, y.code]) ∧
        (∀ c, ev.unsettled = some c → ev.data .consistUnsettled = [4#8, c.code]) ∧
        (∀ v, ev.view = some v → ev.data .consistView = [5#8] ++ be16 v.view ++ [if v.dir = .far then 1#8 else 0#8, byteOf v.n]) ∧
        ev.data .bindingChanged = [6#8] ∧
        (∀ d, ev.remoteChange = some d → ev.data .remoteChange = [7#8, byteOf d.tag.length] ++ d.tag ++ [d.side.code, d.state.code] ++ be32 d.requester) ∧
        (∀ g, ev.directoryFull = some g → ev.data .directoryFull = [8#8, byteOf g.length] ++ g) ∧
        (∀ c, ev.wake = some c → ev.data .wake = [9#8, c.code])))
end

