-- ==== Sys2Proof/Laws/State.lean ====
section
/-! SUPPORT. One lemma for each field of the state under each update of it, true by unfolding once, so that no later proof unfolds a
record update. -/

namespace Sys2Proof.Machine

/-! ## setRoll -/

@[simp] theorem State.setRoll_lineA (s : State) (x : RollCall) : (s.setRoll x).lineA = s.lineA := rfl
@[simp] theorem State.setRoll_lineB (s : State) (x : RollCall) : (s.setRoll x).lineB = s.lineB := rfl
@[simp] theorem State.setRoll_roll (s : State) (x : RollCall) : (s.setRoll x).roll = x := rfl
@[simp] theorem State.setRoll_consist (s : State) (x : RollCall) : (s.setRoll x).consist = s.consist := rfl
@[simp] theorem State.setRoll_dir (s : State) (x : RollCall) : (s.setRoll x).dir = s.dir := rfl
@[simp] theorem State.setRoll_traffic (s : State) (x : RollCall) : (s.setRoll x).traffic = s.traffic := rfl
@[simp] theorem State.setRoll_resolver (s : State) (x : RollCall) : (s.setRoll x).resolver = s.resolver := rfl
@[simp] theorem State.setRoll_bindings (s : State) (x : RollCall) : (s.setRoll x).bindings = s.bindings := rfl
@[simp] theorem State.setRoll_port (s : State) (x : RollCall) : (s.setRoll x).port = s.port := rfl
@[simp] theorem State.setRoll_attn (s : State) (x : RollCall) : (s.setRoll x).attn = s.attn := rfl
@[simp] theorem State.setRoll_ctrl (s : State) (x : RollCall) : (s.setRoll x).ctrl = s.ctrl := rfl
@[simp] theorem State.setRoll_freeCount (s : State) (x : RollCall) : (s.setRoll x).freeCount = s.freeCount := rfl
@[simp] theorem State.setRoll_pending (s : State) (x : RollCall) : (s.setRoll x).pending = s.pending := rfl
@[simp] theorem State.setRoll_lineEnd (s : State) (x : RollCall) (e : LineEnd) : (s.setRoll x).lineEnd e = s.lineEnd e := by
  cases e <;> rfl

/-! ## setConsist -/

@[simp] theorem State.setConsist_lineA (s : State) (x : ConsistTable) : (s.setConsist x).lineA = s.lineA := rfl
@[simp] theorem State.setConsist_lineB (s : State) (x : ConsistTable) : (s.setConsist x).lineB = s.lineB := rfl
@[simp] theorem State.setConsist_roll (s : State) (x : ConsistTable) : (s.setConsist x).roll = s.roll := rfl
@[simp] theorem State.setConsist_consist (s : State) (x : ConsistTable) : (s.setConsist x).consist = x := rfl
@[simp] theorem State.setConsist_dir (s : State) (x : ConsistTable) : (s.setConsist x).dir = s.dir := rfl
@[simp] theorem State.setConsist_traffic (s : State) (x : ConsistTable) : (s.setConsist x).traffic = s.traffic := rfl
@[simp] theorem State.setConsist_resolver (s : State) (x : ConsistTable) : (s.setConsist x).resolver = s.resolver := rfl
@[simp] theorem State.setConsist_bindings (s : State) (x : ConsistTable) : (s.setConsist x).bindings = s.bindings := rfl
@[simp] theorem State.setConsist_port (s : State) (x : ConsistTable) : (s.setConsist x).port = s.port := rfl
@[simp] theorem State.setConsist_attn (s : State) (x : ConsistTable) : (s.setConsist x).attn = s.attn := rfl
@[simp] theorem State.setConsist_ctrl (s : State) (x : ConsistTable) : (s.setConsist x).ctrl = s.ctrl := rfl
@[simp] theorem State.setConsist_freeCount (s : State) (x : ConsistTable) : (s.setConsist x).freeCount = s.freeCount := rfl
@[simp] theorem State.setConsist_pending (s : State) (x : ConsistTable) : (s.setConsist x).pending = s.pending := rfl
@[simp] theorem State.setConsist_lineEnd (s : State) (x : ConsistTable) (e : LineEnd) : (s.setConsist x).lineEnd e = s.lineEnd e := by
  cases e <;> rfl

/-! ## setDir -/

@[simp] theorem State.setDir_lineA (s : State) (x : Directory) : (s.setDir x).lineA = s.lineA := rfl
@[simp] theorem State.setDir_lineB (s : State) (x : Directory) : (s.setDir x).lineB = s.lineB := rfl
@[simp] theorem State.setDir_roll (s : State) (x : Directory) : (s.setDir x).roll = s.roll := rfl
@[simp] theorem State.setDir_consist (s : State) (x : Directory) : (s.setDir x).consist = s.consist := rfl
@[simp] theorem State.setDir_dir (s : State) (x : Directory) : (s.setDir x).dir = x := rfl
@[simp] theorem State.setDir_traffic (s : State) (x : Directory) : (s.setDir x).traffic = s.traffic := rfl
@[simp] theorem State.setDir_resolver (s : State) (x : Directory) : (s.setDir x).resolver = s.resolver := rfl
@[simp] theorem State.setDir_bindings (s : State) (x : Directory) : (s.setDir x).bindings = s.bindings := rfl
@[simp] theorem State.setDir_port (s : State) (x : Directory) : (s.setDir x).port = s.port := rfl
@[simp] theorem State.setDir_attn (s : State) (x : Directory) : (s.setDir x).attn = s.attn := rfl
@[simp] theorem State.setDir_ctrl (s : State) (x : Directory) : (s.setDir x).ctrl = s.ctrl := rfl
@[simp] theorem State.setDir_freeCount (s : State) (x : Directory) : (s.setDir x).freeCount = s.freeCount := rfl
@[simp] theorem State.setDir_pending (s : State) (x : Directory) : (s.setDir x).pending = s.pending := rfl
@[simp] theorem State.setDir_lineEnd (s : State) (x : Directory) (e : LineEnd) : (s.setDir x).lineEnd e = s.lineEnd e := by
  cases e <;> rfl

/-! ## setTraffic -/

@[simp] theorem State.setTraffic_lineA (s : State) (x : Traffic) : (s.setTraffic x).lineA = s.lineA := rfl
@[simp] theorem State.setTraffic_lineB (s : State) (x : Traffic) : (s.setTraffic x).lineB = s.lineB := rfl
@[simp] theorem State.setTraffic_roll (s : State) (x : Traffic) : (s.setTraffic x).roll = s.roll := rfl
@[simp] theorem State.setTraffic_consist (s : State) (x : Traffic) : (s.setTraffic x).consist = s.consist := rfl
@[simp] theorem State.setTraffic_dir (s : State) (x : Traffic) : (s.setTraffic x).dir = s.dir := rfl
@[simp] theorem State.setTraffic_traffic (s : State) (x : Traffic) : (s.setTraffic x).traffic = x := rfl
@[simp] theorem State.setTraffic_resolver (s : State) (x : Traffic) : (s.setTraffic x).resolver = s.resolver := rfl
@[simp] theorem State.setTraffic_bindings (s : State) (x : Traffic) : (s.setTraffic x).bindings = s.bindings := rfl
@[simp] theorem State.setTraffic_port (s : State) (x : Traffic) : (s.setTraffic x).port = s.port := rfl
@[simp] theorem State.setTraffic_attn (s : State) (x : Traffic) : (s.setTraffic x).attn = s.attn := rfl
@[simp] theorem State.setTraffic_ctrl (s : State) (x : Traffic) : (s.setTraffic x).ctrl = s.ctrl := rfl
@[simp] theorem State.setTraffic_freeCount (s : State) (x : Traffic) : (s.setTraffic x).freeCount = s.freeCount := rfl
@[simp] theorem State.setTraffic_pending (s : State) (x : Traffic) : (s.setTraffic x).pending = s.pending := rfl
@[simp] theorem State.setTraffic_lineEnd (s : State) (x : Traffic) (e : LineEnd) : (s.setTraffic x).lineEnd e = s.lineEnd e := by
  cases e <;> rfl

/-! ## setResolver -/

@[simp] theorem State.setResolver_lineA (s : State) (x : Resolver) : (s.setResolver x).lineA = s.lineA := rfl
@[simp] theorem State.setResolver_lineB (s : State) (x : Resolver) : (s.setResolver x).lineB = s.lineB := rfl
@[simp] theorem State.setResolver_roll (s : State) (x : Resolver) : (s.setResolver x).roll = s.roll := rfl
@[simp] theorem State.setResolver_consist (s : State) (x : Resolver) : (s.setResolver x).consist = s.consist := rfl
@[simp] theorem State.setResolver_dir (s : State) (x : Resolver) : (s.setResolver x).dir = s.dir := rfl
@[simp] theorem State.setResolver_traffic (s : State) (x : Resolver) : (s.setResolver x).traffic = s.traffic := rfl
@[simp] theorem State.setResolver_resolver (s : State) (x : Resolver) : (s.setResolver x).resolver = x := rfl
@[simp] theorem State.setResolver_bindings (s : State) (x : Resolver) : (s.setResolver x).bindings = s.bindings := rfl
@[simp] theorem State.setResolver_port (s : State) (x : Resolver) : (s.setResolver x).port = s.port := rfl
@[simp] theorem State.setResolver_attn (s : State) (x : Resolver) : (s.setResolver x).attn = s.attn := rfl
@[simp] theorem State.setResolver_ctrl (s : State) (x : Resolver) : (s.setResolver x).ctrl = s.ctrl := rfl
@[simp] theorem State.setResolver_freeCount (s : State) (x : Resolver) : (s.setResolver x).freeCount = s.freeCount := rfl
@[simp] theorem State.setResolver_pending (s : State) (x : Resolver) : (s.setResolver x).pending = s.pending := rfl
@[simp] theorem State.setResolver_lineEnd (s : State) (x : Resolver) (e : LineEnd) : (s.setResolver x).lineEnd e = s.lineEnd e := by
  cases e <;> rfl

/-! ## setBindings -/

@[simp] theorem State.setBindings_lineA (s : State) (x : BindingTable) : (s.setBindings x).lineA = s.lineA := rfl
@[simp] theorem State.setBindings_lineB (s : State) (x : BindingTable) : (s.setBindings x).lineB = s.lineB := rfl
@[simp] theorem State.setBindings_roll (s : State) (x : BindingTable) : (s.setBindings x).roll = s.roll := rfl
@[simp] theorem State.setBindings_consist (s : State) (x : BindingTable) : (s.setBindings x).consist = s.consist := rfl
@[simp] theorem State.setBindings_dir (s : State) (x : BindingTable) : (s.setBindings x).dir = s.dir := rfl
@[simp] theorem State.setBindings_traffic (s : State) (x : BindingTable) : (s.setBindings x).traffic = s.traffic := rfl
@[simp] theorem State.setBindings_resolver (s : State) (x : BindingTable) : (s.setBindings x).resolver = s.resolver := rfl
@[simp] theorem State.setBindings_bindings (s : State) (x : BindingTable) : (s.setBindings x).bindings = x := rfl
@[simp] theorem State.setBindings_port (s : State) (x : BindingTable) : (s.setBindings x).port = s.port := rfl
@[simp] theorem State.setBindings_attn (s : State) (x : BindingTable) : (s.setBindings x).attn = s.attn := rfl
@[simp] theorem State.setBindings_ctrl (s : State) (x : BindingTable) : (s.setBindings x).ctrl = s.ctrl := rfl
@[simp] theorem State.setBindings_freeCount (s : State) (x : BindingTable) : (s.setBindings x).freeCount = s.freeCount := rfl
@[simp] theorem State.setBindings_pending (s : State) (x : BindingTable) : (s.setBindings x).pending = s.pending := rfl
@[simp] theorem State.setBindings_lineEnd (s : State) (x : BindingTable) (e : LineEnd) : (s.setBindings x).lineEnd e = s.lineEnd e := by
  cases e <;> rfl

/-! ## setPort -/

@[simp] theorem State.setPort_lineA (s : State) (x : CarPort) : (s.setPort x).lineA = s.lineA := rfl
@[simp] theorem State.setPort_lineB (s : State) (x : CarPort) : (s.setPort x).lineB = s.lineB := rfl
@[simp] theorem State.setPort_roll (s : State) (x : CarPort) : (s.setPort x).roll = s.roll := rfl
@[simp] theorem State.setPort_consist (s : State) (x : CarPort) : (s.setPort x).consist = s.consist := rfl
@[simp] theorem State.setPort_dir (s : State) (x : CarPort) : (s.setPort x).dir = s.dir := rfl
@[simp] theorem State.setPort_traffic (s : State) (x : CarPort) : (s.setPort x).traffic = s.traffic := rfl
@[simp] theorem State.setPort_resolver (s : State) (x : CarPort) : (s.setPort x).resolver = s.resolver := rfl
@[simp] theorem State.setPort_bindings (s : State) (x : CarPort) : (s.setPort x).bindings = s.bindings := rfl
@[simp] theorem State.setPort_port (s : State) (x : CarPort) : (s.setPort x).port = x := rfl
@[simp] theorem State.setPort_attn (s : State) (x : CarPort) : (s.setPort x).attn = s.attn := rfl
@[simp] theorem State.setPort_ctrl (s : State) (x : CarPort) : (s.setPort x).ctrl = s.ctrl := rfl
@[simp] theorem State.setPort_freeCount (s : State) (x : CarPort) : (s.setPort x).freeCount = s.freeCount := rfl
@[simp] theorem State.setPort_pending (s : State) (x : CarPort) : (s.setPort x).pending = s.pending := rfl
@[simp] theorem State.setPort_lineEnd (s : State) (x : CarPort) (e : LineEnd) : (s.setPort x).lineEnd e = s.lineEnd e := by
  cases e <;> rfl

/-! ## setAttn -/

@[simp] theorem State.setAttn_lineA (s : State) (x : AttentionUnit) : (s.setAttn x).lineA = s.lineA := rfl
@[simp] theorem State.setAttn_lineB (s : State) (x : AttentionUnit) : (s.setAttn x).lineB = s.lineB := rfl
@[simp] theorem State.setAttn_roll (s : State) (x : AttentionUnit) : (s.setAttn x).roll = s.roll := rfl
@[simp] theorem State.setAttn_consist (s : State) (x : AttentionUnit) : (s.setAttn x).consist = s.consist := rfl
@[simp] theorem State.setAttn_dir (s : State) (x : AttentionUnit) : (s.setAttn x).dir = s.dir := rfl
@[simp] theorem State.setAttn_traffic (s : State) (x : AttentionUnit) : (s.setAttn x).traffic = s.traffic := rfl
@[simp] theorem State.setAttn_resolver (s : State) (x : AttentionUnit) : (s.setAttn x).resolver = s.resolver := rfl
@[simp] theorem State.setAttn_bindings (s : State) (x : AttentionUnit) : (s.setAttn x).bindings = s.bindings := rfl
@[simp] theorem State.setAttn_port (s : State) (x : AttentionUnit) : (s.setAttn x).port = s.port := rfl
@[simp] theorem State.setAttn_attn (s : State) (x : AttentionUnit) : (s.setAttn x).attn = x := rfl
@[simp] theorem State.setAttn_ctrl (s : State) (x : AttentionUnit) : (s.setAttn x).ctrl = s.ctrl := rfl
@[simp] theorem State.setAttn_freeCount (s : State) (x : AttentionUnit) : (s.setAttn x).freeCount = s.freeCount := rfl
@[simp] theorem State.setAttn_pending (s : State) (x : AttentionUnit) : (s.setAttn x).pending = s.pending := rfl
@[simp] theorem State.setAttn_lineEnd (s : State) (x : AttentionUnit) (e : LineEnd) : (s.setAttn x).lineEnd e = s.lineEnd e := by
  cases e <;> rfl

/-! ## setCtrl -/

@[simp] theorem State.setCtrl_lineA (s : State) (x : PartControl) : (s.setCtrl x).lineA = s.lineA := rfl
@[simp] theorem State.setCtrl_lineB (s : State) (x : PartControl) : (s.setCtrl x).lineB = s.lineB := rfl
@[simp] theorem State.setCtrl_roll (s : State) (x : PartControl) : (s.setCtrl x).roll = s.roll := rfl
@[simp] theorem State.setCtrl_consist (s : State) (x : PartControl) : (s.setCtrl x).consist = s.consist := rfl
@[simp] theorem State.setCtrl_dir (s : State) (x : PartControl) : (s.setCtrl x).dir = s.dir := rfl
@[simp] theorem State.setCtrl_traffic (s : State) (x : PartControl) : (s.setCtrl x).traffic = s.traffic := rfl
@[simp] theorem State.setCtrl_resolver (s : State) (x : PartControl) : (s.setCtrl x).resolver = s.resolver := rfl
@[simp] theorem State.setCtrl_bindings (s : State) (x : PartControl) : (s.setCtrl x).bindings = s.bindings := rfl
@[simp] theorem State.setCtrl_port (s : State) (x : PartControl) : (s.setCtrl x).port = s.port := rfl
@[simp] theorem State.setCtrl_attn (s : State) (x : PartControl) : (s.setCtrl x).attn = s.attn := rfl
@[simp] theorem State.setCtrl_ctrl (s : State) (x : PartControl) : (s.setCtrl x).ctrl = x := rfl
@[simp] theorem State.setCtrl_freeCount (s : State) (x : PartControl) : (s.setCtrl x).freeCount = s.freeCount := rfl
@[simp] theorem State.setCtrl_pending (s : State) (x : PartControl) : (s.setCtrl x).pending = s.pending := rfl
@[simp] theorem State.setCtrl_lineEnd (s : State) (x : PartControl) (e : LineEnd) : (s.setCtrl x).lineEnd e = s.lineEnd e := by
  cases e <;> rfl

/-! ## setEvents -/

@[simp] theorem State.setEvents_lineA (s : State) (ev : Events) : (s.setEvents ev).lineA = s.lineA := rfl
@[simp] theorem State.setEvents_lineB (s : State) (ev : Events) : (s.setEvents ev).lineB = s.lineB := rfl
@[simp] theorem State.setEvents_roll (s : State) (ev : Events) : (s.setEvents ev).roll = s.roll := rfl
@[simp] theorem State.setEvents_consist (s : State) (ev : Events) : (s.setEvents ev).consist = s.consist := rfl
@[simp] theorem State.setEvents_dir (s : State) (ev : Events) : (s.setEvents ev).dir = s.dir := rfl
@[simp] theorem State.setEvents_traffic (s : State) (ev : Events) : (s.setEvents ev).traffic = s.traffic := rfl
@[simp] theorem State.setEvents_resolver (s : State) (ev : Events) : (s.setEvents ev).resolver = s.resolver := rfl
@[simp] theorem State.setEvents_bindings (s : State) (ev : Events) : (s.setEvents ev).bindings = s.bindings := rfl
@[simp] theorem State.setEvents_port (s : State) (ev : Events) : (s.setEvents ev).port = s.port := rfl
@[simp] theorem State.setEvents_attn (s : State) (ev : Events) : (s.setEvents ev).attn = { s.attn with events := ev } := rfl
@[simp] theorem State.setEvents_ctrl (s : State) (ev : Events) : (s.setEvents ev).ctrl = s.ctrl := rfl
@[simp] theorem State.setEvents_freeCount (s : State) (ev : Events) : (s.setEvents ev).freeCount = s.freeCount := rfl
@[simp] theorem State.setEvents_pending (s : State) (ev : Events) : (s.setEvents ev).pending = s.pending := rfl
@[simp] theorem State.setEvents_lineEnd (s : State) (ev : Events) (e : LineEnd) : (s.setEvents ev).lineEnd e = s.lineEnd e := by
  cases e <;> rfl

/-! ## raise -/

@[simp] theorem State.raise_lineA (s : State) (f : Events → Events) : (s.raise f).lineA = s.lineA := rfl
@[simp] theorem State.raise_lineB (s : State) (f : Events → Events) : (s.raise f).lineB = s.lineB := rfl
@[simp] theorem State.raise_roll (s : State) (f : Events → Events) : (s.raise f).roll = s.roll := rfl
@[simp] theorem State.raise_consist (s : State) (f : Events → Events) : (s.raise f).consist = s.consist := rfl
@[simp] theorem State.raise_dir (s : State) (f : Events → Events) : (s.raise f).dir = s.dir := rfl
@[simp] theorem State.raise_traffic (s : State) (f : Events → Events) : (s.raise f).traffic = s.traffic := rfl
@[simp] theorem State.raise_resolver (s : State) (f : Events → Events) : (s.raise f).resolver = s.resolver := rfl
@[simp] theorem State.raise_bindings (s : State) (f : Events → Events) : (s.raise f).bindings = s.bindings := rfl
@[simp] theorem State.raise_port (s : State) (f : Events → Events) : (s.raise f).port = s.port := rfl
@[simp] theorem State.raise_attn (s : State) (f : Events → Events) : (s.raise f).attn = { s.attn with events := f s.attn.events } := rfl
@[simp] theorem State.raise_ctrl (s : State) (f : Events → Events) : (s.raise f).ctrl = s.ctrl := rfl
@[simp] theorem State.raise_freeCount (s : State) (f : Events → Events) : (s.raise f).freeCount = s.freeCount := rfl
@[simp] theorem State.raise_pending (s : State) (f : Events → Events) : (s.raise f).pending = s.pending := rfl
@[simp] theorem State.raise_lineEnd (s : State) (f : Events → Events) (e : LineEnd) : (s.raise f).lineEnd e = s.lineEnd e := by
  cases e <;> rfl

/-! ## setEnd -/

@[simp] theorem State.setEnd_roll (s : State) (e : LineEnd) (l : LineEndSt) : (s.setEnd e l).roll = s.roll := by
  cases e <;> rfl
@[simp] theorem State.setEnd_consist (s : State) (e : LineEnd) (l : LineEndSt) : (s.setEnd e l).consist = s.consist := by
  cases e <;> rfl
@[simp] theorem State.setEnd_dir (s : State) (e : LineEnd) (l : LineEndSt) : (s.setEnd e l).dir = s.dir := by
  cases e <;> rfl
@[simp] theorem State.setEnd_traffic (s : State) (e : LineEnd) (l : LineEndSt) : (s.setEnd e l).traffic = s.traffic := by
  cases e <;> rfl
@[simp] theorem State.setEnd_resolver (s : State) (e : LineEnd) (l : LineEndSt) : (s.setEnd e l).resolver = s.resolver := by
  cases e <;> rfl
@[simp] theorem State.setEnd_bindings (s : State) (e : LineEnd) (l : LineEndSt) : (s.setEnd e l).bindings = s.bindings := by
  cases e <;> rfl
@[simp] theorem State.setEnd_port (s : State) (e : LineEnd) (l : LineEndSt) : (s.setEnd e l).port = s.port := by
  cases e <;> rfl
@[simp] theorem State.setEnd_attn (s : State) (e : LineEnd) (l : LineEndSt) : (s.setEnd e l).attn = s.attn := by
  cases e <;> rfl
@[simp] theorem State.setEnd_ctrl (s : State) (e : LineEnd) (l : LineEndSt) : (s.setEnd e l).ctrl = s.ctrl := by
  cases e <;> rfl
@[simp] theorem State.setEnd_freeCount (s : State) (e : LineEnd) (l : LineEndSt) : (s.setEnd e l).freeCount = s.freeCount := by
  cases e <;> rfl
@[simp] theorem State.setEnd_pending (s : State) (e : LineEnd) (l : LineEndSt) : (s.setEnd e l).pending = s.pending := by
  cases e <;> rfl
@[simp] theorem State.setEnd_lineEnd_same (s : State) (e : LineEnd) (l : LineEndSt) : (s.setEnd e l).lineEnd e = l := by
  cases e <;> rfl
@[simp] theorem State.setEnd_lineEnd_other (s : State) (e : LineEnd) (l : LineEndSt) :
    (s.setEnd e l).lineEnd e.other = s.lineEnd e.other := by
  cases e <;> rfl
theorem State.setEnd_lineEnd (s : State) (e e' : LineEnd) (l : LineEndSt) :
    (s.setEnd e l).lineEnd e' = if e' = e then l else s.lineEnd e' := by
  cases e <;> cases e' <;> rfl

/-! ## updEnd -/

@[simp] theorem State.updEnd_roll (s : State) (e : LineEnd) (f : LineEndSt → LineEndSt) : (s.updEnd e f).roll = s.roll := by
  cases e <;> rfl
@[simp] theorem State.updEnd_consist (s : State) (e : LineEnd) (f : LineEndSt → LineEndSt) : (s.updEnd e f).consist = s.consist := by
  cases e <;> rfl
@[simp] theorem State.updEnd_dir (s : State) (e : LineEnd) (f : LineEndSt → LineEndSt) : (s.updEnd e f).dir = s.dir := by
  cases e <;> rfl
@[simp] theorem State.updEnd_traffic (s : State) (e : LineEnd) (f : LineEndSt → LineEndSt) : (s.updEnd e f).traffic = s.traffic := by
  cases e <;> rfl
@[simp] theorem State.updEnd_resolver (s : State) (e : LineEnd) (f : LineEndSt → LineEndSt) : (s.updEnd e f).resolver = s.resolver := by
  cases e <;> rfl
@[simp] theorem State.updEnd_bindings (s : State) (e : LineEnd) (f : LineEndSt → LineEndSt) : (s.updEnd e f).bindings = s.bindings := by
  cases e <;> rfl
@[simp] theorem State.updEnd_port (s : State) (e : LineEnd) (f : LineEndSt → LineEndSt) : (s.updEnd e f).port = s.port := by
  cases e <;> rfl
@[simp] theorem State.updEnd_attn (s : State) (e : LineEnd) (f : LineEndSt → LineEndSt) : (s.updEnd e f).attn = s.attn := by
  cases e <;> rfl
@[simp] theorem State.updEnd_ctrl (s : State) (e : LineEnd) (f : LineEndSt → LineEndSt) : (s.updEnd e f).ctrl = s.ctrl := by
  cases e <;> rfl
@[simp] theorem State.updEnd_freeCount (s : State) (e : LineEnd) (f : LineEndSt → LineEndSt) : (s.updEnd e f).freeCount = s.freeCount := by
  cases e <;> rfl
@[simp] theorem State.updEnd_pending (s : State) (e : LineEnd) (f : LineEndSt → LineEndSt) : (s.updEnd e f).pending = s.pending := by
  cases e <;> rfl
@[simp] theorem State.updEnd_lineEnd_same (s : State) (e : LineEnd) (f : LineEndSt → LineEndSt) : (s.updEnd e f).lineEnd e = f (s.lineEnd e) := by
  cases e <;> rfl
@[simp] theorem State.updEnd_lineEnd_other (s : State) (e : LineEnd) (f : LineEndSt → LineEndSt) :
    (s.updEnd e f).lineEnd e.other = s.lineEnd e.other := by
  cases e <;> rfl
theorem State.updEnd_lineEnd (s : State) (e e' : LineEnd) (f : LineEndSt → LineEndSt) :
    (s.updEnd e f).lineEnd e' = if e' = e then f (s.lineEnd e) else s.lineEnd e' := by
  cases e <;> cases e' <;> rfl

/-! ## updEnds -/

@[simp] theorem State.updEnds_lineA (s : State) (f : LineEndSt → LineEndSt) : (s.updEnds f).lineA = f s.lineA := rfl
@[simp] theorem State.updEnds_lineB (s : State) (f : LineEndSt → LineEndSt) : (s.updEnds f).lineB = f s.lineB := rfl
@[simp] theorem State.updEnds_roll (s : State) (f : LineEndSt → LineEndSt) : (s.updEnds f).roll = s.roll := rfl
@[simp] theorem State.updEnds_consist (s : State) (f : LineEndSt → LineEndSt) : (s.updEnds f).consist = s.consist := rfl
@[simp] theorem State.updEnds_dir (s : State) (f : LineEndSt → LineEndSt) : (s.updEnds f).dir = s.dir := rfl
@[simp] theorem State.updEnds_traffic (s : State) (f : LineEndSt → LineEndSt) : (s.updEnds f).traffic = s.traffic := rfl
@[simp] theorem State.updEnds_resolver (s : State) (f : LineEndSt → LineEndSt) : (s.updEnds f).resolver = s.resolver := rfl
@[simp] theorem State.updEnds_bindings (s : State) (f : LineEndSt → LineEndSt) : (s.updEnds f).bindings = s.bindings := rfl
@[simp] theorem State.updEnds_port (s : State) (f : LineEndSt → LineEndSt) : (s.updEnds f).port = s.port := rfl
@[simp] theorem State.updEnds_attn (s : State) (f : LineEndSt → LineEndSt) : (s.updEnds f).attn = s.attn := rfl
@[simp] theorem State.updEnds_ctrl (s : State) (f : LineEndSt → LineEndSt) : (s.updEnds f).ctrl = s.ctrl := rfl
@[simp] theorem State.updEnds_freeCount (s : State) (f : LineEndSt → LineEndSt) : (s.updEnds f).freeCount = s.freeCount := rfl
@[simp] theorem State.updEnds_pending (s : State) (f : LineEndSt → LineEndSt) : (s.updEnds f).pending = s.pending := rfl
@[simp] theorem State.updEnds_lineEnd (s : State) (f : LineEndSt → LineEndSt) (e : LineEnd) : (s.updEnds f).lineEnd e = f (s.lineEnd e) := by
  cases e <;> rfl

/-! ## offerCtrl -/

@[simp] theorem State.offerCtrl_roll (s : State) (e : LineEnd) (f : Frame) : (s.offerCtrl e f).roll = s.roll := by
  cases e <;> rfl
@[simp] theorem State.offerCtrl_consist (s : State) (e : LineEnd) (f : Frame) : (s.offerCtrl e f).consist = s.consist := by
  cases e <;> rfl
@[simp] theorem State.offerCtrl_dir (s : State) (e : LineEnd) (f : Frame) : (s.offerCtrl e f).dir = s.dir := by
  cases e <;> rfl
@[simp] theorem State.offerCtrl_traffic (s : State) (e : LineEnd) (f : Frame) : (s.offerCtrl e f).traffic = s.traffic := by
  cases e <;> rfl
@[simp] theorem State.offerCtrl_resolver (s : State) (e : LineEnd) (f : Frame) : (s.offerCtrl e f).resolver = s.resolver := by
  cases e <;> rfl
@[simp] theorem State.offerCtrl_bindings (s : State) (e : LineEnd) (f : Frame) : (s.offerCtrl e f).bindings = s.bindings := by
  cases e <;> rfl
@[simp] theorem State.offerCtrl_port (s : State) (e : LineEnd) (f : Frame) : (s.offerCtrl e f).port = s.port := by
  cases e <;> rfl
@[simp] theorem State.offerCtrl_attn (s : State) (e : LineEnd) (f : Frame) : (s.offerCtrl e f).attn = s.attn := by
  cases e <;> rfl
@[simp] theorem State.offerCtrl_ctrl (s : State) (e : LineEnd) (f : Frame) : (s.offerCtrl e f).ctrl = s.ctrl := by
  cases e <;> rfl
@[simp] theorem State.offerCtrl_freeCount (s : State) (e : LineEnd) (f : Frame) : (s.offerCtrl e f).freeCount = s.freeCount := by
  cases e <;> rfl
@[simp] theorem State.offerCtrl_pending (s : State) (e : LineEnd) (f : Frame) : (s.offerCtrl e f).pending = s.pending := by
  cases e <;> rfl
@[simp] theorem State.offerCtrl_lineEnd_same (s : State) (e : LineEnd) (f : Frame) :
    (s.offerCtrl e f).lineEnd e = (s.lineEnd e).offerCtrl f := by
  cases e <;> rfl
@[simp] theorem State.offerCtrl_lineEnd_other (s : State) (e : LineEnd) (f : Frame) :
    (s.offerCtrl e f).lineEnd e.other = s.lineEnd e.other := by
  cases e <;> rfl

/-! ## offerDir -/

@[simp] theorem State.offerDir_roll (s : State) (e : LineEnd) (f : Frame) : (s.offerDir e f).roll = s.roll := by
  cases e <;> rfl
@[simp] theorem State.offerDir_consist (s : State) (e : LineEnd) (f : Frame) : (s.offerDir e f).consist = s.consist := by
  cases e <;> rfl
@[simp] theorem State.offerDir_dir (s : State) (e : LineEnd) (f : Frame) : (s.offerDir e f).dir = s.dir := by
  cases e <;> rfl
@[simp] theorem State.offerDir_traffic (s : State) (e : LineEnd) (f : Frame) : (s.offerDir e f).traffic = s.traffic := by
  cases e <;> rfl
@[simp] theorem State.offerDir_resolver (s : State) (e : LineEnd) (f : Frame) : (s.offerDir e f).resolver = s.resolver := by
  cases e <;> rfl
@[simp] theorem State.offerDir_bindings (s : State) (e : LineEnd) (f : Frame) : (s.offerDir e f).bindings = s.bindings := by
  cases e <;> rfl
@[simp] theorem State.offerDir_port (s : State) (e : LineEnd) (f : Frame) : (s.offerDir e f).port = s.port := by
  cases e <;> rfl
@[simp] theorem State.offerDir_attn (s : State) (e : LineEnd) (f : Frame) : (s.offerDir e f).attn = s.attn := by
  cases e <;> rfl
@[simp] theorem State.offerDir_ctrl (s : State) (e : LineEnd) (f : Frame) : (s.offerDir e f).ctrl = s.ctrl := by
  cases e <;> rfl
@[simp] theorem State.offerDir_freeCount (s : State) (e : LineEnd) (f : Frame) : (s.offerDir e f).freeCount = s.freeCount := by
  cases e <;> rfl
@[simp] theorem State.offerDir_pending (s : State) (e : LineEnd) (f : Frame) : (s.offerDir e f).pending = s.pending := by
  cases e <;> rfl
@[simp] theorem State.offerDir_lineEnd_same (s : State) (e : LineEnd) (f : Frame) :
    (s.offerDir e f).lineEnd e = (s.lineEnd e).offerDir f := by
  cases e <;> rfl
@[simp] theorem State.offerDir_lineEnd_other (s : State) (e : LineEnd) (f : Frame) :
    (s.offerDir e f).lineEnd e.other = s.lineEnd e.other := by
  cases e <;> rfl

/-! ## broadcast -/

@[simp] theorem State.broadcast_roll (s : State) (p : Payload) : (s.broadcast p).roll = s.roll := rfl
@[simp] theorem State.broadcast_consist (s : State) (p : Payload) : (s.broadcast p).consist = s.consist := rfl
@[simp] theorem State.broadcast_dir (s : State) (p : Payload) : (s.broadcast p).dir = s.dir := rfl
@[simp] theorem State.broadcast_traffic (s : State) (p : Payload) : (s.broadcast p).traffic = s.traffic := rfl
@[simp] theorem State.broadcast_resolver (s : State) (p : Payload) : (s.broadcast p).resolver = s.resolver := rfl
@[simp] theorem State.broadcast_bindings (s : State) (p : Payload) : (s.broadcast p).bindings = s.bindings := rfl
@[simp] theorem State.broadcast_port (s : State) (p : Payload) : (s.broadcast p).port = s.port := rfl
@[simp] theorem State.broadcast_attn (s : State) (p : Payload) : (s.broadcast p).attn = s.attn := rfl
@[simp] theorem State.broadcast_ctrl (s : State) (p : Payload) : (s.broadcast p).ctrl = s.ctrl := rfl
@[simp] theorem State.broadcast_freeCount (s : State) (p : Payload) : (s.broadcast p).freeCount = s.freeCount := rfl
@[simp] theorem State.broadcast_pending (s : State) (p : Payload) : (s.broadcast p).pending = s.pending := rfl
theorem State.broadcast_lineA (s : State) (p : Payload) : (s.broadcast p).lineA = s.lineA.offerDir (s.dirFrame 0#8 p) := rfl
theorem State.broadcast_lineB (s : State) (p : Payload) : (s.broadcast p).lineB = s.lineB.offerDir (s.dirFrame 0#8 p) := rfl

/-! ## sendUnicast -/

@[simp] theorem State.sendUnicast_roll (s : State) (t : Nat) (p : Payload) : (s.sendUnicast t p).roll = s.roll := by
  unfold State.sendUnicast; split <;> simp
@[simp] theorem State.sendUnicast_consist (s : State) (t : Nat) (p : Payload) : (s.sendUnicast t p).consist = s.consist := by
  unfold State.sendUnicast; split <;> simp
@[simp] theorem State.sendUnicast_dir (s : State) (t : Nat) (p : Payload) : (s.sendUnicast t p).dir = s.dir := by
  unfold State.sendUnicast; split <;> simp
@[simp] theorem State.sendUnicast_traffic (s : State) (t : Nat) (p : Payload) : (s.sendUnicast t p).traffic = s.traffic := by
  unfold State.sendUnicast; split <;> simp
@[simp] theorem State.sendUnicast_resolver (s : State) (t : Nat) (p : Payload) : (s.sendUnicast t p).resolver = s.resolver := by
  unfold State.sendUnicast; split <;> simp
@[simp] theorem State.sendUnicast_bindings (s : State) (t : Nat) (p : Payload) : (s.sendUnicast t p).bindings = s.bindings := by
  unfold State.sendUnicast; split <;> simp
@[simp] theorem State.sendUnicast_port (s : State) (t : Nat) (p : Payload) : (s.sendUnicast t p).port = s.port := by
  unfold State.sendUnicast; split <;> simp
@[simp] theorem State.sendUnicast_attn (s : State) (t : Nat) (p : Payload) : (s.sendUnicast t p).attn = s.attn := by
  unfold State.sendUnicast; split <;> simp
@[simp] theorem State.sendUnicast_ctrl (s : State) (t : Nat) (p : Payload) : (s.sendUnicast t p).ctrl = s.ctrl := by
  unfold State.sendUnicast; split <;> simp
@[simp] theorem State.sendUnicast_freeCount (s : State) (t : Nat) (p : Payload) : (s.sendUnicast t p).freeCount = s.freeCount := by
  unfold State.sendUnicast; split <;> simp
@[simp] theorem State.sendUnicast_pending (s : State) (t : Nat) (p : Payload) : (s.sendUnicast t p).pending = s.pending := by
  unfold State.sendUnicast; split <;> simp

/-! ## complete -/

@[simp] theorem State.complete_lineA (s : State) (st : Status) (data : List Byte) (stale : Bool) :
    (s.complete st data stale).lineA = s.lineA := rfl
@[simp] theorem State.complete_lineB (s : State) (st : Status) (data : List Byte) (stale : Bool) :
    (s.complete st data stale).lineB = s.lineB := rfl
@[simp] theorem State.complete_roll (s : State) (st : Status) (data : List Byte) (stale : Bool) :
    (s.complete st data stale).roll = s.roll := rfl
@[simp] theorem State.complete_consist (s : State) (st : Status) (data : List Byte) (stale : Bool) :
    (s.complete st data stale).consist = s.consist := rfl
@[simp] theorem State.complete_dir (s : State) (st : Status) (data : List Byte) (stale : Bool) :
    (s.complete st data stale).dir = s.dir := rfl
@[simp] theorem State.complete_traffic (s : State) (st : Status) (data : List Byte) (stale : Bool) :
    (s.complete st data stale).traffic = s.traffic := rfl
@[simp] theorem State.complete_resolver (s : State) (st : Status) (data : List Byte) (stale : Bool) :
    (s.complete st data stale).resolver = s.resolver := rfl
@[simp] theorem State.complete_bindings (s : State) (st : Status) (data : List Byte) (stale : Bool) :
    (s.complete st data stale).bindings = s.bindings := rfl
@[simp] theorem State.complete_attn (s : State) (st : Status) (data : List Byte) (stale : Bool) :
    (s.complete st data stale).attn = s.attn := rfl
@[simp] theorem State.complete_ctrl (s : State) (st : Status) (data : List Byte) (stale : Bool) :
    (s.complete st data stale).ctrl = s.ctrl := rfl
@[simp] theorem State.complete_freeCount (s : State) (st : Status) (data : List Byte) (stale : Bool) :
    (s.complete st data stale).freeCount = s.freeCount := rfl
@[simp] theorem State.complete_pending (s : State) (st : Status) (data : List Byte) (stale : Bool) :
    (s.complete st data stale).pending = s.pending := rfl
@[simp] theorem State.complete_port_state (s : State) (st : Status) (data : List Byte) (stale : Bool) :
    (s.complete st data stale).port.state = .ready := rfl
@[simp] theorem State.complete_port_inFlight (s : State) (st : Status) (data : List Byte) (stale : Bool) :
    (s.complete st data stale).port.inFlight = none := rfl
@[simp] theorem State.complete_port_rxBuffer (s : State) (st : Status) (data : List Byte) (stale : Bool) :
    (s.complete st data stale).port.rxBuffer = s.port.rxBuffer := rfl
@[simp] theorem State.complete_port_resetInput (s : State) (st : Status) (data : List Byte) (stale : Bool) :
    (s.complete st data stale).port.resetInput = s.port.resetInput := rfl
@[simp] theorem State.complete_port_overrun (s : State) (st : Status) (data : List Byte) (stale : Bool) :
    (s.complete st data stale).port.overrun = s.port.overrun := rfl
theorem State.done_eq_complete (s : State) (st : Status) : s.done st = s.complete st [] false := rfl
theorem State.gives_eq_complete (s : State) (data : List Byte) : s.gives data = s.complete .success data false := rfl

/-! ## setSlot -/

@[simp] theorem State.setSlot_lineA (s : State) (i : Nat) (x : HandleSlot) : (s.setSlot i x).lineA = s.lineA := rfl
@[simp] theorem State.setSlot_lineB (s : State) (i : Nat) (x : HandleSlot) : (s.setSlot i x).lineB = s.lineB := rfl
@[simp] theorem State.setSlot_roll (s : State) (i : Nat) (x : HandleSlot) : (s.setSlot i x).roll = s.roll := rfl
@[simp] theorem State.setSlot_consist (s : State) (i : Nat) (x : HandleSlot) : (s.setSlot i x).consist = s.consist := rfl
@[simp] theorem State.setSlot_dir (s : State) (i : Nat) (x : HandleSlot) : (s.setSlot i x).dir = s.dir := rfl
@[simp] theorem State.setSlot_traffic (s : State) (i : Nat) (x : HandleSlot) : (s.setSlot i x).traffic = s.traffic := rfl
@[simp] theorem State.setSlot_resolver (s : State) (i : Nat) (x : HandleSlot) : (s.setSlot i x).resolver = s.resolver := rfl
@[simp] theorem State.setSlot_port (s : State) (i : Nat) (x : HandleSlot) : (s.setSlot i x).port = s.port := rfl
@[simp] theorem State.setSlot_attn (s : State) (i : Nat) (x : HandleSlot) : (s.setSlot i x).attn = s.attn := rfl
@[simp] theorem State.setSlot_ctrl (s : State) (i : Nat) (x : HandleSlot) : (s.setSlot i x).ctrl = s.ctrl := rfl
@[simp] theorem State.setSlot_freeCount (s : State) (i : Nat) (x : HandleSlot) : (s.setSlot i x).freeCount = s.freeCount := rfl
@[simp] theorem State.setSlot_pending (s : State) (i : Nat) (x : HandleSlot) : (s.setSlot i x).pending = s.pending := rfl
@[simp] theorem State.setSlot_bindings_query (s : State) (i : Nat) (x : HandleSlot) :
    (s.setSlot i x).bindings.query = s.bindings.query := rfl
@[simp] theorem State.setSlot_bindings_timer (s : State) (i : Nat) (x : HandleSlot) :
    (s.setSlot i x).bindings.timer = s.bindings.timer := rfl
@[simp] theorem State.setSlot_lineEnd (s : State) (i : Nat) (x : HandleSlot) (e : LineEnd) :
    (s.setSlot i x).lineEnd e = s.lineEnd e := by
  cases e <;> rfl

/-! ## abandonBackground -/

@[simp] theorem State.abandonBackground_lineA (s : State) : s.abandonBackground.lineA = s.lineA := rfl
@[simp] theorem State.abandonBackground_lineB (s : State) : s.abandonBackground.lineB = s.lineB := rfl
@[simp] theorem State.abandonBackground_roll (s : State) : s.abandonBackground.roll = s.roll := rfl
@[simp] theorem State.abandonBackground_consist (s : State) : s.abandonBackground.consist = s.consist := rfl
@[simp] theorem State.abandonBackground_dir (s : State) : s.abandonBackground.dir = s.dir := rfl
@[simp] theorem State.abandonBackground_traffic (s : State) : s.abandonBackground.traffic = s.traffic := rfl
@[simp] theorem State.abandonBackground_resolver (s : State) : s.abandonBackground.resolver = s.resolver := rfl
@[simp] theorem State.abandonBackground_port (s : State) : s.abandonBackground.port = s.port := rfl
@[simp] theorem State.abandonBackground_attn (s : State) : s.abandonBackground.attn = s.attn := rfl
@[simp] theorem State.abandonBackground_ctrl (s : State) : s.abandonBackground.ctrl = s.ctrl := rfl
@[simp] theorem State.abandonBackground_freeCount (s : State) : s.abandonBackground.freeCount = s.freeCount := rfl
@[simp] theorem State.abandonBackground_pending (s : State) : s.abandonBackground.pending = s.pending := rfl

/-! ## setRemainder -/

@[simp] theorem State.setRemainder_lineA (s : State) (r : List (Tag × Side)) : (s.setRemainder r).lineA = s.lineA := rfl
@[simp] theorem State.setRemainder_lineB (s : State) (r : List (Tag × Side)) : (s.setRemainder r).lineB = s.lineB := rfl
@[simp] theorem State.setRemainder_roll (s : State) (r : List (Tag × Side)) : (s.setRemainder r).roll = s.roll := rfl
@[simp] theorem State.setRemainder_consist (s : State) (r : List (Tag × Side)) : (s.setRemainder r).consist = s.consist := rfl
@[simp] theorem State.setRemainder_dir (s : State) (r : List (Tag × Side)) : (s.setRemainder r).dir = s.dir := rfl
@[simp] theorem State.setRemainder_resolver (s : State) (r : List (Tag × Side)) : (s.setRemainder r).resolver = s.resolver := rfl
@[simp] theorem State.setRemainder_bindings (s : State) (r : List (Tag × Side)) : (s.setRemainder r).bindings = s.bindings := rfl
@[simp] theorem State.setRemainder_port (s : State) (r : List (Tag × Side)) : (s.setRemainder r).port = s.port := rfl
@[simp] theorem State.setRemainder_attn (s : State) (r : List (Tag × Side)) : (s.setRemainder r).attn = s.attn := rfl
@[simp] theorem State.setRemainder_ctrl (s : State) (r : List (Tag × Side)) : (s.setRemainder r).ctrl = s.ctrl := rfl
@[simp] theorem State.setRemainder_freeCount (s : State) (r : List (Tag × Side)) : (s.setRemainder r).freeCount = s.freeCount := rfl
@[simp] theorem State.setRemainder_pending (s : State) (r : List (Tag × Side)) : (s.setRemainder r).pending = s.pending := rfl

/-! ## clearForeground -/

@[simp] theorem State.clearForeground_lineA (s : State) : s.clearForeground.lineA = s.lineA := rfl
@[simp] theorem State.clearForeground_lineB (s : State) : s.clearForeground.lineB = s.lineB := rfl
@[simp] theorem State.clearForeground_roll (s : State) : s.clearForeground.roll = s.roll := rfl
@[simp] theorem State.clearForeground_consist (s : State) : s.clearForeground.consist = s.consist := rfl
@[simp] theorem State.clearForeground_dir (s : State) : s.clearForeground.dir = s.dir := rfl
@[simp] theorem State.clearForeground_traffic (s : State) : s.clearForeground.traffic = s.traffic := rfl
@[simp] theorem State.clearForeground_bindings (s : State) : s.clearForeground.bindings = s.bindings := rfl
@[simp] theorem State.clearForeground_port (s : State) : s.clearForeground.port = s.port := rfl
@[simp] theorem State.clearForeground_attn (s : State) : s.clearForeground.attn = s.attn := rfl
@[simp] theorem State.clearForeground_ctrl (s : State) : s.clearForeground.ctrl = s.ctrl := rfl
@[simp] theorem State.clearForeground_freeCount (s : State) : s.clearForeground.freeCount = s.freeCount := rfl
@[simp] theorem State.clearForeground_pending (s : State) : s.clearForeground.pending = s.pending := rfl
@[simp] theorem State.clearForeground_resolver (s : State) : s.clearForeground.resolver = ⟨none, .stopped⟩ := rfl

end Sys2Proof.Machine
end

