-- ==== Sys2Proof/Laws/Queues.lean ====
section
/-! SUPPORT. What an offer does to a transmit queue and to a line end, and what an event raised does to the event set, each said once. -/

namespace Sys2Proof.Machine

/-! ## Offers -/

theorem pushCtrl_length (q : List CtrlItem) (f : Frame) (h : q.length ≤ Config.ctrlQueueMax) :
    (pushCtrl q f).length ≤ Config.ctrlQueueMax := by
  unfold pushCtrl
  split
  · simp; omega
  · split
    · have : CtrlItem.beacon ∈ q := by simpa using ‹q.contains .beacon = true›
      have := List.length_erase_of_mem this
      have := List.length_pos_of_mem ‹CtrlItem.beacon ∈ q›
      simp; omega
    · exact h

theorem pushCtrl_beacons (q : List CtrlItem) (f : Frame) : (pushCtrl q f).count .beacon ≤ q.count .beacon := by
  unfold pushCtrl
  split
  · simp
  · split
    · simp [List.count_erase_self]
    · exact Nat.le_refl _

theorem mem_pushCtrl {q : List CtrlItem} {f : Frame} {c : CtrlItem} (h : c ∈ pushCtrl q f) : c ∈ q ∨ c = .frame f := by
  unfold pushCtrl at h
  split at h
  · simpa using h
  · split at h
    · rcases List.mem_append.1 h with h | h
      · exact .inl (List.mem_of_mem_erase h)
      · exact .inr (by simpa using h)
    · exact .inl h

theorem pushDir_length (q : List Frame) (f : Frame) (h : q.length ≤ Config.dirQueueMax) :
    (pushDir q f).length ≤ Config.dirQueueMax := by
  unfold pushDir
  split
  · simp; omega
  · exact h

theorem mem_pushDir {q : List Frame} {f g : Frame} (h : g ∈ pushDir q f) : g ∈ q ∨ g = f := by
  unfold pushDir at h
  split at h
  · simpa using h
  · exact .inl h

/-- All that an offer of a control frame can do to an end. -/
theorem LineEndSt.offerCtrl_cases (l : LineEndSt) (f : Frame) :
    (l.state = .locked ∧ l.offerCtrl f = { l with ctrlQ := pushCtrl l.ctrlQ f }) ∨ (l.state ≠ .locked ∧ l.offerCtrl f = l) := by
  unfold LineEndSt.offerCtrl
  split
  · exact .inl ⟨‹_›, rfl⟩
  · exact .inr ⟨‹_›, rfl⟩

/-- All that an offer of a directory frame can do to an end. -/
theorem LineEndSt.offerDir_cases (l : LineEndSt) (f : Frame) :
    (l.state = .locked ∧ l.offerDir f = { l with dirQ := pushDir l.dirQ f }) ∨ (l.state ≠ .locked ∧ l.offerDir f = l) := by
  unfold LineEndSt.offerDir
  split
  · exact .inl ⟨‹_›, rfl⟩
  · exact .inr ⟨‹_›, rfl⟩

/-- All that an offered BEACON can do to an end. -/
theorem LineEndSt.offerBeacon_cases (l : LineEndSt) :
    (l.state.framing = true ∧ CtrlItem.beacon ∉ l.ctrlQ ∧ l.ctrlQ.length < Config.ctrlQueueMax ∧
      l.offerBeacon = { l with ctrlQ := l.ctrlQ ++ [.beacon] }) ∨ l.offerBeacon = l := by
  unfold LineEndSt.offerBeacon
  split
  · rename_i h
    simp only [Bool.and_eq_true, Bool.not_eq_true', decide_eq_true_eq] at h
    exact .inl ⟨h.1.1, by simpa using h.1.2, h.2, rfl⟩
  · exact .inr rfl

theorem LineEndSt.offerDir_sameButQueues (l : LineEndSt) (f : Frame) : l.SameButQueues (l.offerDir f) := by
  rcases l.offerDir_cases f with ⟨-, h⟩ | ⟨-, h⟩ <;> rw [h]

theorem LineEndSt.offerCtrl_sameButQueues (l : LineEndSt) (f : Frame) : l.SameButQueues (l.offerCtrl f) := by
  rcases l.offerCtrl_cases f with ⟨-, h⟩ | ⟨-, h⟩ <;> rw [h]

@[simp] theorem LineEndSt.offerDir_state (l : LineEndSt) (f : Frame) : (l.offerDir f).state = l.state := by
  rcases l.offerDir_cases f with ⟨-, h⟩ | ⟨-, h⟩ <;> rw [h]

@[simp] theorem LineEndSt.offerCtrl_state (l : LineEndSt) (f : Frame) : (l.offerCtrl f).state = l.state := by
  rcases l.offerCtrl_cases f with ⟨-, h⟩ | ⟨-, h⟩ <;> rw [h]

@[simp] theorem LineEndSt.offerDir_ctrlQ (l : LineEndSt) (f : Frame) : (l.offerDir f).ctrlQ = l.ctrlQ := by
  rcases l.offerDir_cases f with ⟨-, h⟩ | ⟨-, h⟩ <;> rw [h]

@[simp] theorem LineEndSt.offerCtrl_dirQ (l : LineEndSt) (f : Frame) : (l.offerCtrl f).dirQ = l.dirQ := by
  rcases l.offerCtrl_cases f with ⟨-, h⟩ | ⟨-, h⟩ <;> rw [h]

/-! ## Events -/

theorem Events.mem_orderWith {k j : EventKind} {ev : Events} :
    j ∈ ev.orderWith k ↔ j ∈ ev.order ∨ (ev.has k = false ∧ j = k) := by
  unfold Events.orderWith
  cases ev.has k <;> simp

/-- The event set after kind `k` has been raised by a change that makes it pending, leaves the other kinds as they were, and places it as
R164 says, is in order again. -/
theorem Events.Ok.raised {ev ev' : Events} {k : EventKind} (h : ev.Ok) (ho : ev'.order = ev.orderWith k) (hk : ev'.has k = true)
    (hj : ∀ j, j ≠ k → ev'.has j = ev.has j) (hall : ∀ j, j ∈ EventKind.all) : ev'.Ok := by
  refine ⟨?_, fun j _ => ?_⟩
  · rw [ho]
    unfold Events.orderWith
    split
    · exact h.1
    · rename_i hn
      have : k ∉ ev.order := fun hm => hn ((h.2 k (hall k)).1 hm)
      exact List.nodup_append.2 ⟨h.1, by simp, by rintro a ha b hb rfl; simp at hb; exact this (hb ▸ ha)⟩
  · rw [ho, Events.mem_orderWith, h.2 j (hall j)]
    by_cases hjk : j = k
    · subst hjk; cases hh : ev.has j <;> simp [hk]
    · simp [hj j hjk, hjk]

theorem EventKind.mem_all (k : EventKind) : k ∈ EventKind.all := by
  cases k <;> decide

theorem Events.Ok.raiseFault {ev : Events} (h : ev.Ok) (k : FaultKind) : (ev.raiseFault k).Ok :=
  h.raised (k := .fault) rfl rfl (fun j hj => by cases j <;> first | rfl | exact absurd rfl hj) EventKind.mem_all

theorem Events.Ok.raiseLine {ev : Events} (h : ev.Ok) (e : LineEnd) (x y : EndState) : (ev.raiseLine e x y).Ok := by
  cases e
  · exact h.raised (k := .lineA) rfl rfl (fun j hj => by cases j <;> first | rfl | exact absurd rfl hj) EventKind.mem_all
  · exact h.raised (k := .lineB) rfl rfl (fun j hj => by cases j <;> first | rfl | exact absurd rfl hj) EventKind.mem_all

theorem Events.Ok.raiseUnsettled {ev : Events} (h : ev.Ok) (c : ConsistState) : (ev.raiseUnsettled c).Ok :=
  h.raised (k := .consistUnsettled) rfl rfl (fun j hj => by cases j <;> first | rfl | exact absurd rfl hj) EventKind.mem_all

theorem Events.Ok.raiseView {ev : Events} (h : ev.Ok) (v : ViewData) : (ev.raiseView v).Ok :=
  h.raised (k := .consistView) rfl rfl (fun j hj => by cases j <;> first | rfl | exact absurd rfl hj) EventKind.mem_all

theorem Events.Ok.raiseBindingChanged {ev : Events} (h : ev.Ok) : ev.raiseBindingChanged.Ok :=
  h.raised (k := .bindingChanged) rfl rfl (fun j hj => by cases j <;> first | rfl | exact absurd rfl hj) EventKind.mem_all

theorem Events.Ok.raiseRemoteChange {ev : Events} (h : ev.Ok) (d : RemoteChangeData) : (ev.raiseRemoteChange d).Ok :=
  h.raised (k := .remoteChange) rfl rfl (fun j hj => by cases j <;> first | rfl | exact absurd rfl hj) EventKind.mem_all

theorem Events.Ok.raiseDirectoryFull {ev : Events} (h : ev.Ok) (t : Tag) : (ev.raiseDirectoryFull t).Ok :=
  h.raised (k := .directoryFull) rfl rfl (fun j hj => by cases j <;> first | rfl | exact absurd rfl hj) EventKind.mem_all

theorem Events.Ok.raiseWake {ev : Events} (h : ev.Ok) (c : Cause) : (ev.raiseWake c).Ok :=
  h.raised (k := .wake) rfl rfl (fun j hj => by cases j <;> first | rfl | exact absurd rfl hj) EventKind.mem_all

theorem Events.Ok.noteConsist {ev : Events} (h : ev.Ok) (c : ConsistState) : (ev.noteConsist c).Ok := by
  refine ⟨h.1, fun j hj => (h.2 j hj).trans ?_⟩
  cases j <;> simp [Events.noteConsist, Events.has]

end Sys2Proof.Machine
end

