-- ==== Sys2Proof/Laws/Rebinding.lean ====
section
/-! SUPPORT. What a re-resolution, a report of a record and an entry into ROLLING can change, said once: a relation between the state
before and the state after that every operation of the Binding Table keeps. -/

namespace Sys2Proof.Machine

/-- All that the Binding Table's work can change in a state: the bindings, the pin counts and the order of the mirrors, the pending
events, the query counter, and the directory queues of the ends. -/
structure State.Rebinds (s t : State) : Prop where
  lineA : { t.lineA with dirQ := s.lineA.dirQ } = s.lineA
  lineB : { t.lineB with dirQ := s.lineB.dirQ } = s.lineB
  roll : t.roll = s.roll
  consist : t.consist = s.consist
  traffic : { t.traffic with queryId := s.traffic.queryId } = s.traffic
  resolver : t.resolver = s.resolver
  port : t.port = s.port
  ctrl : t.ctrl = s.ctrl
  mask : t.attn.mask = s.attn.mask
  disp : t.attn.disp = s.attn.disp
  freeCount : t.freeCount = s.freeCount
  pending : t.pending = s.pending
  home : t.dir.home = s.dir.home
  interest : t.dir.interest = s.dir.interest
  allMode : t.dir.allMode = s.dir.allMode
  refreshT : t.dir.refreshT = s.dir.refreshT
  mirrors : ∀ m ∈ t.dir.mirrors, ∃ n ∈ s.dir.mirrors, (m.owner, m.body, m.fresh) = (n.owner, n.body, n.fresh)

theorem State.Rebinds.refl (s : State) : s.Rebinds s where
  lineA := rfl
  lineB := rfl
  roll := rfl
  consist := rfl
  traffic := rfl
  resolver := rfl
  port := rfl
  ctrl := rfl
  mask := rfl
  disp := rfl
  freeCount := rfl
  pending := rfl
  home := rfl
  interest := rfl
  allMode := rfl
  refreshT := rfl
  mirrors := fun m h => ⟨m, h, rfl⟩

theorem State.Rebinds.trans {s t u : State} (h : s.Rebinds t) (k : t.Rebinds u) : s.Rebinds u where
  lineA := by rw [← h.lineA, ← k.lineA]
  lineB := by rw [← h.lineB, ← k.lineB]
  roll := k.roll.trans h.roll
  consist := k.consist.trans h.consist
  traffic := by rw [← h.traffic, ← k.traffic]
  resolver := k.resolver.trans h.resolver
  port := k.port.trans h.port
  ctrl := k.ctrl.trans h.ctrl
  mask := k.mask.trans h.mask
  disp := k.disp.trans h.disp
  freeCount := k.freeCount.trans h.freeCount
  pending := k.pending.trans h.pending
  home := k.home.trans h.home
  interest := k.interest.trans h.interest
  allMode := k.allMode.trans h.allMode
  refreshT := k.refreshT.trans h.refreshT
  mirrors := fun m hm => by
    obtain ⟨n, hn, e⟩ := k.mirrors m hm
    obtain ⟨p, hp, e'⟩ := h.mirrors n hn
    exact ⟨p, hp, e.trans e'⟩

theorem State.Rebinds.foldl {f : State → Nat → State} (hf : ∀ (s : State) (i : Nat), s.Rebinds (f s i)) (l : List Nat) (s : State) :
    s.Rebinds (l.foldl f s) := by
  induction l generalizing s with
  | nil => exact .refl s
  | cons i l ih => exact (hf s i).trans (ih _)

theorem State.rebinds_setBindings (s : State) (b : BindingTable) : s.Rebinds (s.setBindings b) :=
  { State.Rebinds.refl s with }

theorem State.rebinds_setSlot (s : State) (i : Nat) (x : HandleSlot) : s.Rebinds (s.setSlot i x) :=
  s.rebinds_setBindings _

theorem State.rebinds_raise (s : State) (f : Events → Events) : s.Rebinds (s.raise f) :=
  { State.Rebinds.refl s with }

/-- A directory that differs in the pins and the order of its mirrors alone. -/
theorem State.rebinds_setDir (s : State) (d : Directory) (hh : d.home = s.dir.home) (hi : d.interest = s.dir.interest)
    (ha : d.allMode = s.dir.allMode) (hr : d.refreshT = s.dir.refreshT)
    (hm : ∀ m ∈ d.mirrors, ∃ n ∈ s.dir.mirrors, (m.owner, m.body, m.fresh) = (n.owner, n.body, n.fresh)) :
    s.Rebinds (s.setDir d) :=
  { State.Rebinds.refl s with home := hh, interest := hi, allMode := ha, refreshT := hr, mirrors := hm }

theorem Directory.repin_mirrors (d : Directory) (k : Ident × Tag × Side) (f : Nat → Nat) (m : Mirror)
    (h : m ∈ (d.repin k f).mirrors) : ∃ n ∈ d.mirrors, (m.owner, m.body, m.fresh) = (n.owner, n.body, n.fresh) := by
  obtain ⟨n, hn, rfl⟩ := List.mem_map.1 h
  exact ⟨n, hn, by split <;> rfl⟩

/-- What a pin moved from one mirror to another leaves unchanged. -/
theorem Directory.movePin_keeps (d : Directory) (x y : Option (Ident × Tag × Side)) :
    (d.movePin x y).home = d.home ∧ (d.movePin x y).interest = d.interest ∧ (d.movePin x y).allMode = d.allMode ∧
      (d.movePin x y).refreshT = d.refreshT ∧ (d.movePin x y).mirrors.length = d.mirrors.length ∧
      ∀ m ∈ (d.movePin x y).mirrors, ∃ n ∈ d.mirrors, (m.owner, m.body, m.fresh) = (n.owner, n.body, n.fresh) := by
  unfold Directory.movePin
  split
  · exact ⟨rfl, rfl, rfl, rfl, rfl, fun m h => ⟨m, h, rfl⟩⟩
  · cases x <;> cases y
    · exact ⟨rfl, rfl, rfl, rfl, rfl, fun m h => ⟨m, h, rfl⟩⟩
    · exact ⟨rfl, rfl, rfl, rfl, by simp [Directory.repin], fun m h => d.repin_mirrors _ _ m h⟩
    · exact ⟨rfl, rfl, rfl, rfl, by simp [Directory.repin], fun m h => d.repin_mirrors _ _ m h⟩
    · refine ⟨rfl, rfl, rfl, rfl, by simp [Directory.repin], fun m h => ?_⟩
      obtain ⟨n, hn, e⟩ := Directory.repin_mirrors _ _ _ m h
      obtain ⟨p, hp, e'⟩ := Directory.repin_mirrors _ _ _ n hn
      exact ⟨p, hp, e.trans e'⟩

theorem Directory.findMirror_mem {d : Directory} {o : Ident} {t : Tag} {sd : Side} {m : Mirror}
    (h : d.findMirror o t sd = some m) : m ∈ d.mirrors :=
  List.mem_of_find?_eq_some h

theorem Directory.findMirror_key {d : Directory} {o : Ident} {t : Tag} {sd : Side} {m : Mirror}
    (h : d.findMirror o t sd = some m) : m.owner = o ∧ m.body.tag = t ∧ m.body.side = sd := by
  have := List.find?_some h
  simpa [Mirror.hasKey] using this

theorem State.rebinds_use (s : State) (h : Hit) : s.Rebinds (s.use h) := by
  unfold State.use
  split
  · exact .refl s
  · unfold Directory.touch
    split
    · refine s.rebinds_setDir _ rfl rfl rfl rfl fun m hm => ?_
      rcases List.mem_append.1 hm with hm | hm
      · exact ⟨m, List.mem_of_mem_filter hm, rfl⟩
      · exact ⟨m, by simp at hm; exact hm ▸ Directory.findMirror_mem ‹_›, rfl⟩
    · exact s.rebinds_setDir _ rfl rfl rfl rfl fun m hm => ⟨m, hm, rfl⟩

theorem State.rebinds_useFound (s : State) (f : Found) : s.Rebinds (s.useFound f) := by
  cases f
  case hit h => exact s.rebinds_use h
  all_goals exact .refl s

theorem State.rebinds_movePin (s : State) (x y : Option (Ident × Tag × Side)) : s.Rebinds (s.setDir (s.dir.movePin x y)) :=
  have h := s.dir.movePin_keeps x y
  s.rebinds_setDir _ h.1 h.2.1 h.2.2.1 h.2.2.2.1 h.2.2.2.2.2

theorem State.rebinds_takeContents (s : State) (i : Nat) (b : Binding) (st : BindState) (stale : Bool) :
    s.Rebinds (s.takeContents i b st stale) := by
  unfold State.takeContents
  split
  · exact s.rebinds_movePin _ _
  · exact (s.rebinds_movePin _ _).trans ((State.rebinds_setSlot _ _ _).trans (State.rebinds_raise _ _))

theorem State.rebinds_abandonBackground (s : State) : s.Rebinds s.abandonBackground :=
  s.rebinds_setBindings _

theorem State.rebinds_reviewBackground (s : State) (i : Nat) (f : Found) : s.Rebinds (s.reviewBackground i f) := by
  unfold State.reviewBackground
  split
  · exact .refl s
  · split
    · exact .refl s
    · split
      · split
        · exact .refl s
        · exact s.rebinds_abandonBackground
      all_goals exact s.rebinds_abandonBackground

theorem State.rebinds_reResolve (s : State) (i : Nat) : s.Rebinds (s.reResolve i) := by
  unfold State.reResolve
  split
  · exact .refl s
  · exact (s.rebinds_useFound _).trans ((State.rebinds_takeContents _ _ _ _ _).trans (State.rebinds_reviewBackground _ _ _))

theorem LineEndSt.offerDir_keeps (l : LineEndSt) (f : Frame) : { l.offerDir f with dirQ := l.dirQ } = l := by
  rcases l.offerDir_cases f with ⟨-, h⟩ | ⟨-, h⟩ <;> rw [h]

theorem State.rebinds_offerDir (s : State) (e : LineEnd) (f : Frame) : s.Rebinds (s.offerDir e f) := by
  cases e
  · exact { State.Rebinds.refl s with lineA := s.lineA.offerDir_keeps f }
  · exact { State.Rebinds.refl s with lineB := s.lineB.offerDir_keeps f }

theorem State.rebinds_sendUnicast (s : State) (t : Nat) (p : Payload) : s.Rebinds (s.sendUnicast t p) := by
  unfold State.sendUnicast
  split
  · exact s.rebinds_offerDir _ _
  · exact .refl s

theorem State.rebinds_freshQuery (s : State) (o : Option Byte) (t : Nat) (tag : Tag) : s.Rebinds (s.freshQuery o t tag) := by
  unfold State.freshQuery
  exact State.Rebinds.trans (t := s.setTraffic { s.traffic with queryId := nextQueryId s.traffic.queryId o })
    { State.Rebinds.refl s with traffic := rfl } (State.rebinds_sendUnicast _ _ _)

theorem State.rebinds_startBackground (s : State) : s.Rebinds s.startBackground := by
  unfold State.startBackground
  split
  · split
    · exact .refl s
    · split
      · exact .refl s
      · split
        · exact .refl s
        · split
          · exact .refl s
          · exact (s.rebinds_freshQuery _ _ _).trans (State.rebinds_setBindings _ _)
  · exact .refl s

/-- Every binding re-resolved: the relation holds of it (R144). -/
theorem State.rebinds_reResolveAll (s : State) : s.Rebinds s.reResolveAll :=
  (State.Rebinds.foldl State.rebinds_reResolve slots s).trans (State.rebinds_startBackground _)

theorem State.rebinds_reResolveIf (t : Tag) (s : State) (i : Nat) : s.Rebinds (s.reResolveIf t i) := by
  unfold State.reResolveIf
  split
  · split
    · exact s.rebinds_reResolve i
    · exact .refl s
  · exact .refl s

/-- A record reported: the relation holds of it (R145). -/
theorem State.rebinds_recordChanged (s : State) (t : Tag) : s.Rebinds (s.recordChanged t) :=
  (State.Rebinds.foldl (State.rebinds_reResolveIf t) slots s).trans (State.rebinds_startBackground _)

theorem State.rebinds_markStale (s : State) (i : Nat) : s.Rebinds (s.markStale i) := by
  unfold State.markStale
  split
  · exact .refl s
  · exact s.rebinds_takeContents _ _ _ _

/-- Entry into ROLLING or DEGRADED at the Binding Table: the relation holds of it (R146). -/
theorem State.rebinds_bindingsUnsettled (s : State) : s.Rebinds s.bindingsUnsettled :=
  s.rebinds_abandonBackground.trans (State.Rebinds.foldl State.rebinds_markStale slots _)

/-- An adoption at the Binding Table: the relation holds of it (R144). -/
theorem State.rebinds_bindingsAdopt (s : State) : s.Rebinds s.bindingsAdopt :=
  s.rebinds_abandonBackground.trans (State.rebinds_reResolveAll _)

/-! ## The slots of the table -/

theorem State.slot_setSlot (s : State) (i j : Nat) (x : HandleSlot) (hi : i < Config.maxHandles) :
    (s.setSlot i x).slot j = if i = j then x else s.slot j := by
  simp only [State.slot, State.setSlot, State.setBindings, Vector.getElem?_setIfInBounds]
  split
  · subst_vars; simp
  · rfl

theorem State.slot_setSlot_same (s : State) (i : Nat) (x : HandleSlot) (hi : i < Config.maxHandles) :
    (s.setSlot i x).slot i = x := by
  simp [s.slot_setSlot i i x hi]

theorem State.slot_setSlot_ne (s : State) (i j : Nat) (x : HandleSlot) (h : i ≠ j) :
    (s.setSlot i x).slot j = s.slot j := by
  simp [State.slot, State.setSlot, State.setBindings, h]

theorem mem_slots {i : Nat} : i ∈ slots ↔ i < Config.maxHandles := by
  simp [slots]

/-- The place that a search of the table gives is a place of the table, and its slot passes the test. -/
theorem State.firstSlot_some {s : State} {p : HandleSlot → Bool} {i : Nat} (h : s.firstSlot p = some i) :
    i ∈ slots ∧ p (s.slot i) = true :=
  ⟨List.mem_of_find?_eq_some h, by simpa using List.find?_some h⟩

theorem State.firstSlot_none {s : State} {p : HandleSlot → Bool} (h : s.firstSlot p = none) :
    ∀ i ∈ slots, p (s.slot i) = false := by
  simpa [State.firstSlot, List.find?_eq_none] using h

end Sys2Proof.Machine
end

