-- ==== Sys2Proof/Laws/Queue.lean ====
section
/-! SUPPORT. The queue of commands that wait is left alone by the shared operations, one lemma for each. -/

namespace Sys2Proof.Machine

/-- A piece of work that leaves the queue of waiting commands alone. -/
abbrev KeepsQueue (f : State → State) : Prop :=
  ∀ s, (f s).pending = s.pending

@[simp] theorem State.recordChanged_pending (s : State) (t : Tag) : (s.recordChanged t).pending = s.pending :=
  (s.rebinds_recordChanged t).pending

@[simp] theorem State.reResolveAll_pending (s : State) : s.reResolveAll.pending = s.pending :=
  s.rebinds_reResolveAll.pending

@[simp] theorem State.startBackground_pending (s : State) : s.startBackground.pending = s.pending :=
  s.rebinds_startBackground.pending

@[simp] theorem State.bindingsUnsettled_pending (s : State) : s.bindingsUnsettled.pending = s.pending :=
  s.rebinds_bindingsUnsettled.pending

@[simp] theorem State.bindingsAdopt_pending (s : State) : s.bindingsAdopt.pending = s.pending :=
  s.rebinds_bindingsAdopt.pending

@[simp] theorem State.takeContents_pending (s : State) (i : Nat) (b : Binding) (st : BindState) (x : Bool) :
    (s.takeContents i b st x).pending = s.pending :=
  (s.rebinds_takeContents i b st x).pending

@[simp] theorem State.use_pending (s : State) (h : Hit) : (s.use h).pending = s.pending :=
  (s.rebinds_use h).pending

@[simp] theorem State.useFound_pending (s : State) (f : Found) : (s.useFound f).pending = s.pending :=
  (s.rebinds_useFound f).pending

@[simp] theorem State.freshQuery_pending (s : State) (o : Option Byte) (t : Nat) (g : Tag) :
    (s.freshQuery o t g).pending = s.pending :=
  (s.rebinds_freshQuery o t g).pending

@[simp] theorem State.resendQuery_pending (s : State) (id : Byte) (t : Nat) (g : Tag) :
    (s.resendQuery id t g).pending = s.pending :=
  (s.rebinds_sendUnicast t _).pending

theorem eitherOrder_pending {f g : State → State} (hf : KeepsQueue f) (hg : KeepsQueue g) (s : State) :
    (eitherOrder f g s).pending = s.pending := by
  unfold eitherOrder
  dsimp only
  split <;> simp [hf _, hg _]

@[simp] theorem State.raiseBeside_pending (s : State) (n : Nat) (k : EventKind) (f : Events → Events) :
    (s.raiseBeside n k f).pending = s.pending := by
  unfold State.raiseBeside
  dsimp only
  split <;> rfl

@[simp] theorem State.reportFault_pending (s : State) (k : FaultKind) : (s.reportFault k).pending = s.pending := by
  unfold State.reportFault
  split <;> rfl

@[simp] theorem State.makeRoom_pending (s : State) : s.makeRoom.pending = s.pending := by
  unfold State.makeRoom
  split
  · rfl
  · split <;> simp

@[simp] theorem State.addMirror_pending (s : State) (o : Ident) (r : Rec) : (s.addMirror o r).pending = s.pending := by
  unfold State.addMirror
  split <;> simp

@[simp] theorem State.updateMirror_pending (s : State) (m : Mirror) (r : Rec) : (s.updateMirror m r).pending = s.pending := by
  simp [State.updateMirror]

@[simp] theorem State.storeMirror_pending (s : State) (o : Ident) (r : Rec) : (s.storeMirror o r).pending = s.pending := by
  unfold State.storeMirror
  dsimp only
  split <;> simp

@[simp] theorem State.keepBody_pending (s : State) (o : Ident) (r : Rec) : (s.keepBody o r).pending = s.pending := by
  unfold State.keepBody
  split <;> simp

@[simp] theorem State.storeAnswer_pending (s : State) (o : Ident) (bs : List RecordBody) :
    (s.storeAnswer o bs).pending = s.pending := by
  unfold State.storeAnswer
  generalize bs.filterMap goodBody = l
  induction l generalizing s with
  | nil => rfl
  | cons r l ih => simp [ih]

@[simp] theorem State.takePublished_pending (s : State) (o : Ident) (b : RecordBody) :
    (s.takePublished o b).pending = s.pending := by
  unfold State.takePublished
  split
  · rfl
  · split
    · simp
    · split <;> simp

@[simp] theorem State.takeWithdrawn_pending (s : State) (o : Ident) (t : Tag) (sd : Byte) :
    (s.takeWithdrawn o t sd).pending = s.pending := by
  unfold State.takeWithdrawn
  split
  · rfl
  · split
    · split <;> simp
    · rfl

@[simp] theorem State.publishChange_pending (c : HomeChange) (s : State) : (s.publishChange c).pending = s.pending := by
  unfold State.publishChange
  split
  · rfl
  · split
    · dsimp only; split <;> simp
    · split <;> simp
    · split <;> simp

@[simp] theorem State.homeChanged_pending (s : State) (c : HomeChange) : (s.homeChanged c).pending = s.pending :=
  eitherOrder_pending (fun s => s.recordChanged_pending c.tag) (State.publishChange_pending c) s

@[simp] theorem State.changeHome_pending (s : State) (x y : Rec) : (s.changeHome x y).pending = s.pending := by
  unfold State.changeHome
  split
  · rfl
  · simp

@[simp] theorem State.publishHome_pending (s : State) (k : Tag × Side) : (s.publishHome k).pending = s.pending := by
  unfold State.publishHome
  split <;> simp

@[simp] theorem State.burstFrom_pending (l : List (Tag × Side)) (s : State) : (s.burstFrom l).pending = s.pending := by
  induction l generalizing s with
  | nil => rfl
  | cons k l ih =>
    unfold State.burstFrom
    split
    · simp [ih]
    · rfl

@[simp] theorem State.burstStart_pending (s : State) : s.burstStart.pending = s.pending :=
  State.burstFrom_pending _ s

@[simp] theorem State.burstContinue_pending (s : State) : s.burstContinue.pending = s.pending := by
  unfold State.burstContinue
  split <;> simp

@[simp] theorem State.createBinding_pending (s : State) (i : Nat) (q : Question) (st : BindState) :
    (s.createBinding i q st).pending = s.pending := rfl

@[simp] theorem State.completeLookup_pending (s : State) (o : Outcome) : (s.completeLookup o).pending = s.pending := by
  cases o <;> rfl

@[simp] theorem State.completeBind_pending (s : State) (i : Nat) (q : Question) (o : Outcome) :
    (s.completeBind i q o).pending = s.pending := by
  cases o <;> simp [State.completeBind]

@[simp] theorem State.endResolution_pending (s : State) (o : Outcome) : (s.endResolution o).pending = s.pending := by
  unfold State.endResolution
  split
  · split <;> simp
  · simp

@[simp] theorem State.abandonForeground_pending (s : State) : s.abandonForeground.pending = s.pending := by
  unfold State.abandonForeground
  split <;> simp

@[simp] theorem State.abandonChange_pending (s : State) : s.abandonChange.pending = s.pending := by
  unfold State.abandonChange
  split <;> simp

@[simp] theorem State.trafficAdopt_pending (s : State) : s.trafficAdopt.pending = s.pending := by
  simp [State.trafficAdopt]

@[simp] theorem State.reportUnsettled_pending (s : State) : s.reportUnsettled.pending = s.pending := by
  simp [State.reportUnsettled]

end Sys2Proof.Machine
end

