-- ==== Sys2Proof/Laws/Adoption.lean ====
section
/-! SUPPORT. What the work of the other blocks at an adoption and at an entry into ROLLING leaves alone, said once, and with it what an
adoption and a roll-call trigger leave in the Roll-Call Engine and in the settings of the host. -/

namespace Sys2Proof.Machine

/-- The roll call, the roster, the queue and what only the host sets are left alone. -/
structure State.SameTrain (s t : State) : Prop where
  roll : t.roll = s.roll
  consist : t.consist = s.consist
  settings : s.KeepsSettings t
  pending : t.pending = s.pending

theorem State.SameTrain.refl (s : State) : s.SameTrain s :=
  ⟨rfl, rfl, ⟨rfl, rfl, rfl, rfl, rfl, rfl⟩, rfl⟩

theorem State.SameTrain.trans {s t u : State} (h : s.SameTrain t) (k : t.SameTrain u) : s.SameTrain u := by
  obtain ⟨h1, h2, ⟨a, b, c, d, e, f⟩, h3⟩ := h
  obtain ⟨k1, k2, ⟨a', b', c', d', e', f'⟩, k3⟩ := k
  exact ⟨k1.trans h1, k2.trans h2, ⟨a'.trans a, b'.trans b, c'.trans c, d'.trans d, e'.trans e, f'.trans f⟩, k3.trans h3⟩

theorem State.Rebinds.sameTrain {s t : State} (h : s.Rebinds t) : s.SameTrain t :=
  ⟨h.roll, h.consist, ⟨h.ctrl, h.home, h.interest, h.allMode, h.mask, h.disp⟩, h.pending⟩

theorem State.sameTrain_complete (s : State) (st : Status) (d : List Byte) (x : Bool) : s.SameTrain (s.complete st d x) :=
  { State.SameTrain.refl s with }

theorem State.sameTrain_setTraffic (s : State) (x : Traffic) : s.SameTrain (s.setTraffic x) :=
  { State.SameTrain.refl s with }

theorem State.sameTrain_setResolver (s : State) (x : Resolver) : s.SameTrain (s.setResolver x) :=
  { State.SameTrain.refl s with }

theorem State.sameTrain_raise (s : State) (f : Events → Events) : s.SameTrain (s.raise f) :=
  (s.rebinds_raise f).sameTrain

theorem State.sameTrain_updEnd (s : State) (e : LineEnd) (f : LineEndSt → LineEndSt) : s.SameTrain (s.updEnd e f) := by
  cases e <;> exact { State.SameTrain.refl s with }

theorem State.sameTrain_offerCtrl (s : State) (e : LineEnd) (f : Frame) : s.SameTrain (s.offerCtrl e f) :=
  s.sameTrain_updEnd e _

theorem State.sameTrain_createBinding (s : State) (i : Nat) (q : Question) (st : BindState) :
    s.SameTrain (s.createBinding i q st) :=
  (s.rebinds_movePin _ _).sameTrain.trans
    ((State.rebinds_setSlot _ _ _).sameTrain.trans (State.sameTrain_complete _ _ _ _))

theorem State.sameTrain_completeLookup (s : State) (o : Outcome) : s.SameTrain (s.completeLookup o) := by
  cases o <;> exact s.sameTrain_complete _ _ _

theorem State.sameTrain_completeBind (s : State) (i : Nat) (q : Question) (o : Outcome) :
    s.SameTrain (s.completeBind i q o) := by
  cases o
  case consistChanged => exact (s.rebinds_useFound _).sameTrain.trans (State.sameTrain_createBinding _ _ _ _)
  all_goals exact s.sameTrain_createBinding _ _ _

/-- The end of a resolution changes bindings, pins and the port alone (R132 to R134, R139). -/
theorem State.sameTrain_endResolution (s : State) (o : Outcome) : s.SameTrain (s.endResolution o) := by
  unfold State.endResolution
  split
  · split
    · exact s.sameTrain_completeBind _ _ _
    all_goals exact s.sameTrain_completeLookup _
  · exact s.sameTrain_completeLookup _

theorem State.sameTrain_abandonForeground (s : State) : s.SameTrain s.abandonForeground := by
  unfold State.abandonForeground
  split
  · exact .refl s
  · exact (s.sameTrain_setResolver _).trans (State.sameTrain_endResolution _ _)

theorem State.sameTrain_abandonChange (s : State) : s.SameTrain s.abandonChange := by
  unfold State.abandonChange
  split
  · exact .refl s
  · exact (s.sameTrain_setTraffic _).trans (State.sameTrain_complete _ _ _ _)

theorem State.sameTrain_trafficAdopt (s : State) : s.SameTrain s.trafficAdopt :=
  s.sameTrain_abandonChange.trans (State.sameTrain_setTraffic _ _)

theorem State.sameTrain_purge (s : State) : s.SameTrain s.purge :=
  { State.SameTrain.refl s with settings := ⟨rfl, rfl, rfl, rfl, rfl, rfl⟩ }

theorem State.sameTrain_setRemainder (s : State) (l : List (Tag × Side)) : s.SameTrain (s.setRemainder l) :=
  s.sameTrain_setTraffic _

theorem State.sameTrain_broadcast (s : State) (p : Payload) : s.SameTrain (s.broadcast p) :=
  ((s.rebinds_offerDir .a _).trans (State.rebinds_offerDir _ .b _)).sameTrain

theorem State.sameTrain_burstFrom (l : List (Tag × Side)) (s : State) : s.SameTrain (s.burstFrom l) := by
  induction l generalizing s with
  | nil => exact s.sameTrain_setRemainder _
  | cons k l ih =>
    unfold State.burstFrom
    split
    · refine State.SameTrain.trans ?_ (ih _)
      unfold State.publishHome
      split
      · exact s.sameTrain_broadcast _
      · exact .refl s
    · exact s.sameTrain_setRemainder _

/-- Two pieces of work of which each leaves the train alone leave it alone in either order. -/
theorem State.sameTrain_eitherOrder {f g : State → State} (hf : ∀ s, State.SameTrain s (f s)) (hg : ∀ s, State.SameTrain s (g s))
    (s : State) : s.SameTrain (eitherOrder f g s) := by
  have h := (hf s).trans (hg (f s))
  unfold eitherOrder
  dsimp only
  split
  · exact h
  · exact h.trans { State.SameTrain.refl _ with }

/-- Entry into ROLLING or DEGRADED at the other blocks (R32). -/
theorem State.sameTrain_reportUnsettled (s : State) : s.SameTrain s.reportUnsettled :=
  (s.sameTrain_setRemainder []).trans
    ((State.sameTrain_abandonChange _).trans
      ((State.sameTrain_abandonForeground _).trans (State.rebinds_bindingsUnsettled _).sameTrain))

/-! ## Adoption and trigger -/

@[simp] theorem State.reportFault_roll (s : State) (k : FaultKind) : (s.reportFault k).roll = s.roll := by
  unfold State.reportFault; split <;> rfl
@[simp] theorem State.reportFault_ctrl (s : State) (k : FaultKind) : (s.reportFault k).ctrl = s.ctrl := by
  unfold State.reportFault; split <;> rfl
@[simp] theorem State.reportFault_dir (s : State) (k : FaultKind) : (s.reportFault k).dir = s.dir := by
  unfold State.reportFault; split <;> rfl
@[simp] theorem State.reportFault_traffic (s : State) (k : FaultKind) : (s.reportFault k).traffic = s.traffic := by
  unfold State.reportFault; split <;> rfl

@[simp] theorem State.recomputeCabs_roll (s : State) : (s.recomputeCabs).roll = s.roll := by
  unfold State.recomputeCabs; dsimp only; split <;> simp
@[simp] theorem State.recomputeCabs_ctrl (s : State) : (s.recomputeCabs).ctrl = s.ctrl := by
  unfold State.recomputeCabs; dsimp only; split <;> simp
@[simp] theorem State.recomputeCabs_dir (s : State) : (s.recomputeCabs).dir = s.dir := by
  unfold State.recomputeCabs; dsimp only; split <;> simp
@[simp] theorem State.recomputeCabs_traffic (s : State) : (s.recomputeCabs).traffic = s.traffic := by
  unfold State.recomputeCabs; dsimp only; split <;> simp
@[simp] theorem State.recomputeCabs_pending (s : State) : (s.recomputeCabs).pending = s.pending := by
  unfold State.recomputeCabs; dsimp only; split <;> simp

@[simp] theorem State.stepView_roll (s : State) : (s.stepView).roll = s.roll := rfl
@[simp] theorem State.stepView_ctrl (s : State) : (s.stepView).ctrl = s.ctrl := rfl
@[simp] theorem State.stepView_dir (s : State) : (s.stepView).dir = s.dir := rfl
@[simp] theorem State.stepView_traffic (s : State) : (s.stepView).traffic = s.traffic := rfl
@[simp] theorem State.stepView_pending (s : State) : (s.stepView).pending = s.pending := rfl

@[simp] theorem State.sendSteer_roll (s : State) : (s.sendSteer).roll = s.roll := by
  simp [State.sendSteer]
@[simp] theorem State.sendSteer_ctrl (s : State) : (s.sendSteer).ctrl = s.ctrl := by
  simp [State.sendSteer]
@[simp] theorem State.sendSteer_dir (s : State) : (s.sendSteer).dir = s.dir := by
  simp [State.sendSteer]
@[simp] theorem State.sendSteer_traffic (s : State) : (s.sendSteer).traffic = s.traffic := by
  simp [State.sendSteer]
@[simp] theorem State.sendSteer_pending (s : State) : (s.sendSteer).pending = s.pending := by
  simp [State.sendSteer]

@[simp] theorem State.tableAdopt_roll (s : State) (r : List RosterEntry) (e : Epoch) : (s.tableAdopt r e).roll = s.roll := by
  simp [State.tableAdopt]
@[simp] theorem State.tableAdopt_ctrl (s : State) (r : List RosterEntry) (e : Epoch) : (s.tableAdopt r e).ctrl = s.ctrl := by
  simp [State.tableAdopt]
@[simp] theorem State.tableAdopt_dir (s : State) (r : List RosterEntry) (e : Epoch) : (s.tableAdopt r e).dir = s.dir := by
  simp [State.tableAdopt]
@[simp] theorem State.tableAdopt_traffic (s : State) (r : List RosterEntry) (e : Epoch) : (s.tableAdopt r e).traffic = s.traffic := by
  simp [State.tableAdopt]
@[simp] theorem State.tableAdopt_pending (s : State) (r : List RosterEntry) (e : Epoch) : (s.tableAdopt r e).pending = s.pending := by
  simp [State.tableAdopt]

@[simp] theorem State.offerCtrlIf_roll (s : State) (f : Option (LineEnd × Frame)) : (s.offerCtrlIf f).roll = s.roll := by
  unfold State.offerCtrlIf; split <;> simp
@[simp] theorem State.offerCtrlIf_ctrl (s : State) (f : Option (LineEnd × Frame)) : (s.offerCtrlIf f).ctrl = s.ctrl := by
  unfold State.offerCtrlIf; split <;> simp
@[simp] theorem State.offerCtrlIf_dir (s : State) (f : Option (LineEnd × Frame)) : (s.offerCtrlIf f).dir = s.dir := by
  unfold State.offerCtrlIf; split <;> simp
@[simp] theorem State.offerCtrlIf_traffic (s : State) (f : Option (LineEnd × Frame)) : (s.offerCtrlIf f).traffic = s.traffic := by
  unfold State.offerCtrlIf; split <;> simp
@[simp] theorem State.offerCtrlIf_pending (s : State) (f : Option (LineEnd × Frame)) : (s.offerCtrlIf f).pending = s.pending := by
  unfold State.offerCtrlIf; split <;> simp

@[simp] theorem State.compareOwnCab_roll (s : State) : (s.compareOwnCab).roll = s.roll := by
  unfold State.compareOwnCab; split <;> (try split) <;> simp
@[simp] theorem State.compareOwnCab_ctrl (s : State) : (s.compareOwnCab).ctrl = s.ctrl := by
  unfold State.compareOwnCab; split <;> (try split) <;> simp
@[simp] theorem State.compareOwnCab_dir (s : State) : (s.compareOwnCab).dir = s.dir := by
  unfold State.compareOwnCab; split <;> (try split) <;> simp
@[simp] theorem State.compareOwnCab_traffic (s : State) : (s.compareOwnCab).traffic = s.traffic := by
  unfold State.compareOwnCab; split <;> (try split) <;> simp
@[simp] theorem State.compareOwnCab_pending (s : State) : (s.compareOwnCab).pending = s.pending := by
  unfold State.compareOwnCab; split <;> (try split) <;> simp

@[simp] theorem State.adoptionConflict_roll (s : State) : (s.adoptionConflict).roll = s.roll := by
  unfold State.adoptionConflict; split <;> simp
@[simp] theorem State.adoptionConflict_ctrl (s : State) : (s.adoptionConflict).ctrl = s.ctrl := by
  unfold State.adoptionConflict; split <;> simp
@[simp] theorem State.adoptionConflict_dir (s : State) : (s.adoptionConflict).dir = s.dir := by
  unfold State.adoptionConflict; split <;> simp
@[simp] theorem State.adoptionConflict_traffic (s : State) : (s.adoptionConflict).traffic = s.traffic := by
  unfold State.adoptionConflict; split <;> simp
@[simp] theorem State.adoptionConflict_pending (s : State) : (s.adoptionConflict).pending = s.pending := by
  unfold State.adoptionConflict; split <;> simp

/-- The later part of an adoption, from the purge on (R49): the train, the queue and the settings are left alone. -/
theorem State.sameTrain_adoptTail (s : State) :
    s.SameTrain (eitherOrder State.burstStart State.bindingsAdopt s.purge.trafficAdopt.abandonForeground) :=
  s.sameTrain_purge.trans ((State.sameTrain_trafficAdopt _).trans ((State.sameTrain_abandonForeground _).trans
    (State.sameTrain_eitherOrder (fun s => State.sameTrain_burstFrom _ s) (fun s => s.rebinds_bindingsAdopt.sameTrain) _)))

/-- An adoption at the Roll-Call Engine (R49). -/
theorem State.adopt_roll (s : State) (r : List RosterEntry) (e : Epoch) (f : Option (LineEnd × Frame)) :
    (s.adopt r e f).roll = { s.roll with epoch := e, state := .formed, attempts := 0, timer := .stopped } := by
  unfold State.adopt
  rw [(State.sameTrain_adoptTail _).roll]
  simp only [State.stepView_roll, State.adoptionConflict_roll, State.compareOwnCab_roll, State.offerCtrlIf_roll,
    State.tableAdopt_roll, State.updEnds_roll, State.rollAdopt]
  split <;> rfl

/-- An adoption leaves Part Control alone. -/
theorem State.adopt_ctrl (s : State) (r : List RosterEntry) (e : Epoch) (f : Option (LineEnd × Frame)) :
    (s.adopt r e f).ctrl = s.ctrl := by
  unfold State.adopt
  rw [(State.sameTrain_adoptTail _).settings.1]
  simp only [State.stepView_ctrl, State.adoptionConflict_ctrl, State.compareOwnCab_ctrl, State.offerCtrlIf_ctrl,
    State.tableAdopt_ctrl, State.updEnds_ctrl, State.rollAdopt]
  split <;> rfl

/-- An adoption leaves the home records alone. -/
theorem State.adopt_home (s : State) (r : List RosterEntry) (e : Epoch) (f : Option (LineEnd × Frame)) :
    (s.adopt r e f).dir.home = s.dir.home := by
  unfold State.adopt
  rw [(State.sameTrain_adoptTail _).settings.2.1]
  simp only [State.stepView_dir, State.adoptionConflict_dir, State.compareOwnCab_dir, State.offerCtrlIf_dir,
    State.tableAdopt_dir, State.updEnds_dir, State.rollAdopt]
  split <;> rfl

/-- An adoption leaves the queue of commands alone. -/
@[simp] theorem State.adopt_pending (s : State) (r : List RosterEntry) (e : Epoch) (f : Option (LineEnd × Frame)) :
    (s.adopt r e f).pending = s.pending := by
  unfold State.adopt
  rw [(State.sameTrain_adoptTail _).pending]
  simp only [State.stepView_pending, State.adoptionConflict_pending, State.compareOwnCab_pending, State.offerCtrlIf_pending,
    State.tableAdopt_pending, State.updEnds_pending, State.rollAdopt]
  split <;> rfl

/-- The ends, read as joined or not, say which of the three cases of a roll-call trigger is taken (R31). -/
theorem State.joinedEnds_cases (s : State) :
    (s.lineA.state ≠ .locked ∧ s.lineB.state ≠ .locked ∧ s.joinedEnds = .neither) ∨
    (s.lineA.state = .locked ∧ s.lineB.state ≠ .locked ∧ s.joinedEnds = .one .a) ∨
    (s.lineA.state ≠ .locked ∧ s.lineB.state = .locked ∧ s.joinedEnds = .one .b) ∨
    (s.lineA.state = .locked ∧ s.lineB.state = .locked ∧ s.joinedEnds = .two) := by
  by_cases ha : s.lineA.state = .locked <;> by_cases hb : s.lineB.state = .locked <;>
    simp [State.joinedEnds, State.joined, State.lineEnd, ha, hb]

/-- Entry into ROLLING (R31, R32): what it leaves in the Roll-Call Engine. -/
theorem State.enterRolling_roll (s : State) :
    s.enterRolling.roll = { s.roll with state := .rolling, attempts := 0, timer := .running Config.rollFastMs } :=
  (State.sameTrain_reportUnsettled _).roll

theorem State.enterRolling_consist (s : State) : s.enterRolling.consist = s.consist :=
  (State.sameTrain_reportUnsettled _).consist

theorem State.enterRolling_ctrl (s : State) : s.enterRolling.ctrl = s.ctrl :=
  (State.sameTrain_reportUnsettled _).settings.1

theorem State.enterRolling_pending (s : State) : s.enterRolling.pending = s.pending :=
  (State.sameTrain_reportUnsettled _).pending

@[simp] theorem State.originate_pending (s : State) (e : LineEnd) : (s.originate e).pending = s.pending := by
  simp [State.originate]

@[simp] theorem State.sendCalls_pending (s : State) : s.sendCalls.pending = s.pending := by
  simp [State.sendCalls]

@[simp] theorem State.startRolling_pending (s : State) : s.startRolling.pending = s.pending := by
  unfold State.startRolling
  split <;> simp [State.enterRolling_pending]

/-- A roll-call trigger leaves the queue of commands alone. -/
@[simp] theorem State.trigger_pending (s : State) : s.trigger.pending = s.pending := by
  unfold State.trigger
  split <;> simp

@[simp] theorem State.enterDegraded_pending (s : State) : s.enterDegraded.pending = s.pending := by
  simp [State.enterDegraded]

end Sys2Proof.Machine
end

