-- ==== Sys2Proof/Laws/Operands.lean ====
section
/-! SUPPORT. What the readers of codes and tags accept, one lemma for each: the code or bytes of a value, and nothing else. -/

namespace Sys2Proof

theorem LineEnd.ofCode_eq_some (b : Byte) (e : LineEnd) : LineEnd.ofCode b = some e ↔ b = e.code := by
  revert b; cases e <;> decide

namespace Machine

theorem CabEnd.ofCode_eq_some (b : Byte) (c : CabEnd) : CabEnd.ofCode b = some c ↔ b = c.code := by
  revert b; cases c <;> decide

theorem Side.ofCode_eq_some (b : Byte) (x : Side) : Side.ofCode b = some x ↔ b = x.code := by
  revert b; cases x <;> decide

theorem RecState.ofCode_eq_some (b : Byte) (x : RecState) : RecState.ofCode b = some x ↔ b = x.code := by
  revert b; cases x <;> decide

theorem Permission.ofCode_eq_some (b : Byte) (x : Permission) : Permission.ofCode b = some x ↔ b = x.code := by
  revert b; cases x <;> decide

theorem SideFilter.ofCode_eq_some (b : Byte) (x : SideFilter) : SideFilter.ofCode b = some x ↔ b = x.code := by
  revert b; cases x <;> decide

theorem ChangeOutcome.ofCode_eq_some (b : Byte) (x : ChangeOutcome) : ChangeOutcome.ofCode b = some x ↔ b = x.code := by
  revert b; cases x <;> decide

theorem Cmd.ofCode_code (c : Cmd) : Cmd.ofCode c.code = some c := by
  cases c <;> rfl

end Machine

/-- Reading `n` bytes splits the input after them. -/
theorem takeBytes_eq_some {n : Nat} {bs x rest : List Byte} :
    takeBytes n bs = some (x, rest) ↔ x.length = n ∧ bs = x ++ rest := by
  unfold takeBytes
  constructor
  · intro h
    split at h
    · obtain ⟨rfl, rfl⟩ := Prod.mk.inj (Option.some.inj h)
      exact ⟨by simp; omega, (List.take_append_drop n bs).symm⟩
    · cases h
  · rintro ⟨rfl, rfl⟩
    simp

/-- A tag is read from its length byte, in 1 to 16, and as many bytes. -/
theorem readTag_eq_some {bs rest : List Byte} {t : Tag} :
    readTag bs = some (t, rest) ↔ 1 ≤ t.length ∧ t.length ≤ 16 ∧ bs = tagBytes t ++ rest := by
  cases bs with
  | nil => simp [readTag, tagBytes]
  | cons n bs =>
    simp only [readTag, tagBytes, List.cons_append, List.cons.injEq]
    split
    · rename_i h
      rw [takeBytes_eq_some]
      constructor
      · rintro ⟨hl, rfl⟩
        refine ⟨by omega, by omega, ?_, rfl⟩
        apply BitVec.eq_of_toNat_eq
        simp [byteOf]; omega
      · rintro ⟨-, h16, rfl, rfl⟩
        exact ⟨by simp [byteOf]; omega, rfl⟩
    · rename_i h
      simp only [reduceCtorEq, false_iff]
      rintro ⟨h1, h16, rfl, -⟩
      apply h
      simp [byteOf]; omega

/-- Attributes are read from their length byte, in 0 to 8, and as many bytes. -/
theorem readAttrs_eq_some {bs rest a : List Byte} :
    readAttrs bs = some (a, rest) ↔ a.length ≤ 8 ∧ bs = byteOf a.length :: a ++ rest := by
  cases bs with
  | nil => simp [readAttrs]
  | cons n bs =>
    simp only [readAttrs, List.cons_append, List.cons.injEq]
    split
    · rename_i h
      rw [takeBytes_eq_some]
      constructor
      · rintro ⟨hl, rfl⟩
        refine ⟨by omega, ?_, rfl⟩
        apply BitVec.eq_of_toNat_eq
        simp [byteOf]; omega
      · rintro ⟨h8, rfl, rfl⟩
        exact ⟨by simp [byteOf]; omega, rfl⟩
    · rename_i h
      simp only [reduceCtorEq, false_iff]
      rintro ⟨h8, rfl, -⟩
      apply h
      simp [byteOf]; omega

namespace Machine

theorem all_tagByteOk {t : Tag} : t.all tagByteOk = true ↔ ∀ b ∈ t, 0x21#8 ≤ b ∧ b ≤ 0x7E#8 := by
  simp [tagByteOk]

/-- A tag parameter is a tag of good form behind its length. -/
theorem paramTag_eq_some {bs rest : List Byte} {t : Tag} :
    paramTag bs = some (t, rest) ↔ TagOk t ∧ bs = tagBytes t ++ rest := by
  unfold paramTag TagOk
  constructor
  · intro h
    split at h
    · rename_i t' rest' hr
      split at h
      · rename_i ha
        obtain ⟨rfl, rfl⟩ := Prod.mk.inj (Option.some.inj h)
        obtain ⟨h1, h16, hb⟩ := readTag_eq_some.1 hr
        exact ⟨⟨h1, h16, all_tagByteOk.1 ha⟩, hb⟩
      · cases h
    · cases h
  · rintro ⟨⟨h1, h16, hb⟩, rfl⟩
    rw [readTag_eq_some.2 ⟨h1, h16, rfl⟩]
    simp [all_tagByteOk.2 hb]

end Machine

end Sys2Proof
end

