-- ==== Sys2Proof/WellFormed.lean ====
section
/-! DEFINITION. Well-formed commands: a command that stands for a valid frame carries a frame whose fields lie in the ranges of R8.
Every other command is well formed whatever its operands are: the part judges them itself. `exec` gives an ill-formed frame command
the meaning R8 gives a frame that fails these checks. -/

namespace Sys2Proof

/-- The frame that a received-frame command carries, and the end it arrived on; none for the other commands. -/
def Instr.frame : Instr → Option (LineEnd × Frame)
  | .beacon e h senderEnd flags ea digest => some (e, ⟨h, .beacon senderEnd flags ea digest⟩)
  | .call e h => some (e, ⟨h, .call⟩)
  | .roll e h es => some (e, ⟨h, .roll es⟩)
  | .roster e h es => some (e, ⟨h, .roster es⟩)
  | .steer e h cab => some (e, ⟨h, .steer cab⟩)
  | .publish e h r => some (e, ⟨h, .publish r⟩)
  | .withdraw e h t side => some (e, ⟨h, .withdraw t side⟩)
  | .query e h id t => some (e, ⟨h, .query id t⟩)
  | .answer e h id rs => some (e, ⟨h, .answer id rs⟩)
  | .changeReq e h id t side desired => some (e, ⟨h, .changeReq id t side desired⟩)
  | .changeReply e h id outcome rev => some (e, ⟨h, .changeReply id outcome rev⟩)
  | .powerOn => none
  | .portReset => none
  | .contactClose _ => none
  | .contactOpen _ => none
  | .cabInputChange _ => none
  | .debounceTimerExpiry => none
  | .releaseTimerExpiry _ => none
  | .settleTimerExpiry _ => none
  | .lossTimerExpiry _ => none
  | .beaconTimerExpiry _ => none
  | .leakTimerExpiry _ => none
  | .rollTimerExpiry => none
  | .refreshWindowExpiry => none
  | .changeRequestTimerExpiry => none
  | .queryTimerExpiry => none
  | .backgroundQueryTimerExpiry => none
  | .frameTransmitStart _ => none
  | .invalidFrame _ => none
  | .writeTransaction _ => none
  | .identify _ _ => none
  | .getInfo _ _ => none
  | .sleep _ _ => none
  | .partReset _ _ => none
  | .lineStatus _ _ => none
  | .lineIsolate _ _ => none
  | .lineRestore _ _ => none
  | .lineUnbar _ _ => none
  | .consistRead _ _ => none
  | .rollCall _ _ => none
  | .recordOffer _ _ => none
  | .recordUpdate _ _ => none
  | .recordWithdraw _ _ => none
  | .recordList _ _ => none
  | .requestState _ _ => none
  | .lookup _ _ => none
  | .interestAdd _ _ => none
  | .interestClear _ _ => none
  | .interestAll _ _ => none
  | .bind _ _ => none
  | .unbind _ _ => none
  | .bindingGet _ _ => none
  | .bindingScan _ _ => none
  | .eventRead _ _ => none
  | .eventMask _ _ => none
  | .viewAck _ _ => none
  | .dispositionSet _ _ => none
  | .portResetRelease => none

/-- A well-formed command: its frame, if it carries one, is valid (R8). -/
def Instr.wellFormed (i : Instr) : Bool :=
  match i.frame with
  | some (_, f) => f.valid
  | none => true

end Sys2Proof
end

