-- ==== Sys2Proof/Laws/PerInstr.lean ====
section
/-! SUPPORT. The family Frames: the frame that a command carries, read back as a command of the end it arrived on, is that command. -/

namespace Sys2Proof.Laws

/-- Whatever frame a command carries, the command that this frame is on that end is the command itself. -/
def Frames.Statement (i : Instr) : Prop :=
  ∀ e f, i.frame = some (e, f) → Frame.toInstr e f = i

/-- A command that carries no frame satisfies the statement. -/
theorem Frames.of_none {i : Instr} (h : i.frame = none) : Frames.Statement i := by
  intro e f hf
  rw [h] at hf
  cases hf

/-- A command that is what its frame gives on its end satisfies the statement. -/
theorem Frames.of_some {i : Instr} {e : LineEnd} {f : Frame} (h : i.frame = some (e, f)) (hi : Frame.toInstr e f = i) :
    Frames.Statement i := by
  intro e' f' hf
  rw [h] at hf
  cases hf
  exact hi

theorem Frames.powerOn : Frames.Statement (.powerOn) :=
  Frames.of_none rfl

theorem Frames.portReset : Frames.Statement (.portReset) :=
  Frames.of_none rfl

theorem Frames.contactClose (e : LineEnd) : Frames.Statement (.contactClose e) :=
  Frames.of_none rfl

theorem Frames.contactOpen (e : LineEnd) : Frames.Statement (.contactOpen e) :=
  Frames.of_none rfl

theorem Frames.cabInputChange (active : Bool) : Frames.Statement (.cabInputChange active) :=
  Frames.of_none rfl

theorem Frames.debounceTimerExpiry : Frames.Statement (.debounceTimerExpiry) :=
  Frames.of_none rfl

theorem Frames.releaseTimerExpiry (e : LineEnd) : Frames.Statement (.releaseTimerExpiry e) :=
  Frames.of_none rfl

theorem Frames.settleTimerExpiry (e : LineEnd) : Frames.Statement (.settleTimerExpiry e) :=
  Frames.of_none rfl

theorem Frames.lossTimerExpiry (e : LineEnd) : Frames.Statement (.lossTimerExpiry e) :=
  Frames.of_none rfl

theorem Frames.beaconTimerExpiry (e : LineEnd) : Frames.Statement (.beaconTimerExpiry e) :=
  Frames.of_none rfl

theorem Frames.leakTimerExpiry (e : LineEnd) : Frames.Statement (.leakTimerExpiry e) :=
  Frames.of_none rfl

theorem Frames.rollTimerExpiry : Frames.Statement (.rollTimerExpiry) :=
  Frames.of_none rfl

theorem Frames.refreshWindowExpiry : Frames.Statement (.refreshWindowExpiry) :=
  Frames.of_none rfl

theorem Frames.changeRequestTimerExpiry : Frames.Statement (.changeRequestTimerExpiry) :=
  Frames.of_none rfl

theorem Frames.queryTimerExpiry : Frames.Statement (.queryTimerExpiry) :=
  Frames.of_none rfl

theorem Frames.backgroundQueryTimerExpiry : Frames.Statement (.backgroundQueryTimerExpiry) :=
  Frames.of_none rfl

theorem Frames.frameTransmitStart (e : LineEnd) : Frames.Statement (.frameTransmitStart e) :=
  Frames.of_none rfl

theorem Frames.invalidFrame (e : LineEnd) : Frames.Statement (.invalidFrame e) :=
  Frames.of_none rfl

theorem Frames.beacon (e : LineEnd) (hdr : Header) (senderEnd flags : Byte) (ea digest : Word) : Frames.Statement (.beacon e hdr senderEnd flags ea digest) :=
  Frames.of_some rfl rfl

theorem Frames.call (e : LineEnd) (hdr : Header) : Frames.Statement (.call e hdr) :=
  Frames.of_some rfl rfl

theorem Frames.roll (e : LineEnd) (hdr : Header) (entries : List CarEntry) : Frames.Statement (.roll e hdr entries) :=
  Frames.of_some rfl rfl

theorem Frames.roster (e : LineEnd) (hdr : Header) (entries : List CarEntry) : Frames.Statement (.roster e hdr entries) :=
  Frames.of_some rfl rfl

theorem Frames.steer (e : LineEnd) (hdr : Header) (cab : Byte) : Frames.Statement (.steer e hdr cab) :=
  Frames.of_some rfl rfl

theorem Frames.publish (e : LineEnd) (hdr : Header) (body : RecordBody) : Frames.Statement (.publish e hdr body) :=
  Frames.of_some rfl rfl

theorem Frames.withdraw (e : LineEnd) (hdr : Header) (tag : Tag) (side : Byte) : Frames.Statement (.withdraw e hdr tag side) :=
  Frames.of_some rfl rfl

theorem Frames.query (e : LineEnd) (hdr : Header) (id : Byte) (tag : Tag) : Frames.Statement (.query e hdr id tag) :=
  Frames.of_some rfl rfl

theorem Frames.answer (e : LineEnd) (hdr : Header) (id : Byte) (bodies : List RecordBody) : Frames.Statement (.answer e hdr id bodies) :=
  Frames.of_some rfl rfl

theorem Frames.changeReq (e : LineEnd) (hdr : Header) (id : Byte) (tag : Tag) (side desired : Byte) : Frames.Statement (.changeReq e hdr id tag side desired) :=
  Frames.of_some rfl rfl

theorem Frames.changeReply (e : LineEnd) (hdr : Header) (id outcome : Byte) (rev : Half) : Frames.Statement (.changeReply e hdr id outcome rev) :=
  Frames.of_some rfl rfl

theorem Frames.writeTransaction (bytes : List Byte) : Frames.Statement (.writeTransaction bytes) :=
  Frames.of_none rfl

theorem Frames.identify (tag : Byte) (params : List Byte) : Frames.Statement (.identify tag params) :=
  Frames.of_none rfl

theorem Frames.getInfo (tag : Byte) (params : List Byte) : Frames.Statement (.getInfo tag params) :=
  Frames.of_none rfl

theorem Frames.sleep (tag : Byte) (params : List Byte) : Frames.Statement (.sleep tag params) :=
  Frames.of_none rfl

theorem Frames.partReset (tag : Byte) (params : List Byte) : Frames.Statement (.partReset tag params) :=
  Frames.of_none rfl

theorem Frames.lineStatus (tag : Byte) (params : List Byte) : Frames.Statement (.lineStatus tag params) :=
  Frames.of_none rfl

theorem Frames.lineIsolate (tag : Byte) (params : List Byte) : Frames.Statement (.lineIsolate tag params) :=
  Frames.of_none rfl

theorem Frames.lineRestore (tag : Byte) (params : List Byte) : Frames.Statement (.lineRestore tag params) :=
  Frames.of_none rfl

theorem Frames.lineUnbar (tag : Byte) (params : List Byte) : Frames.Statement (.lineUnbar tag params) :=
  Frames.of_none rfl

theorem Frames.consistRead (tag : Byte) (params : List Byte) : Frames.Statement (.consistRead tag params) :=
  Frames.of_none rfl

theorem Frames.rollCall (tag : Byte) (params : List Byte) : Frames.Statement (.rollCall tag params) :=
  Frames.of_none rfl

theorem Frames.recordOffer (tag : Byte) (params : List Byte) : Frames.Statement (.recordOffer tag params) :=
  Frames.of_none rfl

theorem Frames.recordUpdate (tag : Byte) (params : List Byte) : Frames.Statement (.recordUpdate tag params) :=
  Frames.of_none rfl

theorem Frames.recordWithdraw (tag : Byte) (params : List Byte) : Frames.Statement (.recordWithdraw tag params) :=
  Frames.of_none rfl

theorem Frames.recordList (tag : Byte) (params : List Byte) : Frames.Statement (.recordList tag params) :=
  Frames.of_none rfl

theorem Frames.requestState (tag : Byte) (params : List Byte) : Frames.Statement (.requestState tag params) :=
  Frames.of_none rfl

theorem Frames.lookup (tag : Byte) (params : List Byte) : Frames.Statement (.lookup tag params) :=
  Frames.of_none rfl

theorem Frames.interestAdd (tag : Byte) (params : List Byte) : Frames.Statement (.interestAdd tag params) :=
  Frames.of_none rfl

theorem Frames.interestClear (tag : Byte) (params : List Byte) : Frames.Statement (.interestClear tag params) :=
  Frames.of_none rfl

theorem Frames.interestAll (tag : Byte) (params : List Byte) : Frames.Statement (.interestAll tag params) :=
  Frames.of_none rfl

theorem Frames.bind (tag : Byte) (params : List Byte) : Frames.Statement (.bind tag params) :=
  Frames.of_none rfl

theorem Frames.unbind (tag : Byte) (params : List Byte) : Frames.Statement (.unbind tag params) :=
  Frames.of_none rfl

theorem Frames.bindingGet (tag : Byte) (params : List Byte) : Frames.Statement (.bindingGet tag params) :=
  Frames.of_none rfl

theorem Frames.bindingScan (tag : Byte) (params : List Byte) : Frames.Statement (.bindingScan tag params) :=
  Frames.of_none rfl

theorem Frames.eventRead (tag : Byte) (params : List Byte) : Frames.Statement (.eventRead tag params) :=
  Frames.of_none rfl

theorem Frames.eventMask (tag : Byte) (params : List Byte) : Frames.Statement (.eventMask tag params) :=
  Frames.of_none rfl

theorem Frames.viewAck (tag : Byte) (params : List Byte) : Frames.Statement (.viewAck tag params) :=
  Frames.of_none rfl

theorem Frames.dispositionSet (tag : Byte) (params : List Byte) : Frames.Statement (.dispositionSet tag params) :=
  Frames.of_none rfl

theorem Frames.portResetRelease : Frames.Statement (.portResetRelease) :=
  Frames.of_none rfl

end Sys2Proof.Laws
end

