-- ==== Sys2Proof/Laws/Port.lean ====
section
/-! SUPPORT. What the Car Port and the transmitters do with bits and bytes, one lemma for each operation: a well-framed block is the
command it spells, and bits are the bytes that were shifted. -/

namespace Sys2Proof.Machine

/-! ## The receive buffer and the block -/

theorem length_commandBlock (c : Cmd) (tag : Byte) (ps : List Byte) : (commandBlock c tag ps).length = 4 + ps.length := by
  simp [commandBlock, be16Of, be16]; omega

/-- The block of a command with up to 512 parameter bytes fits the receive buffer (R154). -/
theorem take_commandBlock (c : Cmd) (tag : Byte) {ps : List Byte} (h : ps.length ≤ Config.maxParams) :
    (commandBlock c tag ps).take Config.rxBufferMax = commandBlock c tag ps := by
  apply List.take_of_length_le
  rw [length_commandBlock]
  simp only [Config.maxParams, Config.rxBufferMax] at *
  omega

/-- A length of up to 512 is read back from the two bytes that carry it. -/
theorem half_be16Of {n : Nat} (h : n ≤ Config.maxParams) :
    (half (((BitVec.ofNat 16 n) >>> 8).setWidth 8) ((BitVec.ofNat 16 n).setWidth 8)).toNat = n := by
  simp only [Config.maxParams] at h
  simp only [half, BitVec.toNat_append, BitVec.toNat_setWidth, BitVec.toNat_ushiftRight, BitVec.toNat_ofNat]
  rw [← Nat.shiftLeft_add_eq_or_of_lt (by omega), Nat.shiftLeft_eq, Nat.shiftRight_eq_div_pow]
  omega

/-- The checks of form pass the block of a command with a tag of its own (R156). -/
theorem checkBlock_commandBlock (c : Cmd) {tag : Byte} {ps : List Byte} (ht : tag ≠ 0#8) (h : ps.length ≤ Config.maxParams) :
    checkBlock (commandBlock c tag ps) (commandBlock c tag ps).length = .command c tag ps := by
  rw [length_commandBlock]
  simp only [commandBlock, be16Of, be16, List.cons_append, List.nil_append, checkBlock, half_be16Of h, Cmd.ofCode_code, ht, if_false]
  have hl : 4 + ps.length - 4 = ps.length := by omega
  simp [hl]
  omega

/-- A host row that the port takes, with up to 512 parameter bytes, is its command carried out by its owner (R156, R157). -/
theorem State.hostCommand_taken {s : State} (c : Cmd) {tag : Byte} {ps : List Byte} (hs : s.CanTake tag)
    (h : ps.length ≤ Config.maxParams) :
    s.hostCommand c tag ps =
      ((s.fillBuffer (commandBlock c tag ps)).takeBlock ⟨c.code, tag, c.owner⟩).command c ps := by
  obtain ⟨hr, hp, -, ht⟩ := hs
  have hb : (s.fillBuffer (commandBlock c tag ps)).port.rxBuffer = commandBlock c tag ps := by
    simp [State.fillBuffer, take_commandBlock c tag h]
  have hn : (commandBlock c tag ps).length ≠ 0 := by
    rw [length_commandBlock]; omega
  have hst : (s.fillBuffer (commandBlock c tag ps)).port.state = s.port.state := rfl
  unfold State.hostCommand State.writeTransaction State.releaseSelect
  rw [hb, hst, checkBlock_commandBlock c ht h]
  simp only [hr, hn, if_false, Bool.false_eq_true]
  split
  · rename_i hi
    exact absurd hi hp
  · rfl
  · rfl

/-! ## The bits of a line and of the port -/

/-- Each byte is shifted as eight bits and read back from them. -/
theorem portBytes_portBits (b : Byte) (bits : List Bool) : portBytes (portBits b ++ bits) = b :: portBytes bits := by
  have h : ∀ b : Byte, ∃ b7 b6 b5 b4 b3 b2 b1 b0, portBits b = [b7, b6, b5, b4, b3, b2, b1, b0] ∧
      byteOfBits b0 b1 b2 b3 b4 b5 b6 b7 = b := by decide
  obtain ⟨b7, b6, b5, b4, b3, b2, b1, b0, hb, rfl⟩ := h b
  rw [hb]
  rfl

/-- An end gives as many bits as are asked for while it may send, and none otherwise (R7, R18). -/
theorem State.length_lineBits (s : State) (e : LineEnd) (n : Nat) :
    (s.lineBits e n).length = if (s.lineEnd e).state.framing then n else 0 := by
  unfold State.lineBits
  split
  · simp [idleFill]
  · rfl

end Sys2Proof.Machine
end

