-- ==== Sys2Proof/Laws/Records.lean ====
section
/-! SUPPORT. What the directory's operations and the events raised beside them can do, one lemma for each operation. -/

namespace Sys2Proof.Machine

/-! ## Events raised in one step -/

/-- An event raised beside other work is that event raised, with its kind last in the order of pending or put before the kinds that the
other work has placed (R164). -/
theorem State.raiseBeside_cases (s : State) (n : Nat) (k : EventKind) (f : Events → Events) :
    s.raiseBeside n k f = s.raise f ∨
      ∃ order, (order = (s.raise f).attn.events.order ∨ order = hasten n k (s.raise f).attn.events.order) ∧
        s.raiseBeside n k f =
          { s.raise f with
            attn := { (s.raise f).attn with events := { (s.raise f).attn.events with order := order } }
            freeCount := s.freeCount + 1 } := by
  unfold State.raiseBeside
  dsimp only
  split
  · exact .inl rfl
  · refine .inr ⟨_, ?_, rfl⟩
    split
    · exact .inr rfl
    · exact .inl rfl

/-! ## Eviction -/

/-- Room is there already, or cannot be made, or is made by the removal of the victim (R92). -/
theorem State.makeRoom_cases (s : State) :
    (s.dir.hasFreeSlot = true ∧ s.makeRoom = s) ∨ (s.dir.hasFreeSlot = false ∧ s.dir.victim = none ∧ s.makeRoom = s) ∨
      ∃ m, s.dir.hasFreeSlot = false ∧ s.dir.victim = some m ∧
        s.makeRoom = (s.setDir (s.dir.removeMirror m.owner m.body.tag m.body.side)).recordChanged m.body.tag := by
  unfold State.makeRoom
  split
  · exact .inl ⟨‹_›, rfl⟩
  · rename_i h
    right
    split
    · exact .inl ⟨by simpa using h, ‹_›, rfl⟩
    · exact .inr ⟨_, by simpa using h, ‹_›, rfl⟩

/-- The victim is a mirror of the directory that no binding pins (R92). -/
theorem Directory.victim_some {d : Directory} {m : Mirror} (h : d.victim = some m) : m ∈ d.mirrors ∧ m.pins = 0 := by
  unfold Directory.victim at h
  split at h
  · rename_i x hx
    cases h
    have := List.find?_some hx
    exact ⟨List.mem_of_find?_eq_some hx, by simp at this; exact this.2⟩
  · exact ⟨List.mem_of_find?_eq_some h, by simpa using List.find?_some h⟩

/-! ## The record that an answer rests on -/

@[simp] theorem State.asHeld_home (s : State) {h : Hit} (hh : h.source = .home) : s.asHeld h = h := by
  simp [State.asHeld, hh]

/-- A mirror found is taken as the directory holds it under its key (R139). -/
theorem State.asHeld_mirror (s : State) {h : Hit} {m : Mirror} (hh : h.source = .mirror)
    (hm : s.dir.findMirror h.owner h.body.tag h.body.side = some m) : s.asHeld h = { h with fresh := m.fresh, body := m.body } := by
  simp [State.asHeld, hh, hm]

/-- A new key is stored as a mirror in the room made for it, and DIRECTORY_FULL is raised exactly when a CURRENT mirror has gone (R88,
R92). -/
theorem State.storeMirror_cases (s : State) (owner : Ident) (r : Rec) :
    (s.dir.givenUp = none ∧ s.storeMirror owner r = s.makeRoom.addMirror owner r) ∨
      ∃ g, s.dir.givenUp = some g ∧
        s.storeMirror owner r =
          (s.makeRoom.addMirror owner r).raiseBeside s.attn.events.count .directoryFull (Events.raiseDirectoryFull g) := by
  unfold State.storeMirror
  split
  · exact .inr ⟨_, ‹_›, rfl⟩
  · exact .inl ⟨‹_›, rfl⟩

end Sys2Proof.Machine
end

