-- ==== Sys2Proof/Tests/Slice0.lean ====
section
/-! SUPPORT. Tests: the states they stand on, ill-formed commands that WellFormed refuses, the manual's own figures, single steps, and for
each statement with hypotheses a witness that meets them all together. -/

set_option Elab.async false

open Sys2Proof Sys2Proof.Machine

namespace Sys2Proof.Tests

/-! ## States -/

/-- A line end of a READY part in this state, with the flags and timers that go with it. -/
def endIn (st : EndState) : LineEndSt :=
  { LineEndSt.reset with
    state := st
    contact := decide (st = .settling) || st.framing
    isolated := decide (st = .isolated)
    barFlag := decide (st = .barred)
    settleT := if st = .settling then .running 50 else .stopped
    lossT := if st = .locked ∨ st = .barred then .running 35 else .stopped
    beaconT := if st.framing then .running 10 else .stopped
    leakT := .running 2000 }

/-- A FORMED part at roster index 2 of three cars, facing A, its ends in these states. -/
def train (a b : EndState) : State :=
  { State.reset with
    lineA := endIn a
    lineB := endIn b
    roll := { epoch := 58#32, state := .formed, attempts := 0, timer := .stopped, lastOrig := 40#32 }
    consist := { State.reset.consist with
      roster := [⟨0x10#32, .a, .none⟩, ⟨0x11#32, .a, .none⟩, ⟨0x12#32, .b, .none⟩]
      ea := 58#32
      digest := rosterDigest [⟨0x10#32, .a, .none⟩, ⟨0x11#32, .a, .none⟩, ⟨0x12#32, .b, .none⟩]
      ownIdx := 2
      view := 7#16 }
    attn := { State.reset.attn with events := Events.empty }
    ctrl := { part := .ready, identity := some 0x11#32, cabCfg := .a, startCause := .powerOn, bypass := false } }

/-- A DORMANT part that holds a one-car roster. -/
def asleep : State :=
  { train .bypassed .bypassed with
    lineA := LineEndSt.reset
    lineB := LineEndSt.reset
    consist := { State.reset.consist with
      roster := [⟨0x11#32, .a, .none⟩], ea := 58#32, digest := rosterDigest [⟨0x11#32, .a, .none⟩], ownIdx := 1, view := 7#16 }
    ctrl := { part := .dormant, identity := some 0x11#32, cabCfg := .a, startCause := .powerOn, bypass := true } }

/-- The part with this roll-call state. -/
def rollingAt (st : ConsistState) (attempts ms : Nat) (s : State) : State :=
  s.setRoll { s.roll with state := st, attempts := attempts, timer := .running ms }

/-- The part with a REQUEST_STATE of tag 9 in flight. -/
def busy (c : Cmd) (s : State) : State :=
  s.waiting c 9#8

/-- The tag LIGHT. -/
def light : Tag := [0x4C#8, 0x49#8, 0x47#8, 0x48#8, 0x54#8]

/-- A record of the tag LIGHT. -/
def lightRec : Rec := ⟨light, .both, .offered, 0x0312#16, 2#16, .allowed, []⟩

/-- The part with this home record. -/
def offering (r : Rec) (s : State) : State :=
  s.setDir { s.dir with home := [r] }

/-- The part with this mirror of the car at roster index 3. -/
def mirroring (r : Rec) (s : State) : State :=
  s.setDir { s.dir with mirrors := [⟨0x12#32, r, .stale, 0⟩] }

/-- The header of a frame from the car at roster index 3, addressed to this index. -/
def from3 (dst : Byte) : Header := ⟨58#32, 0x12#32, dst, 3#8⟩

/-- The part with this binding under handle 1. -/
def binding1 (st : BindState) (s : State) : State :=
  s.setSlot 0 (.held ⟨⟨light, .any, .car 0x12#32⟩, st, false, true⟩)

/-- A CURRENT mirror of a tag of one byte, with this pin count. -/
def heldMirror (g : Byte) (pins : Nat) : Mirror :=
  ⟨0x12#32, { lightRec with tag := [g] }, .current, pins⟩

/-! ## Well-formed commands (R8): an ill-formed term for each check, refused -/

/-- A tag of 17 bytes. -/
def longTag : Tag := List.replicate 17 0x41#8

/-- Seventeen roster entries. -/
def seventeen : List CarEntry := List.replicate 17 ⟨0x11#32, 0#8, 2#8⟩

theorem test_wf_beacon_senderEnd : Instr.wellFormed (.beacon .a (from3 0#8) 2#8 0#8 0#32 0#32) = false := by decide
theorem test_wf_roll_count : Instr.wellFormed (.roll .a (from3 0#8) seventeen) = false := by decide
theorem test_wf_roster_count_low : Instr.wellFormed (.roster .a (from3 0#8) []) = false := by decide
theorem test_wf_roster_count_high : Instr.wellFormed (.roster .a (from3 0#8) seventeen) = false := by decide
theorem test_wf_publish_tag : Instr.wellFormed (.publish .a (from3 0#8) { lightRec.toBody with tag := [] }) = false := by decide
theorem test_wf_publish_attrs :
    Instr.wellFormed (.publish .a (from3 0#8) { lightRec.toBody with attrs := List.replicate 9 0#8 }) = false := by decide
theorem test_wf_withdraw_tag : Instr.wellFormed (.withdraw .a (from3 0#8) longTag 0#8) = false := by decide
theorem test_wf_query_tag : Instr.wellFormed (.query .a (from3 2#8) 1#8 []) = false := by decide
theorem test_wf_answer_count :
    Instr.wellFormed (.answer .a (from3 2#8) 1#8 (List.replicate 5 lightRec.toBody)) = false := by decide
theorem test_wf_answer_body :
    Instr.wellFormed (.answer .a (from3 2#8) 1#8 [{ lightRec.toBody with tag := longTag }]) = false := by decide
theorem test_wf_changeReq_tag : Instr.wellFormed (.changeReq .a (from3 2#8) 1#8 [] 0#8 0#8) = false := by decide

/-- A ROLL of no entries is a valid frame (R8), which R39 discards for its form. -/
theorem test_wf_roll_empty : Instr.wellFormed (.roll .a (from3 0#8) []) = true := by decide

/-! ## The manual's own figures -/

/-- The tag 123456789 of R94. -/
def checkTag : Tag := [0x31#8, 0x32#8, 0x33#8, 0x34#8, 0x35#8, 0x36#8, 0x37#8, 0x38#8, 0x39#8]

/-- R94: the CRC of 123456789 is CBF43926h. -/
theorem test_crc_check_value : crc checkTag = 0xCBF43926#32 := by decide +kernel

/-- R94: its bucket index is 38 and its filter index 50. -/
theorem test_bucket_and_filter_index : bucketIndex checkTag = 38 ∧ filterIndex checkTag = 50 := by decide +kernel

/-- Worked Sequences, Coupling: a CALL is 18 bytes, a BEACON 28 (0.224 ms), a STEER 19. -/
theorem test_frame_lengths :
    (Frame.bits ⟨from3 0#8, .call⟩).length = 18 * 8 ∧ (Frame.bits ⟨from3 0#8, .beacon 0#8 0#8 0#32 0#32⟩).length = 28 * 8 ∧
      (Frame.bits ⟨from3 0#8, .steer 0#8⟩).length = 19 * 8 := by decide +kernel

/-- Worked Sequences, Coupling: a six-entry ROSTER is 55 bytes, and a ROLL of two entries 19 + 6 × 2. -/
theorem test_roster_length :
    (Frame.bits ⟨from3 0#8, .roster (List.replicate 6 ⟨0x11#32, 0#8, 2#8⟩)⟩).length = 55 * 8 ∧
      (Frame.bits ⟨from3 0#8, .roll (List.replicate 2 ⟨0x11#32, 0#8, 2#8⟩)⟩).length = 31 * 8 := by decide +kernel

/-- Worked Sequences, Splitting: 1A40 completes the ROLL of 1A42 and 1A41 with 1A40 / B / A. It is the reference, so the order is
reversed and the facings are the opposite ends. -/
theorem test_split_roster :
    buildRoster [⟨0x1A42#32, 0#8, 2#8⟩, ⟨0x1A41#32, 1#8, 2#8⟩, ⟨0x1A40#32, 1#8, 0#8⟩] =
      [⟨0x1A40#32, .a, .a⟩, ⟨0x1A41#32, .a, .none⟩, ⟨0x1A42#32, .b, .none⟩] := by decide

/-- Worked Sequences, Splitting: the valid cab at roster index 1 makes D REF. -/
theorem test_split_direction :
    directionOf [⟨0x1A40#32, .a, .a⟩, ⟨0x1A41#32, .a, .none⟩, ⟨0x1A42#32, .b, .none⟩] = .ref := by decide

/-- Worked Sequences, Cab change: with the cab of 1A42 at its end A, D is FAR; both cabs at once keep D REF and set the conflict. -/
theorem test_cab_change :
    directionOf [⟨0x1A40#32, .a, .none⟩, ⟨0x1A41#32, .a, .none⟩, ⟨0x1A42#32, .b, .a⟩] = .far ∧
      directionOf [⟨0x1A40#32, .a, .a⟩, ⟨0x1A41#32, .a, .none⟩, ⟨0x1A42#32, .b, .a⟩] = .ref ∧
      conflictOf [⟨0x1A40#32, .a, .a⟩, ⟨0x1A41#32, .a, .none⟩, ⟨0x1A42#32, .b, .a⟩] = true := by decide

/-- Worked Sequences, Cab change: under FAR, 1A40 is at position 3 and not aligned, and 1A42 at position 1 and aligned. -/
theorem test_positions_after_cab_change :
    let c : ConsistTable := { State.reset.consist with
      dir := .far
      roster := [⟨0x1A40#32, .a, .none⟩, ⟨0x1A41#32, .a, .none⟩, ⟨0x1A42#32, .b, .a⟩] }
    c.position 1 = 3 ∧ c.aligned 1 = false ∧ c.position 3 = 1 ∧ c.aligned 3 = true := by decide

/-- The table of the part 0B11 in the worked case of six cars. -/
def sixCars (d : Direction) : ConsistTable :=
  { State.reset.consist with
    dir := d
    ownIdx := 2
    roster :=
      [⟨0xB10#32, .a, .none⟩, ⟨0xB11#32, .a, .none⟩, ⟨0xB12#32, .b, .none⟩, ⟨0x1A42#32, .a, .none⟩, ⟨0x1A41#32, .b, .none⟩,
        ⟨0x1A40#32, .b, .a⟩] }

/-- Worked case of six cars: D FAR, positions, alignment, forwarding ends and hops as its tables give them. -/
theorem test_six_cars :
    directionOf (sixCars .far).roster = .far ∧ conflictOf (sixCars .far).roster = false ∧
      [1, 2, 3, 4, 5, 6].map (sixCars .far).position = [6, 5, 4, 3, 2, 1] ∧
      [1, 2, 3, 4, 5, 6].map (sixCars .far).aligned = [false, false, true, false, true, true] ∧
      [1, 3, 4, 5, 6].map (sixCars .far).forwardEnd = [some .a, some .b, some .b, some .b, some .b] ∧
      [1, 2, 3, 4, 5, 6].map (sixCars .far).hops = [1, 0, 1, 2, 3, 4] := by decide +kernel

/-- Worked case of six cars: the nearest order under FAR and under REF. -/
theorem test_six_cars_nearest :
    (sixCars .far).nearest = [2, 3, 1, 4, 5, 6] ∧ (sixCars .ref).nearest = [2, 1, 3, 4, 5, 6] := by decide +kernel

/-- R81: the revision after 65535 is 1. -/
theorem test_revision_wraps : stepRevision 0xFFFF#16 = 1#16 ∧ stepRevision 1#16 = 2#16 := by decide

/-- R29: E at its largest value stays there. -/
theorem test_epoch_saturates : increaseEpoch 0xFFFFFFFF#32 = 0xFFFFFFFF#32 := by decide

/-- R107: an id that the other block holds outstanding is stepped over, and the counter wraps. -/
theorem test_query_id : nextQueryId 0xFF#8 (some 0#8) = 1#8 ∧ nextQueryId 43#8 none = 44#8 := by decide

/-- R168: a CONSIST_UNSETTLED created before a CONSIST_VIEW is given first, even if it was updated after the CONSIST_VIEW. -/
theorem test_event_order :
    (AttentionUnit.next
      ⟨(((Events.empty.raiseUnsettled .rolling).raiseView ⟨3#16, .ref, 2⟩).raiseUnsettled .degraded), 0#9, State.reset.attn.disp⟩) =
        some .consistUnsettled := by decide

/-! ## Codes that name nothing -/

theorem test_code_cab : CabEnd.ofCode 3#8 = none ∧ CabEnd.ofCode 2#8 = some .none := by decide
theorem test_code_side : Side.ofCode 4#8 = none ∧ Side.ofCode 3#8 = some .none := by decide
theorem test_code_state : RecState.ofCode 2#8 = none ∧ Permission.ofCode 2#8 = none ∧ SideFilter.ofCode 3#8 = none := by decide
theorem test_code_outcome : ChangeOutcome.ofCode 3#8 = none ∧ Disposition.ofCode 3#8 = none ∧ FaultKind.ofCode 6#8 = none := by
  decide
theorem test_code_commands : [Cmd.identify, .lookup, .dispositionSet].all (fun c => Cmd.ofCode c.code == some c) = true := by decide
theorem test_code_unknown : Cmd.ofCode 0x05#8 = none ∧ Cmd.ofCode 0x00#8 = none := by decide

/-! ## One step each -/

/-- R39: a ROLL whose only entry has a cab code out of range is discarded; the terminal stays FORMED at its epoch. -/
theorem test_roll_bad_cab :
    ((train .locked .opened).takeRoll .a ⟨⟨59#32, 0x10#32, 0#8, 0#8⟩, .roll [⟨0x10#32, 0#8, 3#8⟩]⟩ [⟨0x10#32, 0#8, 3#8⟩]).roll =
      (train .locked .opened).roll := by decide +kernel

/-- R161: a write while the port reset is asserted does nothing. -/
theorem test_write_under_reset :
    exec (.getInfo 9#8 []) { State.reset with port := { State.reset.port with resetInput := true } } =
      .next { State.reset with port := { State.reset.port with resetInput := true } } := rfl

/-- R181: GET_INFO right after power-on gives 25 bytes that begin with identity 0, cab end NONE, UNIDENTIFIED, POWER_ON and end with
0816h and 01h. -/
theorem test_get_info :
    let d := State.reset.infoData
    d.length = 25 ∧ d.take 7 = [0#8, 0#8, 0#8, 0#8, 2#8, 0#8, 0#8] ∧ d.drop 22 = [0x08#8, 0x16#8, 0x01#8] := by decide +kernel

/-- R167: the WAKE of power-on asserts the attention output; with every kind masked it does not. -/
theorem test_attention :
    State.reset.attention = true ∧ (State.reset.setAttn { State.reset.attn with mask := 0x1FF#9 }).attention = false := by decide

/-- R153: before any command a read gives FFh, and an access byte other than C3h gives FFh in READY too. -/
theorem test_read_empty :
    State.reset.shiftOut 0xC3#8 2 = [0xFF#8, 0xFF#8] ∧
      (State.reset.answered 9#8 .success [] false).shiftOut 0xC3#8 2 = [0#8, 9#8] ∧
      (State.reset.answered 9#8 .success [] false).shiftOut 0x00#8 2 = [0xFF#8, 0xFF#8] := by decide +kernel

/-- R4: a contact that closes at an OPEN end takes it to SETTLING with the settle timer at 50 ms. -/
theorem test_contact_close :
    exec (.contactClose .a) (train .opened .opened) =
      .next (((train .opened .opened).setEnd .a { endIn .settling with contact := true }).raise
        (Events.raiseLine .a .opened .settling)) := rfl

/-- Worked Sequences, A dormant reserve car joins: a part put to sleep with both couplers open and no event pending is DORMANT with
both ends BYPASSED and an empty event set. -/
theorem test_sleep_raises_nothing :
    (match exec (.sleep 9#8 []) (train .opened .opened) with
      | .next t => decide (t.ctrl.part = .dormant ∧ t.lineA.state = .bypassed ∧ t.lineB.state = .bypassed ∧
          t.attn.events = Events.empty)
      | .fault _ => false
      | .refused _ => false) = true := by decide +kernel

/-- No row of the table has bits, so no word spells a command, and the queue is left as it was. -/
theorem test_no_word_decodes : decodeTableWord 16 0x1234 = none ∧ (State.reset.withFetchWord 16 0x1234).pending = [] := by decide

/-- A step takes the front command and leaves the rest in the queue. -/
theorem test_step_takes_the_front :
    (match step { State.reset with pending := [.cabInputChange true, .powerOn] } with
      | .next t => decide (t.pending = [.powerOn] ∧ t.consist.cabInput = true)
      | .fault _ => false
      | .refused _ => false) = true := by decide +kernel

/-! ## Witnesses: one for each clause of a statement, named after the statement and the clause's number -/

theorem witness_StepRunsTheFrontCommand_2 :
    ∃ (s : State), (s.pending = []) :=
  ⟨State.reset, by decide +kernel⟩

theorem witness_EveryStepKeepsTheLineEnds_1 :
    ∃ (s : State) (t : State), (s.LineInv) ∧ (step s = .next t) :=
  ⟨{ train .locked .opened with pending := [.beaconTimerExpiry .a] }, _, ⟨by decide, by decide, rfl, by decide, by decide⟩, rfl⟩

theorem witness_EveryStepKeepsTheRollCall_1 :
    ∃ (s : State) (t : State), (s.LineInv) ∧ (step s = .next t) ∧ (s.RollInv) :=
  ⟨{ train .locked .opened with pending := [.beaconTimerExpiry .a] }, _, ⟨by decide, by decide, rfl, by decide, by decide⟩, rfl,
    by decide +kernel⟩

theorem witness_EveryStepKeepsTheConsistTable_1 :
    ∃ (s : State) (t : State), (s.LineInv) ∧ (step s = .next t) ∧ (s.RollInv) ∧ (s.TableInv) :=
  ⟨{ train .locked .opened with pending := [.beaconTimerExpiry .a] }, _, ⟨by decide, by decide, rfl, by decide, by decide⟩, rfl,
    by decide +kernel⟩

theorem witness_EveryStepKeepsTheDirectory_1 :
    ∃ (s : State) (t : State), (step s = .next t) ∧ (s.DirInv) :=
  ⟨{ train .locked .opened with pending := [.beaconTimerExpiry .a] }, _, rfl, by decide +kernel⟩

theorem witness_EveryStepKeepsOneCommandInFlight_1 :
    ∃ (s : State) (t : State), (step s = .next t) ∧ (s.PortInv) :=
  ⟨{ train .locked .opened with pending := [.beaconTimerExpiry .a] }, _, rfl, by decide +kernel⟩

theorem witness_EveryStepKeepsTheEventSet_1 :
    ∃ (s : State) (t : State), (step s = .next t) ∧ (s.attn.events.Ok) :=
  ⟨{ train .locked .opened with pending := [.beaconTimerExpiry .a] }, _, rfl, by decide +kernel⟩

theorem witness_EveryStepKeepsThePins_1 :
    ∃ (s : State) (t : State), (step s = .next t) ∧ (s.DirInv) ∧ (s.PortInv) ∧ (s.ReservedInv) ∧ (s.PinInv) :=
  ⟨{ train .locked .opened with pending := [.beaconTimerExpiry .a] }, _, rfl, by decide +kernel⟩

theorem witness_EveryStepKeepsThePins_2 :
    ∃ (s : State) (t : State), (step s = .next t) ∧ (s.PortInv) ∧ (s.ReservedInv) :=
  ⟨{ train .locked .opened with pending := [.beaconTimerExpiry .a] }, _, rfl, by decide +kernel⟩

theorem witness_OnlyTheHostChangesItsSettings_1 :
    ∃ (c : Instr) (s : State), (s.DirInv) ∧ (c.fromHost = false) :=
  ⟨.rollTimerExpiry, State.reset, by decide +kernel⟩

theorem witness_FramesAreReadAsTheyAreSent_1 :
    ∃ (f : Frame), (f.valid = true) :=
  ⟨⟨⟨58#32, 0x12#32, 2#8, 3#8⟩, .publish lightRec.toBody⟩, by decide +kernel⟩

theorem witness_NothingElseIsAValidFrame_1 :
    ∃ (bs : List Byte) (f : Frame) (n : Nat), (judgeFrame bs = .valid f n) :=
  ⟨Frame.body ⟨⟨58#32, 0x12#32, 0#8, 0#8⟩, .call⟩, ⟨⟨58#32, 0x12#32, 0#8, 0#8⟩, .call⟩, 16, by decide +kernel⟩

theorem witness_TheReceiverFindsAFrameInTheBits_1 :
    ∃ (f : Frame) (idle : Nat) (fuel : Nat), (f.valid = true) ∧ (idle + f.bits.length ≤ fuel) :=
  ⟨⟨⟨58#32, 0x12#32, 0#8, 0#8⟩, .call⟩, 1, 145, by decide +kernel⟩

theorem witness_TrainPositions_1 :
    ∃ (c : ConsistTable) (i : Nat), (1 ≤ i) ∧ (i ≤ c.n) :=
  ⟨(train .locked .locked).consist, 3, by decide +kernel⟩

theorem witness_AlignmentAndSides_1 :
    ∃ (c : ConsistTable) (i : Nat) (r : RosterEntry), (c.entry i = some r) :=
  ⟨(train .locked .locked).consist, 3, ⟨0x12#32, .b, .none⟩, by decide +kernel⟩

theorem witness_ForwardingEnds_1 :
    ∃ (c : ConsistTable) (r : RosterEntry), (c.entry c.ownIdx = some r) :=
  ⟨(train .locked .locked).consist, ⟨0x11#32, .a, .none⟩, by decide +kernel⟩

theorem witness_NearestOrder_1 :
    ∃ (c : ConsistTable), (1 ≤ c.ownIdx) ∧ (c.ownIdx ≤ c.n) :=
  ⟨(train .locked .locked).consist, by decide +kernel⟩

theorem witness_SideFilterChoice_1 :
    ∃ (al : Bool) (f : SideFilter) (cs : List Hit) (h : Hit), ((preferred al f cs).head? = some h) :=
  ⟨true, .left, [⟨.home, .current, 2, 0x11#32, lightRec⟩], ⟨.home, .current, 2, 0x11#32, lightRec⟩, by decide +kernel⟩

theorem witness_SideFilterChoice_2 :
    ∃ (al : Bool) (f : SideFilter) (cs : List Hit), ((preferred al f cs).head? = none) :=
  ⟨true, .left, [⟨.home, .current, 2, 0x11#32, { lightRec with side := .none }⟩], by decide +kernel⟩

theorem witness_BothBuildersReachOneRoster_1 :
    ∃ (es : List CarEntry), (EntriesOk es) ∧ (2 ≤ es.length) :=
  ⟨[⟨0x10#32, 0#8, 0#8⟩, ⟨0x12#32, 1#8, 2#8⟩], by decide +kernel⟩

theorem witness_QueueLimits_1 :
    ∃ (q : List CtrlItem), (q.length < 4) :=
  ⟨[.beacon, .beacon, .beacon], by decide +kernel⟩

theorem witness_QueueLimits_2 :
    ∃ (pre : List CtrlItem) (post : List CtrlItem), (pre.length + post.length = 3) ∧ (CtrlItem.beacon ∉ pre) :=
  ⟨[], [.beacon, .beacon, .beacon], by decide +kernel⟩

theorem witness_QueueLimits_3 :
    ∃ (q : List CtrlItem), (4 ≤ q.length) ∧ (CtrlItem.beacon ∉ q) :=
  ⟨List.replicate 4 (.frame ⟨⟨58#32, 0x12#32, 0#8, 0#8⟩, .call⟩), by decide +kernel⟩

theorem witness_PortResetAndRelease_1 :
    ∃ (s : State), (s.port.inFlight = none) :=
  ⟨State.reset, by decide +kernel⟩

theorem witness_PortResetAndRelease_2 :
    ∃ (s : State), (s.port.inFlight.isSome = true) :=
  ⟨(busy .bind (train .locked .locked)).setSlot 31 (.reserved ⟨light, .any, .self⟩), by decide +kernel⟩

theorem witness_ContactClosure_1 :
    ∃ (s : State) (e : LineEnd), ((s.lineEnd e).state = .opened) ∧ ((s.lineEnd e).contact = false) :=
  ⟨train .opened .locked, .a, by decide +kernel⟩

theorem witness_ContactClosure_2 :
    ∃ (s : State) (e : LineEnd), ((s.lineEnd e).state ≠ .opened) ∧ ((s.lineEnd e).contact = false) ∧
      ((s.lineEnd e).state = .bypassed → s.ctrl.part ≠ .dormant ∨ (s.lineEnd e).isolated = true) :=
  ⟨train .isolated .locked, .a, by decide +kernel⟩

theorem witness_DormantPartWakes_1 :
    ∃ (s : State) (e : LineEnd), (s.ctrl.part = .dormant) ∧ (s.lineA.state = .bypassed) ∧ (s.lineB.state = .bypassed) ∧
      (s.Quiet) ∧ ((s.lineEnd e).isolated = false) ∧ ((s.lineEnd e).contact = false) :=
  ⟨asleep, .b, by decide +kernel⟩

theorem witness_DormantPartWakes_2 :
    ∃ (s : State) (bs : List Byte), (s.ctrl.part = .dormant) ∧ (s.lineA.state = .bypassed) ∧ (s.lineB.state = .bypassed) ∧
      (s.Quiet) ∧ (s.port.resetInput = false) ∧ (s.port.state ≠ .inFlight) ∧ (bs ≠ []) :=
  ⟨asleep, [0x21#8, 9#8, 0#8, 0#8], by decide +kernel⟩

theorem witness_DormantPartWakes_3 :
    ∃ (s : State) (i : Instr) (c : Cmd) (tag : Byte) (ps : List Byte), (i.hostCmd = some (c, tag, ps)) ∧
      (s.ctrl.part = .dormant) ∧ (s.lineA.state = .bypassed) ∧ (s.lineB.state = .bypassed) ∧ (s.Quiet) ∧
      (s.port.resetInput = false) ∧ (s.port.state ≠ .inFlight) :=
  ⟨asleep, .sleep 9#8 [], .sleep, 9#8, [], by decide +kernel⟩

theorem witness_DormantPartWakes_4 :
    ∃ (s : State), (s.ctrl.part = .dormant) ∧ (s.lineA.state = .bypassed) ∧ (s.lineB.state = .bypassed) ∧ (s.Quiet) ∧
      (s.port.resetInput = false) ∧ (s.port.state ≠ .inFlight) :=
  ⟨asleep, by decide +kernel⟩

theorem witness_ContactOpening_1 :
    ∃ (s : State) (e : LineEnd), ((s.lineEnd e).state = .settling ∨ (s.lineEnd e).state = .hunting ∨
      (s.lineEnd e).state = .barred) ∧ ((s.lineEnd e).contact = true) :=
  ⟨train .hunting .locked, .a, by decide +kernel⟩

theorem witness_ContactOpening_2 :
    ∃ (s : State) (e : LineEnd), ((s.lineEnd e).state = .locked) ∧ ((s.lineEnd e).contact = true) ∧
      (((s.lineEnd e).flap ≠ 4 ∨ s.attn.disp.get (.flap e) ≠ .isolate)) :=
  ⟨train .locked .opened, .a, by decide +kernel⟩

theorem witness_ContactOpening_3 :
    ∃ (s : State) (e : LineEnd), ((s.lineEnd e).state = .bypassed ∨ (s.lineEnd e).state = .opened ∨
      (s.lineEnd e).state = .isolated) ∧ ((s.lineEnd e).contact = true) :=
  ⟨(train .isolated .locked).setEnd .a { endIn .isolated with contact := true }, .a, by decide +kernel⟩

theorem witness_CabInputAndDebounce_1 :
    ∃ (s : State) (active : Bool), (active ≠ s.consist.cabInput) :=
  ⟨State.reset, true, by decide +kernel⟩

theorem witness_CabInputAndDebounce_2 :
    ∃ (s : State), (s.consist.debounceT.isRunning = true) ∧
      (s.roll.state ≠ .formed ∨
      ({ s with consist := { s.consist with cabLevel := s.consist.cabInput, debounceT := .stopped } } :
      State).ownCab = s.ownCab) :=
  ⟨{ State.reset with consist := { State.reset.consist with cabInput := true, debounceT := .running 20 } }, by decide +kernel⟩

theorem witness_CabInputAndDebounce_3 :
    ∃ (s : State), (s.consist.debounceT.isRunning = true) ∧ (s.roll.state = .formed) ∧
      (({ s with consist := { s.consist with cabLevel := s.consist.cabInput, debounceT := .stopped } } :
      State).ownCab ≠ s.ownCab) :=
  ⟨{ train .locked .locked with consist := { (train .locked .locked).consist with cabInput := true, debounceT := .running 20 } },
    by decide +kernel⟩

theorem witness_EndTimersExpire_1 :
    ∃ (s : State) (e : LineEnd), ((s.lineEnd e).state = .bypassed) ∧ ((s.lineEnd e).releaseT.isRunning = true) ∧
      ((s.lineEnd e).isolated = true) :=
  ⟨(train .bypassed .bypassed).setEnd .a { LineEndSt.reset with isolated := true, releaseT := .running 15 }, .a,
    by decide +kernel⟩

theorem witness_EndTimersExpire_2 :
    ∃ (s : State) (e : LineEnd), ((s.lineEnd e).state = .bypassed) ∧ ((s.lineEnd e).releaseT.isRunning = true) ∧
      ((s.lineEnd e).isolated = false) ∧ ((s.lineEnd e).contact = true) :=
  ⟨(train .bypassed .bypassed).setEnd .b { LineEndSt.reset with contact := true, releaseT := .running 15 }, .b,
    by decide +kernel⟩

theorem witness_EndTimersExpire_3 :
    ∃ (s : State) (e : LineEnd), ((s.lineEnd e).state = .bypassed) ∧ ((s.lineEnd e).releaseT.isRunning = true) ∧
      ((s.lineEnd e).isolated = false) ∧ ((s.lineEnd e).contact = false) :=
  ⟨(train .bypassed .bypassed).setEnd .b { LineEndSt.reset with releaseT := .running 15 }, .b, by decide +kernel⟩

theorem witness_EndTimersExpire_4 :
    ∃ (s : State) (e : LineEnd), ((s.lineEnd e).state = .settling) ∧ ((s.lineEnd e).settleT.isRunning = true) ∧
      ((s.lineEnd e).ctrlQ = []) :=
  ⟨train .settling .opened, .a, by decide +kernel⟩

theorem witness_EndTimersExpire_5 :
    ∃ (s : State) (e : LineEnd), ((s.lineEnd e).state.framing = true) ∧ ((s.lineEnd e).beaconT.isRunning = true) :=
  ⟨train .barred .opened, .a, by decide +kernel⟩

theorem witness_EndTimersExpire_6 :
    ∃ (s : State) (e : LineEnd), ((s.lineEnd e).leakT.isRunning = true) :=
  ⟨train .barred .opened, .a, by decide +kernel⟩

theorem witness_LossOfTheLink_1 :
    ∃ (s : State) (e : LineEnd), ((s.lineEnd e).state = .barred) ∧ ((s.lineEnd e).lossT.isRunning = true) :=
  ⟨train .barred .opened, .a, by decide +kernel⟩

theorem witness_LossOfTheLink_2 :
    ∃ (s : State) (e : LineEnd), ((s.lineEnd e).state = .locked) ∧ ((s.lineEnd e).lossT.isRunning = true) ∧
      (((s.lineEnd e).flap ≠ 4 ∨ s.attn.disp.get (.flap e) ≠ .isolate)) :=
  ⟨train .locked .locked, .b, by decide +kernel⟩

theorem witness_LossOfTheLink_3 :
    ∃ (s : State) (e : LineEnd), ((s.lineEnd e).state = .locked) ∧ ((s.lineEnd e).lossT.isRunning = true) ∧
      ((s.lineEnd e).flap = 4) ∧ (s.attn.disp.get (.flap e) = .isolate) :=
  ⟨{ (train .locked .locked).setEnd .b { endIn .locked with flap := 4 } with attn := { (train .locked .locked).attn with disp := { State.reset.attn.disp with flapB := .isolate } } },
    .b, by decide +kernel⟩

theorem witness_RollTimerExpires_1 :
    ∃ (s : State) (e : LineEnd), (s.roll.state = .rolling) ∧ (s.roll.timer.isRunning = true) ∧ (s.roll.attempts < 2) ∧
      ((s.lineEnd e).state = .locked) ∧ ((s.lineEnd e.other).state ≠ .locked) :=
  ⟨rollingAt .rolling 1 250 (train .locked .opened), .a, by decide +kernel⟩

theorem witness_RollTimerExpires_2 :
    ∃ (s : State), (s.roll.state = .rolling) ∧ (s.roll.timer.isRunning = true) ∧ (s.roll.attempts < 2) ∧
      (s.lineA.state = .locked) ∧ (s.lineB.state = .locked) :=
  ⟨rollingAt .rolling 0 250 (train .locked .locked), by decide +kernel⟩

theorem witness_RollTimerExpires_3 :
    ∃ (s : State), (s.roll.state = .rolling) ∧ (s.roll.timer.isRunning = true) ∧ (s.roll.attempts = 2) :=
  ⟨rollingAt .rolling 2 250 (train .locked .locked), by decide +kernel⟩

theorem witness_RollTimerExpires_4 :
    ∃ (s : State) (e : LineEnd), (s.roll.state = .degraded) ∧ (s.roll.timer.isRunning = true) ∧
      ((s.lineEnd e).state = .locked) ∧ ((s.lineEnd e.other).state ≠ .locked) :=
  ⟨rollingAt .degraded 3 2000 (train .opened .locked), .b, by decide +kernel⟩

theorem witness_RollTimerExpires_5 :
    ∃ (s : State), (s.roll.state = .degraded) ∧ (s.roll.timer.isRunning = true) ∧ (s.lineA.state = .locked) ∧
      (s.lineB.state = .locked) :=
  ⟨rollingAt .degraded 3 2000 (train .locked .locked), by decide +kernel⟩

theorem witness_RefreshWindowEnds_1 :
    ∃ (s : State), (s.dir.refreshT.isRunning = true) ∧
      ((s.dir.mirrors.map fun m => (m.owner, m.body.tag, m.body.side)).Nodup) :=
  ⟨(mirroring lightRec (train .locked .locked)).setDir { (mirroring lightRec (train .locked .locked)).dir with refreshT := .running 500 },
    by decide +kernel⟩

theorem witness_ChangeRequestTimerExpires_1 :
    ∃ (s : State) (c : ChangeRequest) (out : LineEnd), (s.traffic.change = some c) ∧ (s.traffic.changeT.isRunning = true) ∧
      (c.attempt = 1) ∧ (s.Reaches c.index out) :=
  ⟨(train .opened .locked).setTraffic { State.reset.traffic with change := some ⟨4#8, 0x12#32, 3, light, .both, .offered, 1⟩, changeT := .running 60 },
    ⟨4#8, 0x12#32, 3, light, .both, .offered, 1⟩, .b, by decide +kernel⟩

theorem witness_ChangeRequestTimerExpires_2 :
    ∃ (s : State) (c : ChangeRequest), (s.traffic.change = some c) ∧ (s.traffic.changeT.isRunning = true) ∧ (c.attempt = 1) ∧
      (∀ out ∈ s.consist.forwardEnd c.index, (s.lineEnd out).state ≠ .locked) :=
  ⟨(train .opened .opened).setTraffic { State.reset.traffic with change := some ⟨4#8, 0x12#32, 3, light, .both, .offered, 1⟩, changeT := .running 60 },
    ⟨4#8, 0x12#32, 3, light, .both, .offered, 1⟩, by decide +kernel⟩

theorem witness_ChangeRequestTimerExpires_3 :
    ∃ (s : State) (c : ChangeRequest) (f : InFlight), (s.traffic.change = some c) ∧ (s.traffic.changeT.isRunning = true) ∧
      (c.attempt = 2) ∧ (s.port.inFlight = some f) :=
  ⟨(busy .requestState (train .opened .locked)).setTraffic { State.reset.traffic with change := some ⟨4#8, 0x12#32, 3, light, .both, .offered, 2⟩, changeT := .running 60 },
    ⟨4#8, 0x12#32, 3, light, .both, .offered, 2⟩, ⟨0x34#8, 9#8, .traffic⟩, by decide +kernel⟩

theorem witness_QueryTimerExpires_1 :
    ∃ (s : State) (q : ForegroundQuery) (out : LineEnd), (s.resolver.query = some q) ∧ (s.resolver.timer.isRunning = true) ∧
      (q.attempt = 1) ∧ (s.Reaches q.index out) :=
  ⟨(train .opened .locked).setResolver ⟨some ⟨4#8, 0x12#32, 3, light, .any, 1⟩, .running 60⟩, ⟨4#8, 0x12#32, 3, light, .any, 1⟩,
    .b, by decide +kernel⟩

theorem witness_QueryTimerExpires_2 :
    ∃ (s : State) (q : ForegroundQuery) (f : InFlight), (s.resolver.query = some q) ∧ (s.resolver.timer.isRunning = true) ∧
      (q.attempt = 2) ∧ (s.port.inFlight = some f) ∧ (s.firstSlot HandleSlot.isReserved = none) :=
  ⟨(busy .lookup (train .opened .locked)).setResolver ⟨some ⟨4#8, 0x12#32, 3, light, .any, 2⟩, .running 60⟩,
    ⟨4#8, 0x12#32, 3, light, .any, 2⟩, ⟨0x40#8, 9#8, .resolver⟩, by decide +kernel⟩

theorem witness_QueryTimerExpires_3 :
    ∃ (s : State) (q : ForegroundQuery) (f : InFlight) (i : Nat) (qu : Question), (s.resolver.query = some q) ∧
      (s.resolver.timer.isRunning = true) ∧ (q.attempt = 2) ∧ (s.port.inFlight = some f) ∧
      (s.firstSlot HandleSlot.isReserved = some i) ∧ (s.slot i = .reserved qu) :=
  ⟨((busy .bind (train .opened .locked)).setResolver ⟨some ⟨4#8, 0x12#32, 3, light, .any, 2⟩,
    .running 60⟩).setSlot 31 (.reserved ⟨light, .any, .car 0x12#32⟩), ⟨4#8, 0x12#32, 3, light, .any, 2⟩,
    ⟨0x50#8, 9#8, .bindings⟩, 31, ⟨light, .any, .car 0x12#32⟩, by decide +kernel⟩

theorem witness_BackgroundQueryTimerExpires_1 :
    ∃ (s : State) (q : BackgroundQuery) (b : Binding) (out : LineEnd), (s.bindings.query = some q) ∧
      (s.bindings.timer.isRunning = true) ∧ (q.attempt = 1) ∧ (s.binding q.slot = some b) ∧ (s.Reaches q.index out) :=
  ⟨(binding1 .pending (train .opened .locked)).setBindings { (binding1 .pending (train .opened .locked)).bindings with query := some ⟨0, 4#8, 0x12#32, 3, 1⟩, timer := .running 60 },
    ⟨0, 4#8, 0x12#32, 3, 1⟩, ⟨⟨light, .any, .car 0x12#32⟩, .pending, false, true⟩, .b, by decide +kernel⟩

theorem witness_BackgroundQueryTimerExpires_2 :
    ∃ (s : State) (q : BackgroundQuery) (b : Binding), (s.bindings.query = some q) ∧ (s.bindings.timer.isRunning = true) ∧
      (q.attempt = 2) ∧ (s.binding q.slot = some b) ∧ (b.st = .pending) :=
  ⟨(binding1 .pending (train .opened .locked)).setBindings { (binding1 .pending (train .opened .locked)).bindings with query := some ⟨0, 4#8, 0x12#32, 3, 2⟩, timer := .running 60 },
    ⟨0, 4#8, 0x12#32, 3, 2⟩, ⟨⟨light, .any, .car 0x12#32⟩, .pending, false, true⟩, by decide +kernel⟩

theorem witness_TransmissionStarts_1 :
    ∃ (s : State) (e : LineEnd) (cs : List CtrlItem), ((s.lineEnd e).state.framing = true) ∧
      ((s.lineEnd e).ctrlQ = .beacon :: cs) :=
  ⟨(train .barred .opened).setEnd .a { endIn .barred with ctrlQ := [.beacon] }, .a, [], by decide +kernel⟩

theorem witness_TransmissionStarts_2 :
    ∃ (s : State) (e : LineEnd) (f : Frame) (cs : List CtrlItem), ((s.lineEnd e).state.framing = true) ∧
      ((s.lineEnd e).ctrlQ = .frame f :: cs) :=
  ⟨(train .locked .opened).setEnd .a { endIn .locked with ctrlQ := [.frame ⟨⟨58#32, 0x11#32, 0#8, 0#8⟩, .call⟩, .beacon] }, .a,
    ⟨⟨58#32, 0x11#32, 0#8, 0#8⟩, .call⟩, [.beacon], by decide +kernel⟩

theorem witness_TransmissionStarts_3 :
    ∃ (s : State) (e : LineEnd) (f : Frame) (fs : List Frame), ((s.lineEnd e).state.framing = true) ∧
      ((s.lineEnd e).ctrlQ = []) ∧ ((s.lineEnd e).dirQ = f :: fs) ∧ (s.traffic.burst = false) :=
  ⟨(train .locked .opened).setEnd .a { endIn .locked with dirQ := [⟨from3 0#8, .query 1#8 light⟩] }, .a,
    ⟨from3 0#8, .query 1#8 light⟩, [], by decide +kernel⟩

theorem witness_TransmissionStarts_4 :
    ∃ (s : State) (e : LineEnd), ((s.lineEnd e).state.framing = true) ∧ ((s.lineEnd e).ctrlQ = []) ∧
      ((s.lineEnd e).dirQ = []) :=
  ⟨train .hunting .opened, .a, by decide +kernel⟩

theorem witness_TransmissionStarts_5 :
    ∃ (s : State) (e : LineEnd) (f : Frame) (fs : List Frame), ((s.lineEnd e).state = .locked) ∧ ((s.lineEnd e).ctrlQ = []) ∧
      ((s.lineEnd e).dirQ = f :: fs) ∧ (s.traffic.burst = true) :=
  ⟨((offering lightRec (train .locked .opened)).setEnd .a { endIn .locked with dirQ := [⟨from3 0#8, .query 1#8 light⟩] }).setRemainder [(light,
    .both)], .a, ⟨from3 0#8, .query 1#8 light⟩, [], by decide +kernel⟩

theorem witness_TransmissionStarts_6 :
    ∃ (s : State) (e : LineEnd) (f : Frame) (fs : List Frame),
      ((s.lineEnd e).state = .hunting ∨ (s.lineEnd e).state = .barred) ∧ ((s.lineEnd e).ctrlQ = []) ∧
      ((s.lineEnd e).dirQ = f :: fs) :=
  ⟨((offering lightRec (train .hunting .opened)).setEnd .a { endIn .hunting with dirQ := [⟨from3 0#8, .query 1#8 light⟩] }).setRemainder [(light,
    .both)], .a, ⟨from3 0#8, .query 1#8 light⟩, [], by decide +kernel⟩

theorem witness_TransmissionStarts_7 :
    ∃ (s : State) (e : LineEnd), ((s.lineEnd e).state.framing = false) :=
  ⟨State.reset, .a, by decide +kernel⟩

theorem witness_TransmissionStarts_8 :
    ∃ (s : State) (e : LineEnd) (f : Frame), ((s.lineEnd e).state.framing = true) ∧ ((s.lineEnd e).sending = some f) :=
  ⟨(train .barred .opened).setEnd .a { endIn .barred with sending := some ⟨from3 0#8, .call⟩ }, .a, ⟨from3 0#8, .call⟩,
    by decide +kernel⟩

theorem witness_TransmissionStarts_9 :
    ∃ (s : State) (e : LineEnd), ((s.lineEnd e).state.framing = true) ∧ ((s.lineEnd e).sending = none) :=
  ⟨train .barred .opened, .a, by decide +kernel⟩

theorem witness_TransmissionStarts_10 :
    ∃ (s : State) (e : LineEnd), ((s.lineEnd e).state.framing = false) :=
  ⟨State.reset, .a, by decide +kernel⟩

theorem witness_FramesOutsideLocked_1 :
    ∃ (s : State) (e : LineEnd) (f : Frame), (f.valid = true) ∧ (f.payload.kind ≠ 1#8) ∧ ((s.lineEnd e).state = .hunting) ∧
      ((s.lineEnd e).lockCount < 2) :=
  ⟨train .hunting .opened, .a, ⟨from3 0#8, .call⟩, by decide +kernel⟩

theorem witness_FramesOutsideLocked_2 :
    ∃ (s : State) (e : LineEnd) (f : Frame), (f.valid = true) ∧ (f.payload.kind ≠ 1#8) ∧ ((s.lineEnd e).state = .hunting) ∧
      ((s.lineEnd e).lockCount = 2) ∧ ((s.lineEnd e).barFlag = true) :=
  ⟨(train .hunting .opened).setEnd .a { endIn .hunting with lockCount := 2, barFlag := true }, .a, ⟨from3 0#8, .call⟩,
    by decide +kernel⟩

theorem witness_FramesOutsideLocked_3 :
    ∃ (s : State) (e : LineEnd) (f : Frame), (f.valid = true) ∧ (f.payload.kind ≠ 1#8) ∧ ((s.lineEnd e).state = .hunting) ∧
      ((s.lineEnd e).lockCount = 2) ∧ ((s.lineEnd e).barFlag = false) :=
  ⟨(train .hunting .locked).setEnd .a { endIn .hunting with lockCount := 2 }, .a, ⟨from3 0#8, .call⟩, by decide +kernel⟩

theorem witness_FramesOutsideLocked_4 :
    ∃ (s : State) (e : LineEnd) (f : Frame), (f.valid = true) ∧ (f.payload.kind ≠ 1#8) ∧ ((s.lineEnd e).state = .barred) :=
  ⟨train .barred .opened, .a, ⟨from3 0#8, .call⟩, by decide +kernel⟩

theorem witness_FramesOutsideLocked_5 :
    ∃ (s : State) (e : LineEnd) (f : Frame), (f.valid = true) ∧ ((s.lineEnd e).state.framing = false) :=
  ⟨train .settling .opened, .a, ⟨from3 0#8, .call⟩, by decide +kernel⟩

theorem witness_FramesOutsideLocked_7 :
    ∃ (f : Frame), (f.valid = false) :=
  ⟨⟨from3 0#8, .query 1#8 []⟩, by decide +kernel⟩

theorem witness_BeaconReceived_1 :
    ∃ (s : State) (e : LineEnd) (se : Byte), (se ≤ 1#8) ∧ ((s.lineEnd e).state = .hunting) ∧ ((s.lineEnd e).lockCount < 2) :=
  ⟨train .hunting .opened, .a, 1#8, by decide +kernel⟩

theorem witness_BeaconReceived_2 :
    ∃ (s : State) (e : LineEnd) (se : Byte) (fl : Byte), (se ≤ 1#8) ∧ ((s.lineEnd e).state = .hunting) ∧
      ((s.lineEnd e).lockCount = 2) ∧
      ((if decide (fl.toNat % 2 = 1) = (s.lineEnd e).neighbourBarred then (s.lineEnd e).barFlag else decide (fl.toNat % 2 = 1)) = true) :=
  ⟨(train .hunting .opened).setEnd .a { endIn .hunting with lockCount := 2 }, .a, 1#8, 3#8, by decide +kernel⟩

theorem witness_BeaconReceived_3 :
    ∃ (s : State) (e : LineEnd) (se : Byte) (fl : Byte), (se ≤ 1#8) ∧ ((s.lineEnd e).state = .hunting) ∧
      ((s.lineEnd e).lockCount = 2) ∧
      ((if decide (fl.toNat % 2 = 1) = (s.lineEnd e).neighbourBarred then (s.lineEnd e).barFlag else decide (fl.toNat % 2 = 1)) = false) :=
  ⟨(train .hunting .opened).setEnd .a { endIn .hunting with lockCount := 2 }, .a, 0#8, 2#8, by decide +kernel⟩

theorem witness_BeaconReceived_4 :
    ∃ (s : State) (e : LineEnd) (se : Byte) (fl : Byte) (ea : Word) (dg : Word), (se ≤ 1#8) ∧ ((s.lineEnd e).state = .locked) ∧
      ((decide (fl.toNat % 2 = 1) = true → (s.lineEnd e).neighbourBarred = true)) ∧
      (¬(s.roll.state = .formed ∧ (s.consist.ea < ea ∨ (ea = s.consist.ea ∧ dg ≠ s.consist.digest)))) :=
  ⟨train .locked .opened, .a, 0#8, 2#8, 57#32, 0#32, by decide +kernel⟩

theorem witness_BeaconReceived_5 :
    ∃ (s : State) (e : LineEnd) (se : Byte) (fl : Byte), (se ≤ 1#8) ∧ ((s.lineEnd e).state = .locked) ∧
      (decide (fl.toNat % 2 = 1) = true) ∧ ((s.lineEnd e).neighbourBarred = false) :=
  ⟨train .locked .opened, .a, 0#8, 3#8, by decide +kernel⟩

theorem witness_BeaconReceived_6 :
    ∃ (s : State) (e : LineEnd) (se : Byte) (fl : Byte) (ea : Word) (dg : Word), (se ≤ 1#8) ∧ ((s.lineEnd e).state = .locked) ∧
      ((decide (fl.toNat % 2 = 1) = true → (s.lineEnd e).neighbourBarred = true)) ∧
      (s.roll.state = .formed ∧ (s.consist.ea < ea ∨ (ea = s.consist.ea ∧ dg ≠ s.consist.digest))) :=
  ⟨train .locked .locked, .a, 0#8, 2#8, 58#32, 0#32, by decide +kernel⟩

theorem witness_BeaconReceived_7 :
    ∃ (s : State) (e : LineEnd) (se : Byte) (fl : Byte), (se ≤ 1#8) ∧ ((s.lineEnd e).state = .barred) ∧
      ((decide (fl.toNat % 2 = 1) = false → (s.lineEnd e).neighbourBarred = false)) :=
  ⟨train .barred .opened, .a, 0#8, 2#8, by decide +kernel⟩

theorem witness_BeaconReceived_8 :
    ∃ (s : State) (e : LineEnd) (se : Byte) (fl : Byte), (se ≤ 1#8) ∧ ((s.lineEnd e).state = .barred) ∧
      (decide (fl.toNat % 2 = 1) = false) ∧ ((s.lineEnd e).neighbourBarred = true) :=
  ⟨(train .barred .opened).setEnd .a { endIn .barred with neighbour := (some ⟨0x12#32, .b, 58#32, 1#32, .formed, true⟩) }, .a,
    0#8, 2#8, by decide +kernel⟩

theorem witness_CallReceived_1 :
    ∃ (s : State) (e : LineEnd), ((s.lineEnd e).state = .locked) ∧ ((s.lineEnd e.other).state = .locked) ∧
      (s.roll.state = .formed) :=
  ⟨train .locked .locked, .a, by decide +kernel⟩

theorem witness_CallReceived_2 :
    ∃ (s : State) (e : LineEnd) (h : Header), ((s.lineEnd e).state = .locked) ∧ ((s.lineEnd e.other).state = .locked) ∧
      (s.roll.state = .degraded ∨ (s.roll.state = .rolling ∧ s.roll.epoch < h.epoch)) :=
  ⟨rollingAt .rolling 0 250 (train .locked .locked), .a, ⟨59#32, 0x10#32, 0#8, 0#8⟩, by decide +kernel⟩

theorem witness_CallReceived_3 :
    ∃ (s : State) (e : LineEnd) (h : Header), ((s.lineEnd e).state = .locked) ∧ ((s.lineEnd e.other).state = .locked) ∧
      (s.roll.state = .rolling) ∧ (h.epoch ≤ s.roll.epoch) :=
  ⟨rollingAt .rolling 0 250 (train .locked .locked), .a, ⟨58#32, 0x10#32, 0#8, 0#8⟩, by decide +kernel⟩

theorem witness_CallReceived_4 :
    ∃ (s : State) (e : LineEnd), ((s.lineEnd e).state = .locked) ∧ ((s.lineEnd e.other).state ≠ .locked) ∧
      (s.roll.state = .formed) :=
  ⟨train .locked .opened, .a, by decide +kernel⟩

theorem witness_CallReceived_5 :
    ∃ (s : State) (e : LineEnd) (h : Header), ((s.lineEnd e).state = .locked) ∧ ((s.lineEnd e.other).state ≠ .locked) ∧
      (s.roll.state = .degraded ∨ (s.roll.state = .rolling ∧ s.roll.lastOrig ≤ h.epoch)) :=
  ⟨rollingAt .rolling 0 250 (train .locked .opened), .a, ⟨40#32, 0x10#32, 0#8, 0#8⟩, by decide +kernel⟩

theorem witness_CallReceived_6 :
    ∃ (s : State) (e : LineEnd) (h : Header), ((s.lineEnd e).state = .locked) ∧ ((s.lineEnd e.other).state ≠ .locked) ∧
      (s.roll.state = .rolling) ∧ (h.epoch < s.roll.lastOrig) :=
  ⟨rollingAt .rolling 0 250 (train .locked .opened), .a, ⟨39#32, 0x10#32, 0#8, 0#8⟩, by decide +kernel⟩

theorem witness_RollDiscardedOrForwarded_1 :
    ∃ (s : State) (e : LineEnd) (h : Header) (es : List CarEntry), (es.length ≤ 16) ∧ ((s.lineEnd e).state = .locked) ∧
      (es = [] ∨ ¬EntriesOk es ∨ h.epoch < s.roll.epoch) :=
  ⟨train .locked .opened, .a, ⟨57#32, 0x10#32, 0#8, 0#8⟩, [⟨0x10#32, 0#8, 2#8⟩], by decide +kernel⟩

theorem witness_RollDiscardedOrForwarded_2 :
    ∃ (s : State) (e : LineEnd) (h : Header) (es : List CarEntry), ((s.lineEnd e).state = .locked) ∧
      ((s.lineEnd e.other).state = .locked) ∧ (s.roll.state = .rolling ∨ s.roll.state = .degraded) ∧ (EntriesOk es) ∧
      (es ≠ []) ∧ (es.length ≤ 15) ∧ (∀ c ∈ es, c.ident ≠ s.ownId) ∧ (s.roll.epoch ≤ h.epoch) :=
  ⟨rollingAt .degraded 3 2000 (train .locked .locked), .b, ⟨58#32, 0x10#32, 0#8, 0#8⟩,
    ((List.range 15).map fun i => ⟨BitVec.ofNat 32 (0x20 + i), 0#8, 2#8⟩), by decide +kernel⟩

theorem witness_RollDiscardedOrForwarded_3 :
    ∃ (s : State) (e : LineEnd) (h : Header) (es : List CarEntry), ((s.lineEnd e).state = .locked) ∧
      ((s.lineEnd e.other).state = .locked) ∧ (s.roll.state = .formed) ∧ (EntriesOk es) ∧ (es ≠ []) ∧ (es.length ≤ 15) ∧
      (∀ c ∈ es, c.ident ≠ s.ownId) ∧ (s.roll.epoch ≤ h.epoch) :=
  ⟨train .locked .locked, .b, ⟨59#32, 0x10#32, 0#8, 0#8⟩, [⟨0x10#32, 0#8, 2#8⟩], by decide +kernel⟩

theorem witness_RollCompletedAtATerminal_1 :
    ∃ (s : State) (e : LineEnd) (h : Header) (es : List CarEntry), ((s.lineEnd e).state = .locked) ∧
      ((s.lineEnd e.other).state ≠ .locked) ∧ (s.roll.state ≠ .unformed) ∧ (EntriesOk es) ∧ (es ≠ []) ∧ (es.length ≤ 15) ∧
      (∀ c ∈ es, c.ident ≠ s.ownId) ∧ (s.roll.epoch ≤ h.epoch) :=
  ⟨rollingAt .rolling 0 250 (train .locked .opened), .a, ⟨59#32, 0x10#32, 0#8, 0#8⟩,
    ((List.range 15).map fun i => ⟨BitVec.ofNat 32 (0x20 + i), 0#8, 2#8⟩), by decide +kernel⟩

theorem witness_RollCompletedAtATerminal_2 :
    ∃ (s : State) (e : LineEnd) (h : Header) (es : List CarEntry), (s.Quiet) ∧
      ((s.dir.mirrors.map fun m => (m.owner, m.body.tag, m.body.side)).Nodup) ∧ ((s.lineEnd e).state = .locked) ∧
      ((s.lineEnd e.other).state ≠ .locked) ∧ (s.roll.state ≠ .unformed) ∧ (EntriesOk es) ∧ (es ≠ []) ∧ (es.length ≤ 15) ∧
      (∀ c ∈ es, c.ident ≠ s.ownId) ∧ (s.roll.epoch ≤ h.epoch) :=
  ⟨binding1 .pending (mirroring lightRec (rollingAt .rolling 0 250 (train .locked .opened))), .a, ⟨59#32, 0x10#32, 0#8, 0#8⟩,
    [⟨0x10#32, 0#8, 2#8⟩], by decide +kernel⟩

theorem witness_RollCompletedAtATerminal_3 :
    ∃ (s : State) (e : LineEnd) (h : Header) (es : List CarEntry), (s.Quiet) ∧ (∀ i ∈ slots, s.slot i = .free) ∧
      ((s.lineEnd e).state = .locked) ∧ ((s.lineEnd e.other).state ≠ .locked) ∧ (s.roll.state ≠ .unformed) ∧ (EntriesOk es) ∧
      (es ≠ []) ∧ (es.length ≤ 15) ∧ (∀ c ∈ es, c.ident ≠ s.ownId) ∧ (s.roll.epoch ≤ h.epoch) :=
  ⟨offering lightRec (rollingAt .rolling 0 250 (train .locked .opened)), .a, ⟨59#32, 0x10#32, 0#8, 0#8⟩, [⟨0x10#32, 0#8, 2#8⟩],
    by decide +kernel⟩

theorem witness_RollFaults_1 :
    ∃ (s : State) (e : LineEnd) (h : Header) (es : List CarEntry), ((s.lineEnd e).state = .locked) ∧
      (s.roll.state = .rolling ∨ s.roll.state = .degraded) ∧ (EntriesOk es) ∧ (es.length ≤ 16) ∧ (∃ c ∈ es, c.ident = s.ownId) ∧
      (s.roll.epoch ≤ h.epoch) ∧ (s.attn.disp.duplicateId ≠ .isolate) :=
  ⟨rollingAt .rolling 0 250 (train .locked .opened), .a, ⟨58#32, 0x10#32, 0#8, 0#8⟩, [⟨0x11#32, 0#8, 2#8⟩], by decide +kernel⟩

theorem witness_RollFaults_2 :
    ∃ (s : State) (e : LineEnd) (h : Header) (es : List CarEntry), ((s.lineEnd e).state = .locked) ∧
      (s.roll.state ≠ .unformed) ∧ (EntriesOk es) ∧ (es.length ≤ 16) ∧ (∃ c ∈ es, c.ident = s.ownId) ∧
      (s.roll.epoch ≤ h.epoch) ∧ (s.attn.disp.duplicateId = .isolate) :=
  ⟨{ train .locked .opened with attn := { (train .locked .opened).attn with disp := { State.reset.attn.disp with duplicateId := .isolate } } },
    .a, ⟨58#32, 0x10#32, 0#8, 0#8⟩, [⟨0x11#32, 0#8, 2#8⟩], by decide +kernel⟩

theorem witness_RollFaults_3 :
    ∃ (s : State) (e : LineEnd) (h : Header) (es : List CarEntry), ((s.lineEnd e).state = .locked) ∧
      (s.roll.state ≠ .unformed) ∧ (EntriesOk es) ∧ (es.length = 16) ∧ (∀ c ∈ es, c.ident ≠ s.ownId) ∧
      (s.roll.epoch ≤ h.epoch) :=
  ⟨train .locked .locked, .a, ⟨58#32, 0x10#32, 0#8, 0#8⟩, ((List.range 16).map fun i => ⟨BitVec.ofNat 32 (0x20 + i), 0#8, 2#8⟩),
    by decide +kernel⟩

theorem witness_RosterReceived_1 :
    ∃ (s : State) (e : LineEnd) (h : Header) (es : List CarEntry), (1 ≤ es.length) ∧ (es.length ≤ 16) ∧
      ((s.lineEnd e).state = .locked) ∧ (h.epoch < s.roll.epoch) :=
  ⟨train .locked .opened, .a, ⟨57#32, 0x10#32, 0#8, 1#8⟩, [⟨0x10#32, 0#8, 2#8⟩], by decide +kernel⟩

theorem witness_RosterReceived_2 :
    ∃ (s : State) (e : LineEnd) (h : Header) (es : List CarEntry), (1 ≤ es.length) ∧ (es.length ≤ 16) ∧
      ((s.lineEnd e).state = .locked) ∧ (s.roll.epoch ≤ h.epoch) ∧ (s.roll.state ≠ .unformed) ∧
      (∀ own ∈ List.range 17, ∀ c ∈ es, ¬s.RosterFits e h es own c.cab) :=
  ⟨train .locked .locked, .a, ⟨58#32, 0x10#32, 0#8, 1#8⟩, [⟨0x10#32, 0#8, 2#8⟩], by decide +kernel⟩

theorem witness_RosterReceived_3 :
    ∃ (s : State) (e : LineEnd) (h : Header) (es : List CarEntry) (own : Nat) (cab : Byte), (es.length ≤ 16) ∧
      ((s.lineEnd e).state = .locked) ∧ (s.RosterFits e h es own cab) ∧ (s.roll.epoch ≤ h.epoch) ∧ (s.roll.state = .formed) ∧
      (h.epoch = s.consist.ea) :=
  ⟨train .opened .locked, .b, ⟨58#32, 0x10#32, 0#8, 1#8⟩, [⟨0x10#32, 0#8, 2#8⟩, ⟨0x11#32, 1#8, 2#8⟩], 2, 2#8, by decide +kernel⟩

theorem witness_RosterReceived_4 :
    ∃ (s : State) (e : LineEnd) (h : Header) (es : List CarEntry) (own : Nat) (cab : Byte), (es.length ≤ 16) ∧
      ((s.lineEnd e).state = .locked) ∧ (s.RosterFits e h es own cab) ∧ (s.roll.epoch ≤ h.epoch) ∧
      (¬(s.roll.state = .formed ∧ h.epoch = s.consist.ea)) :=
  ⟨train .locked .locked, .b, ⟨59#32, 0x10#32, 0#8, 1#8⟩, [⟨0x10#32, 0#8, 2#8⟩, ⟨0x11#32, 1#8, 2#8⟩], 2, 2#8, by decide +kernel⟩

theorem witness_RosterReceived_5 :
    ∃ (s : State) (e : LineEnd) (h : Header) (es : List CarEntry) (own : Nat) (cab : Byte), (s.Quiet) ∧
      ((s.dir.mirrors.map fun m => (m.owner, m.body.tag, m.body.side)).Nodup) ∧ (es.length ≤ 16) ∧
      ((s.lineEnd e).state = .locked) ∧ (s.RosterFits e h es own cab) ∧ (s.roll.epoch ≤ h.epoch) ∧
      (¬(s.roll.state = .formed ∧ h.epoch = s.consist.ea)) :=
  ⟨binding1 .pending (mirroring lightRec (train .locked .locked)), .b, ⟨59#32, 0x10#32, 0#8, 1#8⟩,
    [⟨0x10#32, 0#8, 2#8⟩, ⟨0x11#32, 1#8, 2#8⟩], 2, 2#8, by decide +kernel⟩

theorem witness_RosterReceived_6 :
    ∃ (s : State) (e : LineEnd) (h : Header) (es : List CarEntry) (own : Nat) (cab : Byte), (s.Quiet) ∧
      (∀ i ∈ slots, s.slot i = .free) ∧ (es.length ≤ 16) ∧ ((s.lineEnd e).state = .locked) ∧ (s.RosterFits e h es own cab) ∧
      (s.roll.epoch ≤ h.epoch) ∧ (¬(s.roll.state = .formed ∧ h.epoch = s.consist.ea)) :=
  ⟨offering lightRec (train .locked .locked), .b, ⟨59#32, 0x10#32, 0#8, 1#8⟩, [⟨0x10#32, 0#8, 2#8⟩, ⟨0x11#32, 1#8, 2#8⟩], 2,
    2#8, by decide +kernel⟩

theorem witness_SteerReceived_1 :
    ∃ (s : State) (e : LineEnd) (h : Header), ((s.lineEnd e).state = .locked) ∧ (h.epoch = s.consist.ea) ∧ (h.src ≠ s.ownId) ∧
      ((s.consist.entry h.srcIdx.toNat).map RosterEntry.ident = some h.src) ∧ (s.consist.forwardEnd h.srcIdx.toNat = some e) :=
  ⟨train .locked .locked, .b, from3 0#8, by decide +kernel⟩

theorem witness_SteerReceived_2 :
    ∃ (s : State) (e : LineEnd) (h : Header) (cab : Byte), ((s.lineEnd e).state = .locked) ∧
      (h.epoch ≠ s.consist.ea ∨ h.src = s.ownId ∨ (s.consist.entry h.srcIdx.toNat).map RosterEntry.ident ≠ some h.src ∨
      2#8 < cab ∨ s.consist.forwardEnd h.srcIdx.toNat ≠ some e) :=
  ⟨train .locked .locked, .b, from3 0#8, 3#8, by decide +kernel⟩

theorem witness_SteerReceived_3 :
    ∃ (s : State) (e : LineEnd) (h : Header), ((s.dir.mirrors.map fun m => (m.owner, m.body.tag, m.body.side)).Nodup) ∧
      ((s.lineEnd e).state = .locked) ∧ (h.epoch = s.consist.ea) ∧ (h.src ≠ s.ownId) ∧
      ((s.consist.entry h.srcIdx.toNat).map RosterEntry.ident = some h.src) ∧ (s.consist.forwardEnd h.srcIdx.toNat = some e) :=
  ⟨binding1 .pending (mirroring lightRec (train .locked .locked)), .b, from3 0#8, by decide +kernel⟩

theorem witness_DirectoryFramesDiscarded_1 :
    ∃ (s : State) (e : LineEnd) (f : Frame), (f.valid = true) ∧ (f.payload.kind.toNat / 16 = 1) ∧
      ((s.lineEnd e).state = .locked) ∧ (¬s.FromCar f.hdr) :=
  ⟨rollingAt .rolling 0 250 (train .locked .locked), .b, ⟨from3 0#8, .publish lightRec.toBody⟩, by decide +kernel⟩

theorem witness_DirectoryFramesDiscarded_2 :
    ∃ (s : State) (e : LineEnd) (f : Frame), (f.valid = true) ∧ (f.payload.kind = 0x11#8 ∨ f.payload.kind = 0x12#8) ∧
      ((s.lineEnd e).state = .locked) ∧ (s.FromCar f.hdr) ∧ (f.hdr.dst ≠ 0#8) :=
  ⟨train .locked .locked, .b, ⟨from3 2#8, .publish lightRec.toBody⟩, by decide +kernel⟩

theorem witness_DirectoryFramesDiscarded_3 :
    ∃ (s : State) (e : LineEnd) (f : Frame), (f.valid = true) ∧ (0x13 ≤ f.payload.kind.toNat) ∧
      ((s.lineEnd e).state = .locked) ∧ (s.FromCar f.hdr) ∧ (f.hdr.dst.toNat ≠ s.consist.ownIdx ∨ s.consist.ownIdx = 0) ∧
      (∀ out ∈ s.consist.forwardEnd f.hdr.dst.toNat, out = e ∨ (s.lineEnd out).state ≠ .locked) :=
  ⟨train .locked .locked, .b, ⟨from3 4#8, .query 1#8 light⟩, by decide +kernel⟩

theorem witness_UnicastsForwarded_1 :
    ∃ (s : State) (e : LineEnd) (out : LineEnd) (f : Frame), (f.valid = true) ∧ (0x13 ≤ f.payload.kind.toNat) ∧
      ((s.lineEnd e).state = .locked) ∧ (s.FromCar f.hdr) ∧ (f.hdr.dst.toNat ≠ s.consist.ownIdx) ∧
      (s.Reaches f.hdr.dst.toNat out) ∧ (out ≠ e) :=
  ⟨train .locked .locked, .a, .b, ⟨⟨58#32, 0x10#32, 3#8, 1#8⟩, .query 1#8 light⟩, by decide +kernel⟩

theorem witness_BroadcastsTaken_1 :
    ∃ (s : State) (e : LineEnd) (h : Header) (r : Rec) (m : Mirror), (r.Good) ∧ (s.Unbound r.tag) ∧
      ((s.lineEnd e).state = .locked) ∧ (s.FromCar h) ∧ (h.dst = 0#8) ∧ (s.dir.findMirror h.src r.tag r.side = some m) :=
  ⟨mirroring lightRec (train .locked .locked), .b, from3 0#8, { lightRec with rev := 3#16 }, ⟨0x12#32, lightRec, .stale, 0⟩,
    by decide +kernel⟩

theorem witness_BroadcastsTaken_2 :
    ∃ (s : State) (e : LineEnd) (h : Header) (r : Rec), (r.Good) ∧ (s.Unbound r.tag) ∧ ((s.lineEnd e).state = .locked) ∧
      (s.FromCar h) ∧ (h.dst = 0#8) ∧ (s.dir.findMirror h.src r.tag r.side = none) ∧
      (s.dir.allMode = true ∨ s.dir.interested r.tag = true) ∧ (s.dir.home.length + s.dir.mirrors.length < 256) :=
  ⟨(train .locked .locked).setDir { State.reset.dir with allMode := true }, .b, from3 0#8, lightRec, by decide +kernel⟩

theorem witness_BroadcastsTaken_3 :
    ∃ (s : State) (e : LineEnd) (h : Header) (r : Rec), (r.Good) ∧ (s.Unbound r.tag) ∧ ((s.lineEnd e).state = .locked) ∧
      (s.FromCar h) ∧ (h.dst = 0#8) ∧ (s.dir.findMirror h.src r.tag r.side = none) ∧ (s.dir.allMode = false) ∧
      (s.dir.interested r.tag = false) :=
  ⟨train .locked .locked, .b, from3 0#8, lightRec, by decide +kernel⟩

theorem witness_BroadcastsTaken_4 :
    ∃ (s : State) (e : LineEnd) (h : Header) (r : Rec), (TagOk r.tag) ∧ (s.Unbound r.tag) ∧ ((s.lineEnd e).state = .locked) ∧
      (s.FromCar h) ∧ (h.dst = 0#8) ∧ ((s.dir.mirrors.filter fun x => x.owner = h.src ∧ x.body.tag = r.tag ∧
      x.body.side = r.side) ≠ []) :=
  ⟨mirroring lightRec (train .locked .opened), .a, from3 0#8, lightRec, by decide +kernel⟩

theorem witness_BroadcastsTaken_5 :
    ∃ (s : State) (e : LineEnd) (h : Header) (r : Rec), (TagOk r.tag) ∧ ((s.lineEnd e).state = .locked) ∧ (s.FromCar h) ∧
      (h.dst = 0#8) ∧ (s.dir.findMirror h.src r.tag r.side = none) :=
  ⟨train .locked .locked, .b, from3 0#8, lightRec, by decide +kernel⟩

theorem witness_BroadcastsTaken_6 :
    ∃ (s : State) (e : LineEnd) (h : Header) (r : Rec) (pre : List Mirror) (post : List Mirror) (v : Mirror), (r.Good) ∧
      (s.Unbound r.tag) ∧ (s.Unbound v.body.tag) ∧ ((s.lineEnd e).state = .locked) ∧ (s.FromCar h) ∧ (h.dst = 0#8) ∧
      (s.dir.findMirror h.src r.tag r.side = none) ∧ (s.dir.allMode = true ∨ s.dir.interested r.tag = true) ∧
      (s.Evicts pre v post) :=
  ⟨(train .locked .locked).setDir { State.reset.dir with allMode := true, mirrors := heldMirror 0x43#8 0 :: List.replicate 255 (heldMirror 0x42#8 1) },
    .b, from3 0#8, lightRec, [], List.replicate 255 (heldMirror 0x42#8 1), heldMirror 0x43#8 0, by decide +kernel⟩

theorem witness_BroadcastsTaken_7 :
    ∃ (s : State) (e : LineEnd) (h : Header) (r : Rec), (r.Good) ∧
      ((s.dir.mirrors.map fun m => (m.owner, m.body.tag, m.body.side)).Nodup) ∧ ((s.lineEnd e).state = .locked) ∧
      (s.FromCar h) ∧ (h.dst = 0#8) ∧ ((s.dir.findMirror h.src r.tag r.side).isSome = true ∨
      ((s.dir.allMode = true ∨ s.dir.interested r.tag = true ∨ s.namesTag r.tag = true) ∧
      s.dir.home.length + s.dir.mirrors.length < 256)) :=
  ⟨binding1 .pending (train .locked .locked), .b, from3 0#8, lightRec, by decide +kernel⟩

theorem witness_BroadcastsTaken_8 :
    ∃ (s : State) (e : LineEnd) (h : Header) (r : Rec), (TagOk r.tag) ∧
      ((s.dir.mirrors.map fun m => (m.owner, m.body.tag, m.body.side)).Nodup) ∧ ((s.lineEnd e).state = .locked) ∧
      (s.FromCar h) ∧ (h.dst = 0#8) ∧ ((s.dir.findMirror h.src r.tag r.side).isSome = true) :=
  ⟨binding1 .pending (mirroring lightRec (train .locked .locked)), .b, from3 0#8, lightRec, by decide +kernel⟩

theorem witness_QueryAnswered_1 :
    ∃ (s : State) (e : LineEnd) (out : LineEnd) (h : Header) (g : Tag), (TagOk g) ∧ ((s.lineEnd e).state = .locked) ∧
      (s.FromCar h) ∧ (h.dst.toNat = s.consist.ownIdx) ∧ (h.dst ≠ 0#8) ∧ (s.consist.ownIdx ≤ s.consist.n) ∧
      (s.Reaches h.srcIdx.toNat out) :=
  ⟨offering lightRec (train .locked .locked), .b, .b, from3 2#8, light, by decide +kernel⟩

theorem witness_QueryAnswered_2 :
    ∃ (s : State) (e : LineEnd) (h : Header) (g : Tag), (1 ≤ g.length) ∧ (g.length ≤ 16) ∧ (¬TagOk g) ∧
      ((s.lineEnd e).state = .locked) ∧ (s.FromCar h) ∧ (h.dst.toNat = s.consist.ownIdx) ∧ (h.dst ≠ 0#8) ∧
      (s.consist.ownIdx ≤ s.consist.n) :=
  ⟨train .locked .locked, .b, from3 2#8, [0x7F#8], by decide +kernel⟩

theorem witness_AnswerReceived_1 :
    ∃ (s : State) (e : LineEnd) (h : Header) (id : Byte) (bs : List RecordBody), ((Payload.answer id bs).valid = true) ∧
      ((s.lineEnd e).state = .locked) ∧ (s.FromCar h) ∧ (h.dst.toNat = s.consist.ownIdx) ∧ (h.dst ≠ 0#8) ∧
      (s.consist.ownIdx ≤ s.consist.n) ∧ ((s.resolver.query.all fun q => !(q.id == id && q.target == h.src)) = true) ∧
      ((s.bindings.query.all fun q => !(q.id == id && q.target == h.src)) = true) :=
  ⟨train .locked .locked, .b, from3 2#8, 1#8, [lightRec.toBody], by decide +kernel⟩

theorem witness_AnswerReceived_2 :
    ∃ (s : State) (e : LineEnd) (h : Header) (q : ForegroundQuery) (f : InFlight) (r : RosterEntry),
      ((s.lineEnd e).state = .locked) ∧ (s.FromCar h) ∧ (h.dst.toNat = s.consist.ownIdx) ∧ (h.dst ≠ 0#8) ∧
      (s.consist.ownIdx ≤ s.consist.n) ∧ (s.resolver.query = some q) ∧ (q.target = h.src) ∧ (s.port.inFlight = some f) ∧
      (s.firstSlot HandleSlot.isReserved = none) ∧ (s.consist.entry q.index = some r) :=
  ⟨(busy .lookup (train .locked .locked)).setResolver ⟨some ⟨4#8, 0x12#32, 3, light, .any, 1⟩, .running 60⟩, .b, from3 2#8,
    ⟨4#8, 0x12#32, 3, light, .any, 1⟩, ⟨0x40#8, 9#8, .resolver⟩, ⟨0x12#32, .b, .none⟩, by decide +kernel⟩

theorem witness_AnswerReceived_3 :
    ∃ (s : State) (e : LineEnd) (h : Header) (q : ForegroundQuery) (f : InFlight) (r : Rec), (r.Good) ∧ (s.Unbound r.tag) ∧
      ((s.lineEnd e).state = .locked) ∧ (s.FromCar h) ∧ (h.dst.toNat = s.consist.ownIdx) ∧ (h.dst ≠ 0#8) ∧
      (s.consist.ownIdx ≤ s.consist.n) ∧ (s.resolver.query = some q) ∧ (q.target = h.src) ∧ (q.filter = .any) ∧
      (r.tag = q.tag) ∧ (s.port.inFlight = some f) ∧ (s.firstSlot HandleSlot.isReserved = none) ∧
      (s.dir.home.length + s.dir.mirrors.length < 256) ∧ (s.dir.findMirror h.src r.tag r.side = none) :=
  ⟨(busy .lookup (train .locked .locked)).setResolver ⟨some ⟨4#8, 0x12#32, 3, light, .any, 1⟩, .running 60⟩, .b, from3 2#8,
    ⟨4#8, 0x12#32, 3, light, .any, 1⟩, ⟨0x40#8, 9#8, .resolver⟩, lightRec, by decide +kernel⟩

theorem witness_AnswerReceived_4 :
    ∃ (s : State) (e : LineEnd) (h : Header) (q : BackgroundQuery) (b : Binding), ((s.lineEnd e).state = .locked) ∧
      (s.FromCar h) ∧ (h.dst.toNat = s.consist.ownIdx) ∧ (h.dst ≠ 0#8) ∧ (s.consist.ownIdx ≤ s.consist.n) ∧
      (s.bindings.query = some q) ∧ (q.target = h.src) ∧
      ((s.resolver.query.all fun p => !(p.id == q.id && p.target == h.src)) = true) ∧ (s.binding q.slot = some b) ∧
      (b.st = .pending) :=
  ⟨(binding1 .pending (train .locked .locked)).setBindings { (binding1 .pending (train .locked .locked)).bindings with query := some ⟨0, 4#8, 0x12#32, 3, 2⟩, timer := .running 60 },
    .b, from3 2#8, ⟨0, 4#8, 0x12#32, 3, 2⟩, ⟨⟨light, .any, .car 0x12#32⟩, .pending, false, true⟩, by decide +kernel⟩

theorem witness_AnswerReceived_5 :
    ∃ (s : State) (e : LineEnd) (h : Header) (q : ForegroundQuery) (f : InFlight) (pre : List Rec) (r : Rec) (i : Nat) (qu :
      Question), (pre.length ≤ 3) ∧ (∀ x ∈ r :: pre, x.Good ∧ x.tag = q.tag ∧ x.side = r.side) ∧ (s.Unbound q.tag) ∧
      ((s.lineEnd e).state = .locked) ∧ (s.FromCar h) ∧ (h.dst.toNat = s.consist.ownIdx) ∧ (h.dst ≠ 0#8) ∧
      (s.consist.ownIdx ≤ s.consist.n) ∧ (s.resolver.query = some q) ∧ (q.target = h.src) ∧ (q.filter = .any) ∧
      (s.port.inFlight = some f) ∧ (s.firstSlot HandleSlot.isReserved = some i) ∧ (s.slot i = .reserved qu) ∧ (qu.tag = q.tag) ∧
      (s.dir.home.length + s.dir.mirrors.length < 256) ∧ (s.dir.findMirror h.src q.tag r.side = none) :=
  ⟨((busy .bind (train .locked .locked)).setResolver ⟨some ⟨4#8, 0x12#32, 3, light, .any, 1⟩,
    .running 60⟩).setSlot 31 (.reserved ⟨light, .any, .car 0x12#32⟩), .b, from3 2#8, ⟨4#8, 0x12#32, 3, light, .any, 1⟩,
    ⟨0x50#8, 9#8, .bindings⟩, [{ lightRec with addr := 7#16 }], lightRec, 31, ⟨light, .any, .car 0x12#32⟩, by decide +kernel⟩

theorem witness_ChangeRequestDecided_1 :
    ∃ (s : State) (e : LineEnd) (out : LineEnd) (h : Header) (id : Byte) (g : Tag) (sd : Side) (d : RecState) (x : ReplyEntry),
      (TagOk g) ∧ ((s.lineEnd e).state = .locked) ∧ (s.FromCar h) ∧ (h.dst.toNat = s.consist.ownIdx) ∧ (h.dst ≠ 0#8) ∧
      (s.consist.ownIdx ≤ s.consist.n) ∧ (s.Reaches h.srcIdx.toNat out) ∧
      ((s.traffic.replies.find? fun x => x.requester = h.src ∧ x.id = id ∧ x.tag = g ∧ x.side = sd ∧ x.desired = d) = some x) :=
  ⟨(train .locked .locked).setTraffic { State.reset.traffic with replies := [⟨0x12#32, 17#8, light, .both, .suspended, .accepted, 5#16⟩] },
    .b, .b, from3 2#8, 17#8, light, .both, .suspended, ⟨0x12#32, 17#8, light, .both, .suspended, .accepted, 5#16⟩,
    by decide +kernel⟩

theorem witness_ChangeRequestDecided_2 :
    ∃ (s : State) (e : LineEnd) (out : LineEnd) (h : Header) (id : Byte) (g : Tag) (sd : Side) (d : RecState), (TagOk g) ∧
      ((s.lineEnd e).state = .locked) ∧ (s.FromCar h) ∧ (h.dst.toNat = s.consist.ownIdx) ∧ (h.dst ≠ 0#8) ∧
      (s.consist.ownIdx ≤ s.consist.n) ∧ (s.Reaches h.srcIdx.toNat out) ∧
      ((s.traffic.replies.find? fun x => x.requester = h.src ∧ x.id = id ∧ x.tag = g ∧ x.side = sd ∧ x.desired = d) = none) ∧
      (s.dir.findHome g sd = none) :=
  ⟨train .locked .locked, .b, .b, from3 2#8, 17#8, light, .both, .suspended, by decide +kernel⟩

theorem witness_ChangeRequestDecided_3 :
    ∃ (s : State) (e : LineEnd) (out : LineEnd) (h : Header) (id : Byte) (g : Tag) (sd : Side) (d : RecState) (r : Rec),
      (TagOk g) ∧ ((s.lineEnd e).state = .locked) ∧ (s.FromCar h) ∧ (h.dst.toNat = s.consist.ownIdx) ∧ (h.dst ≠ 0#8) ∧
      (s.consist.ownIdx ≤ s.consist.n) ∧ (s.Reaches h.srcIdx.toNat out) ∧
      ((s.traffic.replies.find? fun x => x.requester = h.src ∧ x.id = id ∧ x.tag = g ∧ x.side = sd ∧ x.desired = d) = none) ∧
      (s.dir.findHome g sd = some r) ∧ (r.perm = .denied) :=
  ⟨offering { lightRec with perm := .denied } (train .locked .locked), .b, .b, from3 2#8, 17#8, light, .both, .suspended,
    { lightRec with perm := .denied }, by decide +kernel⟩

theorem witness_ChangeRequestDecided_4 :
    ∃ (s : State) (e : LineEnd) (h : Header) (id : Byte) (g : Tag) (sd : Side) (d : RecState) (r : Rec), (TagOk g) ∧
      ((s.lineEnd e).state = .locked) ∧ (s.FromCar h) ∧ (h.dst.toNat = s.consist.ownIdx) ∧ (h.dst ≠ 0#8) ∧
      (s.consist.ownIdx ≤ s.consist.n) ∧ ((s.traffic.replies.find? fun x => x.requester = h.src ∧ x.id = id ∧ x.tag = g ∧
      x.side = sd ∧ x.desired = d) = none) ∧ (s.dir.findHome g sd = some r) ∧ (r.perm = .allowed) :=
  ⟨offering { lightRec with rev := 0xFFFF#16 } (train .locked .locked), .b, from3 2#8, 17#8, light, .both, .suspended,
    { lightRec with rev := 0xFFFF#16 }, by decide +kernel⟩

theorem witness_ChangeRequestDecided_5 :
    ∃ (s : State) (e : LineEnd) (out : LineEnd) (h : Header) (id : Byte) (g : Tag) (sd : Side) (d : RecState) (r : Rec),
      (TagOk g) ∧ ((s.lineEnd e).state = .locked) ∧ (s.FromCar h) ∧ (h.dst.toNat = s.consist.ownIdx) ∧ (h.dst ≠ 0#8) ∧
      (s.consist.ownIdx ≤ s.consist.n) ∧ (s.Reaches h.srcIdx.toNat out) ∧
      ((s.traffic.replies.find? fun x => x.requester = h.src ∧ x.id = id ∧ x.tag = g ∧ x.side = sd ∧ x.desired = d) = none) ∧
      (s.dir.findHome g sd = some r) ∧ (r.perm = .allowed) ∧ (r.state = d) :=
  ⟨offering lightRec (train .locked .locked), .b, .b, from3 2#8, 17#8, light, .both, .offered, lightRec, by decide +kernel⟩

theorem witness_ChangeRequestDecided_6 :
    ∃ (s : State) (e : LineEnd) (out : LineEnd) (h : Header) (id : Byte) (g : Tag) (sd : Side) (d : RecState) (r : Rec),
      (TagOk g) ∧ (s.Unbound g) ∧ ((s.lineEnd e).state = .locked) ∧ (s.FromCar h) ∧ (h.dst.toNat = s.consist.ownIdx) ∧
      (h.dst ≠ 0#8) ∧ (s.consist.ownIdx ≤ s.consist.n) ∧ (s.Reaches h.srcIdx.toNat out) ∧
      ((s.traffic.replies.find? fun x => x.requester = h.src ∧ x.id = id ∧ x.tag = g ∧ x.side = sd ∧ x.desired = d) = none) ∧
      (s.dir.findHome g sd = some r) ∧ (r.perm = .allowed) ∧ (r.state ≠ d) :=
  ⟨offering { lightRec with rev := 0xFFFF#16 } (train .locked .locked), .b, .b, from3 2#8, 17#8, light, .both, .suspended,
    { lightRec with rev := 0xFFFF#16 }, by decide +kernel⟩

theorem witness_ChangeReplyReceived_1 :
    ∃ (s : State) (e : LineEnd) (h : Header) (c : ChangeRequest) (f : InFlight), ((s.lineEnd e).state = .locked) ∧
      (s.FromCar h) ∧ (h.dst.toNat = s.consist.ownIdx) ∧ (h.dst ≠ 0#8) ∧ (s.consist.ownIdx ≤ s.consist.n) ∧
      (s.traffic.change = some c) ∧ (c.owner = h.src) ∧ (s.port.inFlight = some f) :=
  ⟨(busy .requestState (train .locked .locked)).setTraffic { State.reset.traffic with change := some ⟨4#8, 0x12#32, 3, light, .both, .offered, 2⟩, changeT := .running 60 },
    .b, from3 2#8, ⟨4#8, 0x12#32, 3, light, .both, .offered, 2⟩, ⟨0x34#8, 9#8, .traffic⟩, by decide +kernel⟩

theorem witness_ChangeReplyReceived_2 :
    ∃ (s : State) (e : LineEnd) (h : Header) (id : Byte) (oc : Byte), ((s.lineEnd e).state = .locked) ∧ (s.FromCar h) ∧
      (h.dst.toNat = s.consist.ownIdx) ∧ (h.dst ≠ 0#8) ∧ (s.consist.ownIdx ≤ s.consist.n) ∧
      (2#8 < oc ∨ (s.traffic.change.all fun c => !(c.id == id && c.owner == h.src)) = true) :=
  ⟨train .locked .locked, .b, from3 2#8, 17#8, 0#8, by decide +kernel⟩

theorem witness_CommandBlocksAreJudged_1 :
    ∃ (i : Instr) (c : Cmd) (tag : Byte) (params : List Byte), (i.hostCmd = some (c, tag, params)) :=
  ⟨.sleep 9#8 [], .sleep, 9#8, [], by decide +kernel⟩

theorem witness_CommandBlocksAreJudged_2 :
    ∃ (s : State), (s.port.resetInput = true) :=
  ⟨{ State.reset with port := { State.reset.port with resetInput := true } }, by decide +kernel⟩

theorem witness_CommandBlocksAreJudged_3 :
    ∃ (s : State), (s.port.resetInput = false) :=
  ⟨State.reset, by decide +kernel⟩

theorem witness_CommandBlocksAreJudged_4 :
    ∃ (s : State) (bs : List Byte), (s.port.resetInput = false) ∧ (bs ≠ []) ∧ (s.port.state = .inFlight) :=
  ⟨busy .lookup (train .locked .locked), [2#8, 9#8, 0#8, 0#8], by decide +kernel⟩

theorem witness_CommandBlocksAreJudged_5 :
    ∃ (s : State) (bs : List Byte), (s.CanTake 1#8) ∧ (bs ≠ []) ∧ (bs.length < 4) :=
  ⟨State.reset, [2#8, 9#8, 0#8], by decide +kernel⟩

theorem witness_CommandBlocksAreJudged_6 :
    ∃ (s : State) (l1 : Byte) (l0 : Byte) (ps : List Byte), (s.CanTake 1#8) ∧
      (512 < l1.toNat * 256 + l0.toNat ∨ ps.length ≠ l1.toNat * 256 + l0.toNat) :=
  ⟨State.reset, 2#8, 1#8, [], by decide +kernel⟩

theorem witness_CommandBlocksAreJudged_7 :
    ∃ (s : State) (ps : List Byte), (s.CanTake 1#8) ∧ (ps.length ≤ 512) :=
  ⟨State.reset, [], by decide +kernel⟩

theorem witness_CommandBlocksAreJudged_8 :
    ∃ (s : State) (code : Byte) (tag : Byte) (ps : List Byte), (s.CanTake tag) ∧
      (code ∉ [0x01#8, 0x02#8, 0x03#8, 0x04#8, 0x10#8, 0x11#8, 0x12#8, 0x13#8, 0x20#8, 0x21#8, 0x30#8, 0x31#8, 0x32#8, 0x33#8,
      0x34#8, 0x40#8, 0x48#8, 0x49#8, 0x4A#8, 0x50#8, 0x51#8, 0x52#8, 0x53#8, 0x60#8, 0x61#8, 0x62#8, 0x63#8]) ∧ (tag ≠ 0#8) ∧
      (ps.length ≤ 512) :=
  ⟨State.reset, 0xFF#8, 9#8, [], by decide +kernel⟩

theorem witness_CommandBlocksAreJudged_9 :
    ∃ (s : State) (i : Instr) (c : Cmd) (tag : Byte) (ps : List Byte), (i.hostCmd = some (c, tag, ps)) ∧ (s.CanTake tag) ∧
      (ps.length ≤ 512) ∧ (ps ≠ []) ∧ (c = .getInfo ∨ c = .sleep ∨ c = .partReset ∨ c = .lineStatus ∨ c = .consistRead ∨
      c = .rollCall ∨ c = .recordList ∨ c = .interestClear ∨ c = .bindingScan ∨ c = .eventRead) :=
  ⟨train .locked .locked, .sleep 9#8 [0#8], .sleep, 9#8, [0#8], by decide +kernel⟩

theorem witness_CommandBlocksAreJudged_10 :
    ∃ (s : State) (i : Instr) (c : Cmd) (tag : Byte) (ps : List Byte), (i.hostCmd = some (c, tag, ps)) ∧ (s.CanTake tag) ∧
      (ps.length ≤ 512) ∧ (ps ≠ [0#8] ∧ ps ≠ [1#8]) ∧
      (c = .lineIsolate ∨ c = .lineRestore ∨ c = .lineUnbar ∨ c = .interestAll) :=
  ⟨train .locked .locked, .lineUnbar 9#8 [2#8], .lineUnbar, 9#8, [2#8], by decide +kernel⟩

theorem witness_CommandBlocksAreJudged_11 :
    ∃ (s : State) (tag : Byte) (ps : List Byte), (s.CanTake tag) ∧ (ps.length ≤ 512) ∧
      (ps.length ≠ 2 ∨ 2 ≤ (ps.headD 0#8).toNat) :=
  ⟨train .locked .locked, 9#8, [], by decide +kernel⟩

theorem witness_CommandBlocksAreJudged_12 :
    ∃ (s : State) (tag : Byte) (ps : List Byte), (s.CanTake tag) ∧ (ps.length ≤ 512) ∧ (ps.length ≠ 2) :=
  ⟨train .locked .locked, 9#8, [], by decide +kernel⟩

theorem witness_CommandBlocksAreJudged_13 :
    ∃ (s : State) (tag : Byte) (k : Byte) (d : Byte), (s.CanTake tag) ∧
      (5 < k.toNat ∨ 2 < d.toNat ∨ (d = 2#8 ∧ (k = 1#8 ∨ k = 2#8 ∨ k = 3#8))) :=
  ⟨train .locked .locked, 9#8, 1#8, 2#8, by decide +kernel⟩

theorem witness_CommandBlocksAreJudged_14 :
    ∃ (s : State) (i : Instr) (c : Cmd) (tag : Byte) (ps : List Byte), (i.hostCmd = some (c, tag, ps)) ∧ (s.CanTake tag) ∧
      (ps.length ≤ 512) ∧ ((c = .identify ∧ paramIdentify ps = none) ∨
      ((c = .recordOffer ∨ c = .recordUpdate) ∧ paramRecord ps = none) ∨ (c = .recordWithdraw ∧ paramTagSide ps = none) ∨
      (c = .interestAdd ∧ paramOnlyTag ps = none) ∨ (c = .requestState ∧ paramRequest ps = none) ∨
      (c = .bind ∧ paramQuestion ps = none)) :=
  ⟨train .locked .locked, .bind 9#8 [0#8], .bind, 9#8, [0#8], by decide +kernel⟩

theorem witness_CommandBlocksAreJudged_15 :
    ∃ (s : State) (tag : Byte) (ps : List Byte), (s.CanTake tag) ∧ (ps.length ≤ 512) ∧ (paramQuestion ps = none) :=
  ⟨train .locked .locked, 9#8, [0#8], by decide +kernel⟩

theorem witness_CommandBlocksAreJudged_22 :
    ∃ (s : State) (b : StatusBlock), (s.port.resetInput = false) ∧ (s.port.state = .ready) ∧ (s.port.status = some b) :=
  ⟨State.reset.answered 9#8 .success [] false, ⟨.success, 9#8, 0#16, true, false, false, .unformed, []⟩, by decide +kernel⟩

theorem witness_CommandBlocksAreJudged_23 :
    ∃ (s : State), (s.port.resetInput = false) ∧ (s.port.state ≠ .ready) :=
  ⟨State.reset, by decide +kernel⟩

theorem witness_CommandBlocksAreJudged_24 :
    ∃ (s : State) (access : Byte), (s.port.resetInput = false) ∧ (access ≠ 0xC3#8) :=
  ⟨State.reset, 0x3C#8, by decide +kernel⟩

theorem witness_IdentityDormancyAndReset_1 :
    ∃ (s : State) (tag : Byte), (s.CanTake tag) :=
  ⟨train .locked .locked, 9#8, by decide +kernel⟩

theorem witness_IdentityDormancyAndReset_2 :
    ∃ (s : State) (tag : Byte) (id : Ident), (s.CanTake tag) ∧ (s.ctrl.part = .unidentified) ∧ (s.lineA.state = .bypassed) ∧
      (s.lineB.state = .bypassed) ∧ (s.Quiet) ∧ (id ≠ 0#32) ∧ (id ≠ 0xFFFFFFFF#32) :=
  ⟨State.reset, 9#8, 0x2001#32, by decide +kernel⟩

theorem witness_IdentityDormancyAndReset_3 :
    ∃ (s : State) (tag : Byte) (id : Ident), (s.CanTake tag) ∧ (s.ctrl.part = .ready) ∧ (id ≠ 0#32) ∧ (id ≠ 0xFFFFFFFF#32) :=
  ⟨train .locked .locked, 9#8, 0x2001#32, by decide +kernel⟩

theorem witness_IdentityDormancyAndReset_4 :
    ∃ (s : State) (tag : Byte), (s.CanTake tag) ∧ (s.ctrl.part = .ready) ∧
      (s.lineA.state = .opened ∨ s.lineA.state = .isolated) ∧ (s.lineB.state = .opened ∨ s.lineB.state = .isolated) :=
  ⟨train .opened .isolated, 9#8, by decide +kernel⟩

theorem witness_IdentityDormancyAndReset_5 :
    ∃ (s : State) (tag : Byte), (s.CanTake tag) ∧ (s.ctrl.part = .unidentified ∨ s.lineA.state.maySleep = false ∨
      s.lineB.state.maySleep = false) :=
  ⟨train .opened .settling, 9#8, by decide +kernel⟩

theorem witness_IdentityDormancyAndReset_6 :
    ∃ (s : State) (tag : Byte), (s.CanTake tag) :=
  ⟨train .locked .locked, 9#8, by decide +kernel⟩

theorem witness_LineCommandsOfTheHost_1 :
    ∃ (s : State) (tag : Byte), (s.CanTake tag) :=
  ⟨train .locked .locked, 9#8, by decide +kernel⟩

theorem witness_LineCommandsOfTheHost_2 :
    ∃ (s : State) (tag : Byte) (e : LineEnd), (s.CanTake tag) ∧
      ((s.lineEnd e).state = .opened ∨ (s.lineEnd e).state = .settling ∨ (s.lineEnd e).state = .hunting ∨
      (s.lineEnd e).state = .barred) :=
  ⟨train .hunting .locked, 9#8, .a, by decide +kernel⟩

theorem witness_LineCommandsOfTheHost_3 :
    ∃ (s : State) (tag : Byte) (e : LineEnd), (s.CanTake tag) ∧ ((s.lineEnd e).state = .locked) ∧ (s.Quiet) :=
  ⟨train .locked .locked, 9#8, .b, by decide +kernel⟩

theorem witness_LineCommandsOfTheHost_4 :
    ∃ (s : State) (tag : Byte) (e : LineEnd), (s.CanTake tag) ∧
      ((s.lineEnd e).state = .bypassed ∨ (s.lineEnd e).state = .isolated) ∧
      ((s.lineEnd e).state = .isolated → (s.lineEnd e).isolated = true) :=
  ⟨State.reset, 9#8, .a, by decide +kernel⟩

theorem witness_LineCommandsOfTheHost_5 :
    ∃ (s : State) (tag : Byte) (e : LineEnd), (s.CanTake tag) ∧ ((s.lineEnd e).state = .isolated) ∧
      ((s.lineEnd e).contact = true) :=
  ⟨(train .isolated .opened).setEnd .a { endIn .isolated with contact := true, flap := 5 }, 9#8, .a, by decide +kernel⟩

theorem witness_LineCommandsOfTheHost_6 :
    ∃ (s : State) (tag : Byte) (e : LineEnd), (s.CanTake tag) ∧ ((s.lineEnd e).state = .isolated) ∧
      ((s.lineEnd e).contact = false) :=
  ⟨train .isolated .opened, 9#8, .a, by decide +kernel⟩

theorem witness_LineCommandsOfTheHost_7 :
    ∃ (s : State) (tag : Byte) (e : LineEnd), (s.CanTake tag) ∧ ((s.lineEnd e).state ≠ .isolated) :=
  ⟨train .locked .locked, 9#8, .a, by decide +kernel⟩

theorem witness_LineCommandsOfTheHost_8 :
    ∃ (s : State) (tag : Byte) (e : LineEnd), (s.CanTake tag) ∧ ((s.lineEnd e).barFlag = false) :=
  ⟨train .locked .locked, 9#8, .a, by decide +kernel⟩

theorem witness_LineCommandsOfTheHost_9 :
    ∃ (s : State) (tag : Byte) (e : LineEnd), (s.CanTake tag) ∧ ((s.lineEnd e).state = .barred) ∧
      ((s.lineEnd e).barFlag = true) ∧ (s.Quiet) :=
  ⟨train .barred .locked, 9#8, .a, by decide +kernel⟩

theorem witness_LineCommandsOfTheHost_10 :
    ∃ (s : State) (tag : Byte) (e : LineEnd), (s.CanTake tag) ∧ ((s.lineEnd e).state = .hunting) ∧
      ((s.lineEnd e).barFlag = true) ∧ ((s.lineEnd e).dirQ = []) ∧ (s.Quiet) :=
  ⟨(train .hunting .locked).setEnd .a { endIn .hunting with barFlag := true }, 9#8, .a, by decide +kernel⟩

theorem witness_ConsistCommandsOfTheHost_1 :
    ∃ (s : State) (tag : Byte), (s.CanTake tag) :=
  ⟨train .locked .locked, 9#8, by decide +kernel⟩

theorem witness_ConsistCommandsOfTheHost_2 :
    ∃ (s : State) (tag : Byte), (s.CanTake tag) ∧ (s.ctrl.part = .unidentified) :=
  ⟨State.reset, 9#8, by decide +kernel⟩

theorem witness_ConsistCommandsOfTheHost_3 :
    ∃ (s : State) (tag : Byte), (s.CanTake tag) ∧ (s.ctrl.part = .ready) ∧ (s.Quiet) :=
  ⟨train .locked .locked, 9#8, by decide +kernel⟩

theorem witness_RecordCommandsOfTheHost_1 :
    ∃ (s : State) (tag : Byte) (r : Rec), (s.CanTake tag) ∧ (s.ctrl.part = .ready) ∧ (r.Good) ∧ (s.Unbound r.tag) ∧
      (s.dir.findHome r.tag r.side = none) ∧ (s.dir.home.length < 32) ∧ (s.dir.home.length + s.dir.mirrors.length < 256) :=
  ⟨train .locked .locked, 9#8, lightRec, by decide +kernel⟩

theorem witness_RecordCommandsOfTheHost_2 :
    ∃ (s : State) (tag : Byte) (r : Rec), (s.CanTake tag) ∧ (s.ctrl.part = .ready) ∧ (r.Good) ∧
      (s.dir.findHome r.tag r.side ≠ none) :=
  ⟨offering lightRec (train .locked .locked), 9#8, lightRec, by decide +kernel⟩

theorem witness_RecordCommandsOfTheHost_3 :
    ∃ (s : State) (tag : Byte) (r : Rec), (s.CanTake tag) ∧ (s.ctrl.part = .ready) ∧ (r.Good) ∧
      (s.dir.findHome r.tag r.side = none) ∧ (s.dir.home.length = 32) :=
  ⟨(train .locked .locked).setDir { State.reset.dir with home := List.replicate 32 { lightRec with tag := [0x41#8] } }, 9#8,
    lightRec, by decide +kernel⟩

theorem witness_RecordCommandsOfTheHost_4 :
    ∃ (s : State) (tag : Byte) (r : Rec) (old : Rec), (s.CanTake tag) ∧ (s.ctrl.part = .ready) ∧ (r.Good) ∧ (s.Unbound r.tag) ∧
      (s.dir.home.filter (fun x => x.tag = r.tag ∧ x.side = r.side) = [old]) ∧ ({ r with rev := old.rev } ≠ old) :=
  ⟨offering { lightRec with rev := 0xFFFF#16 } (train .locked .locked), 9#8, { lightRec with state := .suspended },
    { lightRec with rev := 0xFFFF#16 }, by decide +kernel⟩

theorem witness_RecordCommandsOfTheHost_5 :
    ∃ (s : State) (tag : Byte) (r : Rec), (s.CanTake tag) ∧ (s.ctrl.part = .ready) ∧ (r.Good) ∧
      (s.dir.findHome r.tag r.side = some r) :=
  ⟨offering lightRec (train .locked .locked), 9#8, lightRec, by decide +kernel⟩

theorem witness_RecordCommandsOfTheHost_6 :
    ∃ (s : State) (tag : Byte) (r : Rec), (s.CanTake tag) ∧ (s.ctrl.part = .ready) ∧ (r.Good) ∧
      (s.dir.findHome r.tag r.side = none) :=
  ⟨train .locked .locked, 9#8, lightRec, by decide +kernel⟩

theorem witness_RecordCommandsOfTheHost_7 :
    ∃ (s : State) (tag : Byte) (r : Rec), (s.CanTake tag) ∧ (s.ctrl.part = .ready) ∧ (r.Good) ∧ (s.Unbound r.tag) ∧
      (s.dir.findHome r.tag r.side ≠ none) :=
  ⟨offering lightRec (train .locked .locked), 9#8, lightRec, by decide +kernel⟩

theorem witness_RecordCommandsOfTheHost_8 :
    ∃ (s : State) (tag : Byte) (r : Rec), (s.CanTake tag) ∧ (s.ctrl.part = .ready) ∧ (r.Good) ∧
      (s.dir.findHome r.tag r.side = none) :=
  ⟨train .locked .locked, 9#8, lightRec, by decide +kernel⟩

theorem witness_RecordCommandsOfTheHost_9 :
    ∃ (s : State) (tag : Byte) (r : Rec) (i : Instr), (s.CanTake tag) ∧ (s.ctrl.part = .unidentified) ∧ (r.Good) ∧
      (i = .recordOffer tag (tagBytes r.tag ++ [r.side.code, r.state.code] ++ be16 r.addr ++ [r.perm.code,
      byteOf r.attrs.length] ++ r.attrs) ∨ i = .recordUpdate tag (tagBytes r.tag ++ [r.side.code,
      r.state.code] ++ be16 r.addr ++ [r.perm.code, byteOf r.attrs.length] ++ r.attrs) ∨
      i = .recordWithdraw tag (tagBytes r.tag ++ [r.side.code])) :=
  ⟨State.reset, 9#8, lightRec, .recordWithdraw 9#8 (tagBytes light ++ [2#8]), by decide +kernel⟩

theorem witness_RecordCommandsOfTheHost_10 :
    ∃ (s : State) (tag : Byte), (s.CanTake tag) :=
  ⟨offering lightRec (train .locked .locked), 9#8, by decide +kernel⟩

theorem witness_RecordCommandsOfTheHost_11 :
    ∃ (s : State) (tag : Byte) (g : Tag), (s.CanTake tag) ∧ (TagOk g) :=
  ⟨train .locked .locked, 9#8, light, by decide +kernel⟩

theorem witness_RecordCommandsOfTheHost_12 :
    ∃ (s : State) (tag : Byte), (s.CanTake tag) :=
  ⟨train .locked .locked, 9#8, by decide +kernel⟩

theorem witness_RecordCommandsOfTheHost_13 :
    ∃ (s : State) (tag : Byte), (s.CanTake tag) :=
  ⟨train .locked .locked, 9#8, by decide +kernel⟩

theorem witness_RecordCommandsOfTheHost_14 :
    ∃ (s : State) (tag : Byte) (r : Rec) (pre : List Mirror) (post : List Mirror) (v : Mirror), (s.CanTake tag) ∧
      (s.ctrl.part = .ready) ∧ (r.Good) ∧ (s.Unbound r.tag) ∧ (s.Unbound v.body.tag) ∧ (s.dir.findHome r.tag r.side = none) ∧
      (s.dir.home.length < 32) ∧ (s.Evicts pre v post) :=
  ⟨(train .locked .locked).setDir { State.reset.dir with allMode := true, mirrors := heldMirror 0x43#8 0 :: List.replicate 255 (heldMirror 0x42#8 1) },
    9#8, lightRec, [], List.replicate 255 (heldMirror 0x42#8 1), heldMirror 0x43#8 0, by decide +kernel⟩

theorem witness_RecordCommandsOfTheHost_15 :
    ∃ (s : State) (tag : Byte) (r : Rec), (s.CanTake tag) ∧ (s.ctrl.part = .ready) ∧ (r.Good) ∧ (s.Unbound r.tag) ∧
      (s.roll.state = .formed) ∧ (s.traffic.burst = true) ∧ (s.dir.findHome r.tag r.side = none) ∧ (s.dir.home.length < 32) ∧
      (s.dir.home.length + s.dir.mirrors.length < 256) :=
  ⟨((offering lightRec (train .locked .locked)).setRemainder [(light, .both)]), 9#8, { lightRec with side := .s1 },
    by decide +kernel⟩

theorem witness_RecordCommandsOfTheHost_16 :
    ∃ (s : State) (tag : Byte) (r : Rec) (old : Rec), (s.CanTake tag) ∧ (s.ctrl.part = .ready) ∧ (r.Good) ∧ (s.Unbound r.tag) ∧
      (s.roll.state = .formed) ∧ (s.traffic.burst = true) ∧ (s.dir.findHome r.tag r.side = some old) ∧
      ({ r with rev := old.rev } ≠ old) :=
  ⟨((offering lightRec (train .locked .locked)).setRemainder [(light, .both)]), 9#8, { lightRec with state := .suspended },
    lightRec, by decide +kernel⟩

theorem witness_RecordCommandsOfTheHost_17 :
    ∃ (s : State) (tag : Byte) (r : Rec), (s.CanTake tag) ∧ (s.ctrl.part = .ready) ∧ (r.Good) ∧ (s.Unbound r.tag) ∧
      (s.roll.state = .formed) ∧ (s.traffic.burst = true) ∧ (s.dir.findHome r.tag r.side ≠ none) :=
  ⟨((offering lightRec (train .locked .locked)).setRemainder [(light, .both)]), 9#8, lightRec, by decide +kernel⟩

theorem witness_RemoteCommandsOfTheHost_1 :
    ∃ (s : State) (tag : Byte) (owner : Ident) (g : Tag), (s.CanTake tag) ∧ (TagOk g) ∧ (owner ≠ 0#32) ∧
      (owner ≠ 0xFFFFFFFF#32) ∧ (s.roll.state ≠ .formed) :=
  ⟨State.reset, 9#8, 0x12#32, light, by decide +kernel⟩

theorem witness_RemoteCommandsOfTheHost_2 :
    ∃ (s : State) (tag : Byte) (owner : Ident) (g : Tag), (s.CanTake tag) ∧ (TagOk g) ∧ (owner ≠ 0#32) ∧
      (owner ≠ 0xFFFFFFFF#32) ∧ (s.roll.state = .formed) ∧ (∀ r ∈ s.consist.roster, r.ident ≠ owner) :=
  ⟨train .locked .locked, 9#8, 0x99#32, light, by decide +kernel⟩

theorem witness_RemoteCommandsOfTheHost_3 :
    ∃ (s : State) (tag : Byte) (owner : Ident) (g : Tag) (i : Nat) (r : RosterEntry) (out : LineEnd), (s.CanTake tag) ∧
      (TagOk g) ∧ (owner ≠ 0#32) ∧ (owner ≠ 0xFFFFFFFF#32) ∧ (s.roll.state = .formed) ∧ (owner ≠ s.ownId) ∧
      (s.consist.entry i = some r) ∧ (r.ident = owner) ∧ ((s.consist.roster.map RosterEntry.ident).Nodup) ∧ (s.Reaches i out) :=
  ⟨train .locked .locked, 9#8, 0x12#32, light, 3, ⟨0x12#32, .b, .none⟩, .b, by decide +kernel⟩

theorem witness_RemoteCommandsOfTheHost_4 :
    ∃ (s : State) (tag : Byte) (owner : Ident) (g : Tag) (sd : Side), (s.CanTake tag) ∧ (TagOk g) ∧ (owner ≠ 0#32) ∧
      (owner ≠ 0xFFFFFFFF#32) ∧ (s.roll.state = .formed) ∧ (owner = s.ownId) ∧ (∃ r ∈ s.consist.roster, r.ident = owner) ∧
      (s.dir.findHome g sd = none) :=
  ⟨train .locked .locked, 9#8, 0x11#32, light, .both, by decide +kernel⟩

theorem witness_RemoteCommandsOfTheHost_5 :
    ∃ (s : State) (tag : Byte) (owner : Ident) (g : Tag) (sd : Side) (x : Rec), (s.CanTake tag) ∧ (TagOk g) ∧ (owner ≠ 0#32) ∧
      (owner ≠ 0xFFFFFFFF#32) ∧ (s.roll.state = .formed) ∧ (owner = s.ownId) ∧ (∃ r ∈ s.consist.roster, r.ident = owner) ∧
      (s.dir.findHome g sd = some x) ∧ (x.perm = .denied) :=
  ⟨offering { lightRec with perm := .denied } (train .locked .locked), 9#8, 0x11#32, light, .both,
    { lightRec with perm := .denied }, by decide +kernel⟩

theorem witness_RemoteCommandsOfTheHost_6 :
    ∃ (s : State) (tag : Byte) (q : Question), (s.CanTake tag) ∧ (TagOk q.tag) ∧ (q.sel.ok = true) ∧ (s.Quiet) ∧
      (s.roll.state = .unformed) :=
  ⟨State.reset, 9#8, ⟨light, .any, .self⟩, by decide +kernel⟩

theorem witness_RemoteCommandsOfTheHost_7 :
    ∃ (s : State) (tag : Byte) (q : Question), (s.CanTake tag) ∧ (TagOk q.tag) ∧ (q.sel.ok = true) ∧ (s.Quiet) ∧
      (s.roll.state ≠ .unformed) ∧ (q.sel ≠ .nearest) ∧ (s.consist.target q.sel = .absent) :=
  ⟨train .locked .locked, 9#8, ⟨light, .any, .front 4⟩, by decide +kernel⟩

theorem witness_RemoteCommandsOfTheHost_8 :
    ∃ (s : State) (tag : Byte) (q : Question) (i : Nat) (h : Hit), (s.CanTake tag) ∧ (TagOk q.tag) ∧ (q.sel.ok = true) ∧
      (s.Quiet) ∧ (s.roll.state ≠ .unformed) ∧ (q.sel ≠ .nearest) ∧ (s.consist.target q.sel = .car i) ∧
      (s.matchCar i q.tag q.filter = some h) ∧ ((s.dir.mirrors.map fun m => (m.owner, m.body.tag, m.body.side)).Nodup) :=
  ⟨mirroring lightRec (train .locked .locked), 9#8, ⟨light, .any, .rear 1⟩, 3, ⟨.mirror, .stale, 3, 0x12#32, lightRec⟩,
    by decide +kernel⟩

theorem witness_RemoteCommandsOfTheHost_9 :
    ∃ (s : State) (tag : Byte) (q : Question) (i : Nat) (r : RosterEntry), (s.CanTake tag) ∧ (TagOk q.tag) ∧ (q.sel.ok = true) ∧
      (s.Quiet) ∧ (s.roll.state ≠ .unformed) ∧ (q.sel ≠ .nearest) ∧ (s.consist.target q.sel = .car i) ∧
      (s.consist.entry i = some r) ∧ (s.matchCar i q.tag q.filter = none) ∧ (r.ident = s.ownId ∨ s.roll.state ≠ .formed) :=
  ⟨train .locked .locked, 9#8, ⟨light, .any, .self⟩, 2, ⟨0x11#32, .a, .none⟩, by decide +kernel⟩

theorem witness_RemoteCommandsOfTheHost_10 :
    ∃ (s : State) (tag : Byte) (q : Question) (i : Nat) (r : RosterEntry) (id : Byte) (out : LineEnd), (s.CanTake tag) ∧
      (TagOk q.tag) ∧ (q.sel.ok = true) ∧ (s.Quiet) ∧ (s.roll.state = .formed) ∧ (q.sel ≠ .nearest) ∧
      (s.consist.target q.sel = .car i) ∧ (s.consist.entry i = some r) ∧ (s.matchCar i q.tag q.filter = none) ∧
      (r.ident ≠ s.ownId) ∧ (s.Reaches i out) ∧
      (id = (if s.bindings.query.map BackgroundQuery.id = some (s.traffic.queryId + 1#8) then s.traffic.queryId + 2#8 else s.traffic.queryId + 1#8)) :=
  ⟨train .locked .locked, 9#8, ⟨light, .any, .car 0x12#32⟩, 3, ⟨0x12#32, .b, .none⟩, 1#8, .b, by decide +kernel⟩

theorem witness_RemoteCommandsOfTheHost_11 :
    ∃ (s : State) (tag : Byte) (g : Tag) (f : SideFilter) (i : Nat) (h : Hit), (s.CanTake tag) ∧ (TagOk g) ∧ (s.Quiet) ∧
      (s.roll.state ≠ .unformed) ∧ (s.consist.nearest.find? (fun j => (s.matchCar j g f).isSome) = some i) ∧
      (s.matchCar i g f = some h) ∧ ((s.dir.mirrors.map fun m => (m.owner, m.body.tag, m.body.side)).Nodup) :=
  ⟨mirroring lightRec (train .locked .locked), 9#8, light, .any, 3, ⟨.mirror, .stale, 3, 0x12#32, lightRec⟩, by decide +kernel⟩

theorem witness_RemoteCommandsOfTheHost_12 :
    ∃ (s : State) (tag : Byte) (g : Tag) (f : SideFilter), (s.CanTake tag) ∧ (TagOk g) ∧ (s.Quiet) ∧
      (s.roll.state ≠ .unformed) ∧ (s.consist.nearest.find? (fun j => (s.matchCar j g f).isSome) = none) :=
  ⟨train .locked .locked, 9#8, light, .left, by decide +kernel⟩

theorem witness_RemoteCommandsOfTheHost_13 :
    ∃ (s : State) (tag : Byte) (owner : Ident) (g : Tag) (sd : Side) (d : RecState) (x : Rec), (s.CanTake tag) ∧ (TagOk g) ∧
      (owner ≠ 0#32) ∧ (owner ≠ 0xFFFFFFFF#32) ∧ (s.roll.state = .formed) ∧ (owner = s.ownId) ∧
      (∃ r ∈ s.consist.roster, r.ident = owner) ∧ (s.dir.findHome g sd = some x) ∧ (x.perm = .allowed) ∧ (x.state = d) :=
  ⟨offering lightRec (train .locked .locked), 9#8, 0x11#32, light, .both, .offered, lightRec, by decide +kernel⟩

theorem witness_RemoteCommandsOfTheHost_14 :
    ∃ (s : State) (tag : Byte) (owner : Ident) (g : Tag) (sd : Side) (d : RecState) (x : Rec), (s.CanTake tag) ∧ (TagOk g) ∧
      (owner ≠ 0#32) ∧ (owner ≠ 0xFFFFFFFF#32) ∧ (s.Unbound g) ∧ (s.roll.state = .formed) ∧ (owner = s.ownId) ∧
      (∃ r ∈ s.consist.roster, r.ident = owner) ∧ (s.dir.findHome g sd = some x) ∧ (x.perm = .allowed) ∧ (x.state ≠ d) :=
  ⟨offering lightRec (train .locked .locked), 9#8, 0x11#32, light, .both, .suspended, lightRec, by decide +kernel⟩

theorem witness_RemoteCommandsOfTheHost_15 :
    ∃ (s : State) (tag : Byte) (owner : Ident) (g : Tag) (i : Nat) (r : RosterEntry), (s.CanTake tag) ∧ (TagOk g) ∧
      (owner ≠ 0#32) ∧ (owner ≠ 0xFFFFFFFF#32) ∧ (s.roll.state = .formed) ∧ (owner ≠ s.ownId) ∧ (s.consist.entry i = some r) ∧
      (r.ident = owner) ∧ ((s.consist.roster.map RosterEntry.ident).Nodup) ∧
      (∀ out ∈ s.consist.forwardEnd i, (s.lineEnd out).state ≠ .locked) :=
  ⟨train .locked .opened, 9#8, 0x12#32, light, 3, ⟨0x12#32, .b, .none⟩, by decide +kernel⟩

theorem witness_RemoteCommandsOfTheHost_16 :
    ∃ (s : State) (tag : Byte) (q : Question) (i : Nat) (r : RosterEntry) (id : Byte), (s.CanTake tag) ∧ (TagOk q.tag) ∧
      (q.sel.ok = true) ∧ (s.Quiet) ∧ (s.roll.state = .formed) ∧ (q.sel ≠ .nearest) ∧ (s.consist.target q.sel = .car i) ∧
      (s.consist.entry i = some r) ∧ (s.matchCar i q.tag q.filter = none) ∧ (r.ident ≠ s.ownId) ∧
      (∀ out ∈ s.consist.forwardEnd i, (s.lineEnd out).state ≠ .locked) ∧
      (id = (if s.bindings.query.map BackgroundQuery.id = some (s.traffic.queryId + 1#8) then s.traffic.queryId + 2#8 else s.traffic.queryId + 1#8)) :=
  ⟨train .locked .opened, 9#8, ⟨light, .any, .car 0x12#32⟩, 3, ⟨0x12#32, .b, .none⟩, 1#8, by decide +kernel⟩

theorem witness_BindingCommandsOfTheHost_1 :
    ∃ (s : State) (tag : Byte) (q : Question), (s.CanTake tag) ∧ (TagOk q.tag) ∧ (q.sel.ok = true) ∧
      (s.firstSlot HandleSlot.isFree = none) :=
  ⟨(train .locked .locked).setBindings { State.reset.bindings with handles := Vector.replicate 32 (.held ⟨⟨light, .any, .self⟩, .pending, false, false⟩) },
    9#8, ⟨light, .any, .self⟩, by decide +kernel⟩

theorem witness_BindingCommandsOfTheHost_2 :
    ∃ (s : State) (tag : Byte) (q : Question) (i : Nat), (s.CanTake tag) ∧ (TagOk q.tag) ∧ (q.sel.ok = true) ∧ (s.Quiet) ∧
      (s.firstSlot HandleSlot.isFree = some i) ∧ (s.roll.state ≠ .unformed) ∧ (q.sel ≠ .nearest) ∧
      (s.consist.target q.sel = .absent) :=
  ⟨train .locked .locked, 9#8, ⟨light, .any, .front 4⟩, 0, by decide +kernel⟩

theorem witness_BindingCommandsOfTheHost_3 :
    ∃ (s : State) (tag : Byte) (g : Tag) (f : SideFilter) (i : Nat) (x : Rec), (s.CanTake tag) ∧ (TagOk g) ∧ (s.Quiet) ∧
      (s.firstSlot HandleSlot.isFree = some i) ∧ (s.roll.state = .formed) ∧
      (s.matchCar s.consist.ownIdx g f = some ⟨.home, .current, s.consist.ownIdx, s.ownId, x⟩) :=
  ⟨offering lightRec (train .locked .locked), 9#8, light, .left, 0, lightRec, by decide +kernel⟩

theorem witness_BindingCommandsOfTheHost_4 :
    ∃ (s : State) (tag : Byte) (q : Question) (n : Nat) (i : Nat) (r : RosterEntry) (id : Byte) (out : LineEnd),
      (s.CanTake tag) ∧ (TagOk q.tag) ∧ (q.sel.ok = true) ∧ (s.Quiet) ∧ (s.firstSlot HandleSlot.isFree = some n) ∧
      (s.roll.state = .formed) ∧ (q.sel ≠ .nearest) ∧ (s.consist.target q.sel = .car i) ∧ (s.consist.entry i = some r) ∧
      (s.matchCar i q.tag q.filter = none) ∧ (r.ident ≠ s.ownId) ∧ (s.Reaches i out) ∧
      (id = (if s.bindings.query.map BackgroundQuery.id = some (s.traffic.queryId + 1#8) then s.traffic.queryId + 2#8 else s.traffic.queryId + 1#8)) :=
  ⟨train .locked .locked, 9#8, ⟨light, .any, .car 0x12#32⟩, 0, 3, ⟨0x12#32, .b, .none⟩, 1#8, .b, by decide +kernel⟩

theorem witness_BindingCommandsOfTheHost_5 :
    ∃ (s : State) (tag : Byte) (i : Nat) (b : Binding), (s.CanTake tag) ∧ (i < 32) ∧ (s.binding i = some b) ∧
      (s.bindings.query.map BackgroundQuery.slot ≠ some i) :=
  ⟨binding1 (.unresolved .noRecord) (train .locked .locked), 9#8, 0,
    ⟨⟨light, .any, .car 0x12#32⟩, .unresolved .noRecord, false, true⟩, by decide +kernel⟩

theorem witness_BindingCommandsOfTheHost_6 :
    ∃ (s : State) (tag : Byte) (i : Nat) (c : Instr), (s.CanTake tag) ∧ (i < 32) ∧ (s.binding i = none) ∧
      (c = .unbind tag [byteOf (i + 1)] ∨ c = .bindingGet tag [byteOf (i + 1)]) :=
  ⟨train .locked .locked, 9#8, 31, .unbind 9#8 [32#8], by decide +kernel⟩

theorem witness_BindingCommandsOfTheHost_7 :
    ∃ (s : State) (tag : Byte) (h : Byte) (c : Instr), (s.CanTake tag) ∧ (h = 0#8 ∨ 32 < h.toNat) ∧
      (c = .unbind tag [h] ∨ c = .bindingGet tag [h]) :=
  ⟨train .locked .locked, 9#8, 33#8, .unbind 9#8 [33#8], by decide +kernel⟩

theorem witness_BindingCommandsOfTheHost_8 :
    ∃ (s : State) (tag : Byte) (i : Nat) (b : Binding), (s.CanTake tag) ∧ (i < 32) ∧ (s.binding i = some b) :=
  ⟨binding1 (.unresolved .noRecord) (train .locked .locked), 9#8, 0,
    ⟨⟨light, .any, .car 0x12#32⟩, .unresolved .noRecord, false, true⟩, by decide +kernel⟩

theorem witness_BindingCommandsOfTheHost_9 :
    ∃ (s : State) (tag : Byte), (s.CanTake tag) :=
  ⟨binding1 .pending (train .locked .locked), 9#8, by decide +kernel⟩

theorem witness_BindingCommandsOfTheHost_10 :
    ∃ (b : Binding) (a : Answer), (b.st = .resolved a) :=
  ⟨⟨⟨light, .any, .self⟩, .resolved ⟨.home, 0x11#32, .both, .both, 2, 2, 1#16, .offered, 1#16⟩, false, false⟩,
    ⟨.home, 0x11#32, .both, .both, 2, 2, 1#16, .offered, 1#16⟩, by decide +kernel⟩

theorem witness_BindingCommandsOfTheHost_11 :
    ∃ (b : Binding) (r : Reason), (b.st = .unresolved r) :=
  ⟨⟨⟨light, .any, .self⟩, .unresolved .noRecord, false, false⟩, .noRecord, by decide +kernel⟩

theorem witness_BindingCommandsOfTheHost_12 :
    ∃ (b : Binding), (b.st = .pending) :=
  ⟨⟨⟨light, .any, .car 0x12#32⟩, .pending, false, false⟩, by decide +kernel⟩

theorem witness_BindingCommandsOfTheHost_13 :
    ∃ (s : State) (tag : Byte) (q : Question) (n : Nat) (i : Nat) (r : RosterEntry) (id : Byte), (s.CanTake tag) ∧
      (TagOk q.tag) ∧ (q.sel.ok = true) ∧ (s.Quiet) ∧ (s.firstSlot HandleSlot.isFree = some n) ∧ (s.roll.state = .formed) ∧
      (q.sel ≠ .nearest) ∧ (s.consist.target q.sel = .car i) ∧ (s.consist.entry i = some r) ∧
      (s.matchCar i q.tag q.filter = none) ∧ (r.ident ≠ s.ownId) ∧
      (∀ out ∈ s.consist.forwardEnd i, (s.lineEnd out).state ≠ .locked) ∧
      (id = (if s.bindings.query.map BackgroundQuery.id = some (s.traffic.queryId + 1#8) then s.traffic.queryId + 2#8 else s.traffic.queryId + 1#8)) :=
  ⟨train .locked .opened, 9#8, ⟨light, .any, .car 0x12#32⟩, 0, 3, ⟨0x12#32, .b, .none⟩, 1#8, by decide +kernel⟩

theorem witness_AttentionCommandsOfTheHost_1 :
    ∃ (s : State) (tag : Byte), (s.CanTake tag) ∧ (∀ k ∈ EventKind.all, s.attn.visible k = false) :=
  ⟨train .locked .locked, 9#8, by decide +kernel⟩

theorem witness_AttentionCommandsOfTheHost_2 :
    ∃ (s : State) (tag : Byte) (k : EventKind), (s.CanTake tag) ∧ (s.attn.events.Ok) ∧ (s.attn.visible k = true) ∧
      (∀ j ∈ EventKind.all, s.attn.visible j = true → k.priority < j.priority ∨
      (k.priority = j.priority ∧ s.attn.events.order.idxOf k ≤ s.attn.events.order.idxOf j)) :=
  ⟨State.reset, 9#8, .wake, by decide +kernel⟩

theorem witness_AttentionCommandsOfTheHost_3 :
    ∃ (s : State) (tag : Byte), (s.CanTake tag) :=
  ⟨train .locked .locked, 9#8, by decide +kernel⟩

theorem witness_AttentionCommandsOfTheHost_4 :
    ∃ (s : State) (tag : Byte), (s.CanTake tag) :=
  ⟨train .locked .locked, 9#8, by decide +kernel⟩

theorem witness_AttentionCommandsOfTheHost_5 :
    ∃ (s : State) (tag : Byte), (s.CanTake tag) :=
  ⟨train .locked .locked, 9#8, by decide +kernel⟩

theorem witness_AttentionCommandsOfTheHost_6 :
    ∃ (s : State) (tag : Byte), (s.CanTake tag) :=
  ⟨train .locked .locked, 9#8, by decide +kernel⟩

theorem witness_AttentionCommandsOfTheHost_7 :
    ∃ (s : State) (tag : Byte), (s.CanTake tag) :=
  ⟨train .locked .locked, 9#8, by decide +kernel⟩

theorem witness_AttentionCommandsOfTheHost_8 :
    ∃ (s : State) (tag : Byte), (s.CanTake tag) :=
  ⟨train .locked .locked, 9#8, by decide +kernel⟩

theorem witness_AttentionCommandsOfTheHost_9 :
    ∃ (s : State) (tag : Byte), (s.CanTake tag) :=
  ⟨train .locked .locked, 9#8, by decide +kernel⟩

end Sys2Proof.Tests
end

section
/-! What the blocks behind the Roll-Call Engine do at an entry into ROLLING and at an adoption, and what that leaves alone. -/

namespace Sys2Proof.Machine.RollCallProofs

/-- The work of the other blocks at an adoption or an entry into ROLLING: the train and the host's settings are left alone, the ends
change in their directory queues alone, and no event but BINDING_CHANGED is raised. -/
structure Serves (s t : State) : Prop where
  train : s.SameTrain t
  lineA : { t.lineA with dirQ := s.lineA.dirQ } = s.lineA
  lineB : { t.lineB with dirQ := s.lineB.dirQ } = s.lineB
  events : { t.attn.events with bindingChanged := s.attn.events.bindingChanged, order := s.attn.events.order } = s.attn.events

theorem Serves.refl (s : State) : Serves s s :=
  ⟨.refl s, rfl, rfl, rfl⟩

theorem Serves.trans {s t u : State} (h : Serves s t) (k : Serves t u) : Serves s u where
  train := h.train.trans k.train
  lineA := by rw [← h.lineA, ← k.lineA]
  lineB := by rw [← h.lineB, ← k.lineB]
  events := by rw [← h.events, ← k.events]

theorem Serves.foldl {f : State → Nat → State} (hf : ∀ (s : State) (i : Nat), Serves s (f s i)) (l : List Nat) (s : State) :
    Serves s (l.foldl f s) := by
  induction l generalizing s with
  | nil => exact .refl s
  | cons i l ih => exact (hf s i).trans (ih _)

/-- Work of the Binding Table that leaves the event set alone. -/
theorem Serves.of_rebinds {s t : State} (h : s.Rebinds t) (he : t.attn.events = s.attn.events) : Serves s t :=
  ⟨h.sameTrain, h.lineA, h.lineB, by rw [he]⟩

/-! ## The Binding Table -/

theorem serves_setBindings (s : State) (b : BindingTable) : Serves s (s.setBindings b) :=
  .of_rebinds (s.rebinds_setBindings b) rfl

theorem serves_abandonBackground (s : State) : Serves s s.abandonBackground :=
  serves_setBindings s _

theorem use_events (s : State) (h : Hit) : (s.use h).attn.events = s.attn.events := by
  unfold State.use
  split <;> rfl

theorem serves_useFound (s : State) (f : Found) : Serves s (s.useFound f) := by
  refine .of_rebinds (s.rebinds_useFound f) ?_
  cases f
  case hit h => exact use_events s h
  all_goals rfl

theorem serves_takeContents (s : State) (i : Nat) (b : Binding) (st : BindState) (x : Bool) :
    Serves s (s.takeContents i b st x) := by
  have h := s.rebinds_takeContents i b st x
  refine ⟨h.sameTrain, h.lineA, h.lineB, ?_⟩
  unfold State.takeContents
  dsimp only
  split <;> rfl

theorem serves_reviewBackground (s : State) (i : Nat) (f : Found) : Serves s (s.reviewBackground i f) := by
  refine .of_rebinds (s.rebinds_reviewBackground i f) ?_
  unfold State.reviewBackground
  split
  · rfl
  · split
    · rfl
    · split
      · split <;> rfl
      all_goals rfl

theorem serves_reResolve (s : State) (i : Nat) : Serves s (s.reResolve i) := by
  unfold State.reResolve
  split
  · exact .refl s
  · exact (serves_useFound s _).trans ((serves_takeContents _ _ _ _ _).trans (serves_reviewBackground _ _ _))

theorem freshQuery_events (s : State) (o : Option Byte) (t : Nat) (g : Tag) :
    (s.freshQuery o t g).attn.events = s.attn.events := by
  simp [State.freshQuery]

theorem serves_startBackground (s : State) : Serves s s.startBackground := by
  refine .of_rebinds s.rebinds_startBackground ?_
  unfold State.startBackground
  split
  · split
    · rfl
    · split
      · rfl
      · split
        · rfl
        · split
          · rfl
          · simp [freshQuery_events]
  · rfl

theorem serves_bindingsAdopt (s : State) : Serves s s.bindingsAdopt :=
  (serves_abandonBackground s).trans ((Serves.foldl serves_reResolve slots _).trans (serves_startBackground _))

theorem serves_markStale (s : State) (i : Nat) : Serves s (s.markStale i) := by
  unfold State.markStale
  split
  · exact .refl s
  · exact serves_takeContents s _ _ _ _

theorem serves_bindingsUnsettled (s : State) : Serves s s.bindingsUnsettled :=
  (serves_abandonBackground s).trans (Serves.foldl serves_markStale slots _)

/-! ## The Resolver and the Directory Traffic unit -/

theorem serves_complete (s : State) (st : Status) (d : List Byte) (x : Bool) : Serves s (s.complete st d x) :=
  ⟨s.sameTrain_complete st d x, rfl, rfl, rfl⟩

theorem serves_setTraffic (s : State) (x : Traffic) : Serves s (s.setTraffic x) :=
  ⟨s.sameTrain_setTraffic x, rfl, rfl, rfl⟩

theorem serves_setResolver (s : State) (x : Resolver) : Serves s (s.setResolver x) :=
  ⟨s.sameTrain_setResolver x, rfl, rfl, rfl⟩

theorem serves_createBinding (s : State) (i : Nat) (q : Question) (st : BindState) : Serves s (s.createBinding i q st) :=
  ⟨s.sameTrain_createBinding i q st, rfl, rfl, rfl⟩

theorem serves_completeLookup (s : State) (o : Outcome) : Serves s (s.completeLookup o) := by
  cases o <;> exact serves_complete s _ _ _

theorem serves_completeBind (s : State) (i : Nat) (q : Question) (o : Outcome) : Serves s (s.completeBind i q o) := by
  cases o
  case consistChanged => exact (serves_useFound s _).trans (serves_createBinding _ _ _ _)
  all_goals exact serves_createBinding s _ _ _

theorem serves_endResolution (s : State) (o : Outcome) : Serves s (s.endResolution o) := by
  unfold State.endResolution
  split
  · split
    · exact serves_completeBind s _ _ _
    all_goals exact serves_completeLookup s _
  · exact serves_completeLookup s _

theorem serves_abandonForeground (s : State) : Serves s s.abandonForeground := by
  unfold State.abandonForeground
  split
  · exact .refl s
  · exact (serves_setResolver s _).trans (serves_endResolution _ _)

theorem serves_abandonChange (s : State) : Serves s s.abandonChange := by
  unfold State.abandonChange
  split
  · exact .refl s
  · exact (serves_setTraffic s _).trans (serves_complete _ _ _ _)

theorem serves_trafficAdopt (s : State) : Serves s s.trafficAdopt :=
  (serves_abandonChange s).trans (serves_setTraffic _ _)

theorem serves_purge (s : State) : Serves s s.purge :=
  ⟨s.sameTrain_purge, rfl, rfl, rfl⟩

theorem serves_setRemainder (s : State) (l : List (Tag × Side)) : Serves s (s.setRemainder l) :=
  serves_setTraffic s _

theorem serves_broadcast (s : State) (p : Payload) : Serves s (s.broadcast p) :=
  ⟨s.sameTrain_broadcast p, s.lineA.offerDir_keeps _, s.lineB.offerDir_keeps _, by simp⟩

theorem serves_publishHome (s : State) (k : Tag × Side) : Serves s (s.publishHome k) := by
  unfold State.publishHome
  split
  · exact serves_broadcast s _
  · exact .refl s

theorem serves_burstFrom (l : List (Tag × Side)) (s : State) : Serves s (s.burstFrom l) := by
  induction l generalizing s with
  | nil => exact serves_setRemainder s _
  | cons k l ih =>
    unfold State.burstFrom
    split
    · exact (serves_publishHome s k).trans (ih _)
    · exact serves_setRemainder s _

theorem serves_eitherOrder {f g : State → State} (hf : ∀ s, Serves s (f s)) (hg : ∀ s, Serves s (g s)) (s : State) :
    Serves s (eitherOrder f g s) := by
  have h := (hf s).trans (hg (f s))
  unfold eitherOrder
  dsimp only
  split
  · exact h
  · exact h.trans ⟨{ State.SameTrain.refl _ with }, rfl, rfl, rfl⟩

/-- Entry into ROLLING or DEGRADED at the other blocks (R32). -/
theorem serves_reportUnsettled (s : State) : Serves s s.reportUnsettled :=
  (serves_setRemainder s []).trans ((serves_abandonChange _).trans ((serves_abandonForeground _).trans (serves_bindingsUnsettled _)))

/-- The work of an adoption that can change a line end's directory queue comes last (R49). -/
theorem serves_adoptTail (s : State) :
    Serves s (eitherOrder State.burstStart State.bindingsAdopt s.purge.trafficAdopt.abandonForeground) :=
  (serves_purge s).trans ((serves_trafficAdopt _).trans ((serves_abandonForeground _).trans
    (serves_eitherOrder (fun s => serves_burstFrom _ s) serves_bindingsAdopt _)))

end Sys2Proof.Machine.RollCallProofs
end

section
/-! What an adoption, an entry into ROLLING, an originated ROLL and a roll-call trigger leave in each part of the state. -/

namespace Sys2Proof.Machine.RollCallProofs

/-! ## Line ends -/

/-- The ends of two states differ in their transmit queues alone. -/
def SameEnds (s t : State) : Prop :=
  ∀ e, (t.lineEnd e).SameButQueues (s.lineEnd e)

theorem sameButQueues_trans {l m n : LineEndSt} (h : m.SameButQueues l) (k : n.SameButQueues m) : n.SameButQueues l := by
  unfold LineEndSt.SameButQueues at *
  rw [← h] at k
  exact k

theorem SameEnds.refl (s : State) : SameEnds s s :=
  fun _ => rfl

theorem SameEnds.trans {s t u : State} (h : SameEnds s t) (k : SameEnds t u) : SameEnds s u :=
  fun e => sameButQueues_trans (h e) (k e)

theorem SameEnds.of_eq {s t : State} (h : ∀ e, t.lineEnd e = s.lineEnd e) : SameEnds s t :=
  fun e => by rw [h e]

/-- An end that differs from another in its queues alone is in the same state. -/
theorem sameButQueues_state {l m : LineEndSt} (h : l.SameButQueues m) : l.state = m.state :=
  (congrArg LineEndSt.state h).symm

theorem SameEnds.state {s t : State} (h : SameEnds s t) (e : LineEnd) : (t.lineEnd e).state = (s.lineEnd e).state :=
  sameButQueues_state (h e)

theorem Serves.lineEnd {s t : State} (h : Serves s t) (e : LineEnd) :
    { t.lineEnd e with dirQ := (s.lineEnd e).dirQ } = s.lineEnd e := by
  cases e
  · exact h.lineA
  · exact h.lineB

theorem Serves.ctrlQ {s t : State} (h : Serves s t) (e : LineEnd) : (t.lineEnd e).ctrlQ = (s.lineEnd e).ctrlQ := by
  rw [← h.lineEnd e]

theorem Serves.sameEnds {s t : State} (h : Serves s t) : SameEnds s t := by
  intro e
  unfold LineEndSt.SameButQueues
  rw [← h.lineEnd e]

theorem sameEnds_offerCtrl (s : State) (e : LineEnd) (f : Frame) : SameEnds s (s.offerCtrl e f) := by
  intro e'
  rw [State.offerCtrl, State.updEnd_lineEnd]
  split
  · subst e'
    rcases (s.lineEnd e).offerCtrl_cases f with ⟨-, h⟩ | ⟨-, h⟩ <;> rw [h]
  · rfl

/-! ## Own cab, direction and conflict -/

/-- A roster with the active cab end of one car set (R63, R65). -/
def steered (r : List RosterEntry) (i : Nat) (c : CabEnd) : List RosterEntry :=
  if i = 0 then r else r.modify (i - 1) fun x => { x with cab := c }

theorem setCab_eq (t : ConsistTable) (i : Nat) (c : CabEnd) : t.setCab i c = { t with roster := steered t.roster i c } := by
  unfold ConsistTable.setCab steered
  split <;> rfl

theorem steered_ident (r : List RosterEntry) (i : Nat) (c : CabEnd) :
    (steered r i c).map RosterEntry.ident = r.map RosterEntry.ident := by
  unfold steered
  split
  · rfl
  · apply List.ext_getElem?
    intro n
    simp only [List.getElem?_map, List.getElem?_modify]
    split <;> simp [Function.comp_def]

theorem steered_digest (r : List RosterEntry) (i : Nat) (c : CabEnd) : rosterDigest (steered r i c) = rosterDigest r := by
  have h : (steered r i c).map RosterEntry.digestBytes = r.map RosterEntry.digestBytes := by
    unfold steered
    split
    · rfl
    · apply List.ext_getElem?
      intro n
      simp only [List.getElem?_map, List.getElem?_modify]
      split <;> simp [Function.comp_def]; rfl
  rw [rosterDigest, rosterDigest, List.flatMap_def, List.flatMap_def, h]

/-- A cab end that an entry holds already changes nothing. -/
theorem steered_same {t : ConsistTable} {i : Nat} {r : RosterEntry} (h : t.entry i = some r) :
    steered t.roster i r.cab = t.roster := by
  unfold ConsistTable.entry at h
  unfold steered
  split at h
  · cases h
  · rename_i hi
    rw [if_neg hi]
    apply List.ext_getElem?
    intro n
    rw [List.getElem?_modify]
    split
    · subst n; simp [h]
    · simp

/-- The place of an identity depends on the identities alone. -/
theorem rosterIndex_congr {r r' : List RosterEntry} (h : r'.map RosterEntry.ident = r.map RosterEntry.ident) (id : Ident) :
    rosterIndex r' id = rosterIndex r id := by
  induction r generalizing r' with
  | nil => rw [List.map_eq_nil_iff.1 h]
  | cons x r ih =>
    cases r' with
    | nil => simp at h
    | cons y r' =>
      simp only [List.map_cons, List.cons.injEq] at h
      simp only [rosterIndex, h.1, ih h.2]

/-- An identity that a roster holds stands at its place. -/
theorem rosterIndex_entry {r : List RosterEntry} {id : Ident} (h : rosterIndex r id ≠ 0) :
    ∃ x, r[rosterIndex r id - 1]? = some x ∧ x.ident = id := by
  induction r with
  | nil => exact absurd rfl h
  | cons y r ih =>
    by_cases hy : y.ident = id
    · exact ⟨y, by simp [rosterIndex, hy], hy⟩
    · cases hk : rosterIndex r id with
      | zero => simp [rosterIndex, hy, hk] at h
      | succ k =>
        obtain ⟨x, hx, hi⟩ := ih (by simp [hk])
        refine ⟨x, ?_, hi⟩
        simpa [rosterIndex, hy, hk] using hx

theorem rosterIndex_ne_zero {r : List RosterEntry} {id : Ident} : rosterIndex r id ≠ 0 ↔ id ∈ r.map RosterEntry.ident := by
  induction r with
  | nil => simp [rosterIndex]
  | cons y r ih =>
    by_cases hy : y.ident = id
    · simp [rosterIndex, hy]
    · cases hk : rosterIndex r id with
      | zero =>
        have : id ∉ r.map RosterEntry.ident := fun hm => ih.2 hm hk
        simp only [rosterIndex, hy, if_false, hk, List.map_cons, List.mem_cons, this, or_false]
        simp [Ne.symm hy]
      | succ k =>
        have : id ∈ r.map RosterEntry.ident := ih.1 (by simp [hk])
        simp [rosterIndex, hy, hk, this]

theorem recomputeCabs_consist (s : State) :
    s.recomputeCabs.consist =
      { s.consist with dir := directionOf s.consist.roster, conflict := conflictOf s.consist.roster } := by
  unfold State.recomputeCabs State.reportFault
  dsimp only
  split
  · split <;> rfl
  · rfl

theorem reportFault_lineEnd (s : State) (k : FaultKind) (e : LineEnd) : (s.reportFault k).lineEnd e = s.lineEnd e := by
  unfold State.reportFault; split <;> simp

theorem reportFault_consist (s : State) (k : FaultKind) : (s.reportFault k).consist = s.consist := by
  unfold State.reportFault; split <;> rfl

theorem recomputeCabs_lineEnd (s : State) (e : LineEnd) : s.recomputeCabs.lineEnd e = s.lineEnd e := by
  unfold State.recomputeCabs; dsimp only; split <;> simp [reportFault_lineEnd]

theorem offerCtrlIf_consist (s : State) (f : Option (LineEnd × Frame)) : (s.offerCtrlIf f).consist = s.consist := by
  unfold State.offerCtrlIf; split <;> simp

theorem sendSteer_consist (s : State) : s.sendSteer.consist = s.consist := by
  simp [State.sendSteer]

theorem ownId_congr {s t : State} (h : t.ctrl = s.ctrl) : t.ownId = s.ownId := by
  rw [State.ownId, State.ownId, h]

theorem ownCab_congr {s t : State} (h : t.ctrl = s.ctrl) (hl : t.consist.cabLevel = s.consist.cabLevel) :
    t.ownCab = s.ownCab := by
  rw [State.ownCab, State.ownCab, h, hl]

theorem rollAdopt_ctrl (s : State) (e : Epoch) : (s.rollAdopt e).ctrl = s.ctrl := by
  unfold State.rollAdopt; dsimp only; split <;> rfl

theorem rollAdopt_consist (s : State) (e : Epoch) : (s.rollAdopt e).consist = s.consist := by
  unfold State.rollAdopt; dsimp only; split <;> rfl

theorem rollAdopt_lineEnd (s : State) (e : Epoch) (x : LineEnd) : (s.rollAdopt e).lineEnd x = s.lineEnd x := by
  unfold State.rollAdopt; dsimp only; split <;> simp

/-! ## Adoption -/

/-- The Consist Table that an adoption of a roster leaves behind when the part's own cab is as given (R55 to R59, R63). -/
def adoptedTable (c : ConsistTable) (r : List RosterEntry) (x : Epoch) (own : Ident) (cab : CabEnd) : ConsistTable :=
  { c with
    roster := steered r (rosterIndex r own) cab
    ea := x
    ownIdx := rosterIndex r own
    digest := rosterDigest r
    dir := directionOf (steered r (rosterIndex r own) cab)
    conflict := conflictOf (steered r (rosterIndex r own) cab) }

theorem compareOwnCab_consist (s : State) (hd : s.consist.dir = directionOf s.consist.roster)
    (hc : s.consist.conflict = conflictOf s.consist.roster) (hi : s.consist.ownIdx = rosterIndex s.consist.roster s.ownId) :
    s.compareOwnCab.consist =
      { s.consist with
        roster := steered s.consist.roster s.consist.ownIdx s.ownCab
        dir := directionOf (steered s.consist.roster s.consist.ownIdx s.ownCab)
        conflict := conflictOf (steered s.consist.roster s.consist.ownIdx s.ownCab) } := by
  unfold State.compareOwnCab
  split
  · rename_i he
    have h0 : s.consist.ownIdx = 0 := by
      by_contra hn
      obtain ⟨x, hx, -⟩ := rosterIndex_entry (hi ▸ hn)
      rw [ConsistTable.entry, if_neg hn, hi, hx] at he
      cases he
    rw [steered, if_pos h0, ← hd, ← hc]
  · rename_i r he
    split
    · rename_i hr
      rw [← hr, steered_same he, ← hd, ← hc]
    · rw [sendSteer_consist, recomputeCabs_consist, State.setConsist_consist, setCab_eq]

/-- An adoption at the Consist Table (R49, R55, R63): roster, digest, D, conflict flag and own index, and one step of the view number. -/
theorem adopt_consist (s : State) (r : List RosterEntry) (x : Epoch) (f : Option (LineEnd × Frame)) :
    (s.adopt r x f).consist =
      { adoptedTable s.consist r x s.ownId s.ownCab with view := s.consist.view + 1#16 } := by
  unfold State.adopt
  rw [(serves_adoptTail _).train.consist]
  generalize hu : (((s.rollAdopt x).updEnds (LineEndSt.trimEpoch x)).tableAdopt r x).offerCtrlIf f = u
  have hk : u.ctrl = s.ctrl := by simp [← hu, rollAdopt_ctrl]
  have hc : u.consist = { s.consist with
      roster := r, ea := x, ownIdx := rosterIndex r s.ownId, digest := rosterDigest r, dir := directionOf r, conflict := conflictOf r } := by
    have ho : ((s.rollAdopt x).updEnds (LineEndSt.trimEpoch x)).ownId = s.ownId := ownId_congr (by simp [rollAdopt_ctrl])
    rw [← hu, offerCtrlIf_consist, State.tableAdopt, recomputeCabs_consist]
    simp [ho, rollAdopt_consist]
  have hid : u.ownId = s.ownId := ownId_congr hk
  have hcab : u.ownCab = s.ownCab := ownCab_congr hk (by rw [hc])
  have hv : u.compareOwnCab.adoptionConflict.consist = u.compareOwnCab.consist := by
    unfold State.adoptionConflict
    split
    · exact reportFault_consist _ _
    · rfl
  have hq := compareOwnCab_consist u (by rw [hc]) (by rw [hc]) (by rw [hid, hc])
  rw [hcab, hc] at hq
  simp only [State.stepView, State.raiseView, State.raise_consist, State.setConsist_consist, hv, hq, adoptedTable]

theorem sameEnds_updEnds_trim (s : State) (x : Epoch) : SameEnds s (s.updEnds (LineEndSt.trimEpoch x)) :=
  fun e => by rw [State.updEnds_lineEnd]; rfl

theorem sameEnds_offerCtrlIf (s : State) (f : Option (LineEnd × Frame)) : SameEnds s (s.offerCtrlIf f) := by
  unfold State.offerCtrlIf
  split
  · exact sameEnds_offerCtrl s _ _
  · exact .refl s

theorem sameEnds_sendSteer (s : State) : SameEnds s s.sendSteer :=
  (sameEnds_offerCtrl s _ _).trans (sameEnds_offerCtrl _ _ _)

theorem sameEnds_tableAdopt (s : State) (r : List RosterEntry) (x : Epoch) : SameEnds s (s.tableAdopt r x) :=
  .of_eq fun e => by rw [State.tableAdopt, recomputeCabs_lineEnd, State.setConsist_lineEnd]

theorem sameEnds_compareOwnCab (s : State) : SameEnds s s.compareOwnCab := by
  unfold State.compareOwnCab
  split
  · exact .refl s
  · split
    · exact .refl s
    · exact SameEnds.trans (.of_eq fun e => by rw [recomputeCabs_lineEnd, State.setConsist_lineEnd]) (sameEnds_sendSteer _)

theorem adoptionConflict_lineEnd (s : State) (e : LineEnd) : s.adoptionConflict.lineEnd e = s.lineEnd e := by
  unfold State.adoptionConflict
  split
  · exact reportFault_lineEnd _ _ _
  · rfl

/-- An adoption changes the ends in their transmit queues alone (R49). -/
theorem sameEnds_adopt (s : State) (r : List RosterEntry) (x : Epoch) (f : Option (LineEnd × Frame)) :
    SameEnds s (s.adopt r x f) := by
  unfold State.adopt
  refine SameEnds.trans ?_ (serves_adoptTail _).sameEnds
  have h : SameEnds s (((s.rollAdopt x).updEnds (LineEndSt.trimEpoch x)).tableAdopt r x) :=
    SameEnds.trans (.of_eq (rollAdopt_lineEnd s x)) ((sameEnds_updEnds_trim _ _).trans (sameEnds_tableAdopt _ _ _))
  refine (h.trans ((sameEnds_offerCtrlIf _ f).trans (sameEnds_compareOwnCab _))).trans (.of_eq fun e => ?_)
  simp only [State.stepView, State.raiseView, State.raise_lineEnd, State.setConsist_lineEnd, adoptionConflict_lineEnd]

/-! ## Entry into ROLLING, originated ROLL, trigger -/

/-- Entry into ROLLING is work of the other blocks behind a change of the roll call and one event (R31, R32). -/
theorem serves_enterRolling (s : State) :
    Serves ((s.setRoll { s.roll with state := .rolling, attempts := 0, timer := .running Config.rollFastMs }).raise
      (Events.raiseUnsettled .rolling)) s.enterRolling :=
  serves_reportUnsettled _

theorem sameEnds_enterRolling (s : State) : SameEnds s s.enterRolling :=
  SameEnds.trans (.of_eq fun e => by simp) (serves_enterRolling s).sameEnds

theorem startRolling_roll (s : State) :
    s.startRolling.roll = { s.roll with state := .rolling, attempts := 0, timer := .running Config.rollFastMs } := by
  unfold State.startRolling
  split
  · rename_i h
    simp [← h]
  · exact State.enterRolling_roll s

theorem startRolling_consist (s : State) : s.startRolling.consist = s.consist := by
  unfold State.startRolling
  split
  · rfl
  · exact State.enterRolling_consist s

theorem startRolling_ctrl (s : State) : s.startRolling.ctrl = s.ctrl := by
  unfold State.startRolling
  split
  · rfl
  · exact State.enterRolling_ctrl s

theorem sameEnds_startRolling (s : State) : SameEnds s s.startRolling := by
  unfold State.startRolling
  split
  · exact .of_eq fun e => by simp
  · exact sameEnds_enterRolling s

theorem restart_fields (r : RollCall) :
    r.restart = { r with timer := .running (if r.state = .degraded then Config.rollSlowMs else Config.rollFastMs) } := by
  unfold RollCall.restart
  split <;> simp [*]

/-- An originated ROLL at the Roll-Call Engine (R38): E rises, is noted, and the timer starts again. -/
theorem originate_roll (s : State) (e : LineEnd) :
    (s.originate e).roll =
      { s.roll with
        epoch := increaseEpoch s.roll.epoch
        lastOrig := increaseEpoch s.roll.epoch
        timer := .running (if s.roll.state = .degraded then Config.rollSlowMs else Config.rollFastMs) } := by
  simp [State.originate, restart_fields]

theorem originate_consist (s : State) (e : LineEnd) : (s.originate e).consist = s.consist := by
  simp [State.originate]

theorem originate_ctrl (s : State) (e : LineEnd) : (s.originate e).ctrl = s.ctrl := by
  simp [State.originate]

theorem sameEnds_originate (s : State) (e : LineEnd) : SameEnds s (s.originate e) := by
  unfold State.originate
  exact SameEnds.trans (.of_eq (State.setRoll_lineEnd s _)) ((sameEnds_offerCtrl _ _ _).trans (.of_eq (State.setRoll_lineEnd _ _)))

theorem sendCalls_roll (s : State) : s.sendCalls.roll = s.roll := by
  simp [State.sendCalls]

theorem sendCalls_consist (s : State) : s.sendCalls.consist = s.consist := by
  simp [State.sendCalls]

theorem sendCalls_ctrl (s : State) : s.sendCalls.ctrl = s.ctrl := by
  simp [State.sendCalls]

theorem sameEnds_sendCalls (s : State) : SameEnds s s.sendCalls :=
  (sameEnds_offerCtrl s _ _).trans (sameEnds_offerCtrl _ _ _)

/-- The three things a roll-call trigger can be (R31, R34): adoption of the part alone, a ROLL originated, or a CALL to both sides. -/
theorem trigger_cases (s : State) :
    (s.joined .a = false ∧ s.joined .b = false ∧ s.trigger = s.adopt s.ownRoster (increaseEpoch s.roll.epoch) none) ∨
    (∃ e, s.joined e = true ∧ s.joined e.other = false ∧ s.trigger = s.startRolling.originate e) ∨
    (s.joined .a = true ∧ s.joined .b = true ∧ s.trigger = s.startRolling.sendCalls) := by
  unfold State.trigger State.joinedEnds
  cases ha : s.joined .a <;> cases hb : s.joined .b
  · exact .inl ⟨rfl, rfl, rfl⟩
  · exact .inr (.inl ⟨.b, hb, ha, rfl⟩)
  · exact .inr (.inl ⟨.a, ha, hb, rfl⟩)
  · exact .inr (.inr ⟨rfl, rfl, rfl⟩)

theorem trigger_ctrl (s : State) : s.trigger.ctrl = s.ctrl := by
  rcases trigger_cases s with ⟨-, -, h⟩ | ⟨e, -, -, h⟩ | ⟨-, -, h⟩ <;> rw [h]
  · exact State.adopt_ctrl s _ _ _
  · rw [originate_ctrl, startRolling_ctrl]
  · rw [sendCalls_ctrl, startRolling_ctrl]

/-- A roll-call trigger changes the ends in their transmit queues alone. -/
theorem sameEnds_trigger (s : State) : SameEnds s s.trigger := by
  rcases trigger_cases s with ⟨-, -, h⟩ | ⟨e, -, -, h⟩ | ⟨-, -, h⟩ <;> rw [h]
  · exact sameEnds_adopt s _ _ _
  · exact (sameEnds_startRolling s).trans (sameEnds_originate _ _)
  · exact (sameEnds_startRolling s).trans (sameEnds_sendCalls _)

end Sys2Proof.Machine.RollCallProofs
end

section
/-! What one command can do to the roll call, the roster and the joined ends of the part, said once: most work leaves them alone, and
the rest is a run of a few moves. -/

namespace Sys2Proof.Machine.RollCallProofs

/-! ## Work that leaves the roll call alone -/

/-- The roll call, Part Control, the roster with what is computed from it, and which ends are joined are left alone. -/
structure SameCall (s t : State) : Prop where
  roll : t.roll = s.roll
  ctrl : t.ctrl = s.ctrl
  table :
    { t.consist with
      view := s.consist.view
      cabInput := s.consist.cabInput
      cabLevel := s.consist.cabLevel
      debounceT := s.consist.debounceT } = s.consist
  joined : ∀ e, t.joined e = s.joined e

theorem SameCall.refl (s : State) : SameCall s s :=
  ⟨rfl, rfl, rfl, fun _ => rfl⟩

theorem SameCall.trans {s t u : State} (h : SameCall s t) (k : SameCall t u) : SameCall s u where
  roll := k.roll.trans h.roll
  ctrl := k.ctrl.trans h.ctrl
  table := by rw [← h.table, ← k.table]
  joined := fun e => (k.joined e).trans (h.joined e)

theorem SameCall.foldl {α : Type} {f : State → α → State} (hf : ∀ (s : State) (a : α), SameCall s (f s a)) (l : List α) (s : State) :
    SameCall s (l.foldl f s) := by
  induction l generalizing s with
  | nil => exact .refl s
  | cons a l ih => exact (hf s a).trans (ih _)

theorem joined_congr {s t : State} {e : LineEnd} (h : (t.lineEnd e).state = (s.lineEnd e).state) : t.joined e = s.joined e := by
  rw [State.joined, State.joined, h]

theorem SameEnds.joined {s t : State} (h : SameEnds s t) (e : LineEnd) : t.joined e = s.joined e :=
  joined_congr (h.state e)

theorem Serves.sameCall {s t : State} (h : Serves s t) : SameCall s t :=
  ⟨h.train.roll, h.train.settings.1, by rw [h.train.consist], h.sameEnds.joined⟩

theorem sameCall_of_rebinds {s t : State} (h : s.Rebinds t) : SameCall s t := by
  refine ⟨h.roll, h.ctrl, by rw [h.consist], fun e => joined_congr ?_⟩
  cases e
  · exact (congrArg LineEndSt.state h.lineA :)
  · exact (congrArg LineEndSt.state h.lineB :)

theorem sameCall_setDir (s : State) (d : Directory) : SameCall s (s.setDir d) :=
  { SameCall.refl s with }

theorem sameCall_setAttn (s : State) (a : AttentionUnit) : SameCall s (s.setAttn a) :=
  { SameCall.refl s with }

theorem sameCall_setPort (s : State) (p : CarPort) : SameCall s (s.setPort p) :=
  { SameCall.refl s with }

theorem sameCall_raise (s : State) (f : Events → Events) : SameCall s (s.raise f) :=
  sameCall_setAttn s _

theorem sameCall_complete (s : State) (st : Status) (d : List Byte) (x : Bool) : SameCall s (s.complete st d x) :=
  (serves_complete s st d x).sameCall

theorem sameCall_done (s : State) (st : Status) : SameCall s (s.done st) :=
  sameCall_complete s _ _ _

theorem sameCall_gives (s : State) (d : List Byte) : SameCall s (s.gives d) :=
  sameCall_complete s _ _ _

theorem sameCall_setTraffic (s : State) (x : Traffic) : SameCall s (s.setTraffic x) :=
  (serves_setTraffic s x).sameCall

theorem sameCall_setResolver (s : State) (x : Resolver) : SameCall s (s.setResolver x) :=
  (serves_setResolver s x).sameCall

theorem sameCall_setBindings (s : State) (b : BindingTable) : SameCall s (s.setBindings b) :=
  (serves_setBindings s b).sameCall

theorem sameCall_freeCount (s : State) (n : Nat) : SameCall s { s with freeCount := n } :=
  { SameCall.refl s with }

theorem sameCall_pending (s : State) (l : List Instr) : SameCall s { s with pending := l } :=
  { SameCall.refl s with }

theorem sameCall_raiseBeside (s : State) (n : Nat) (k : EventKind) (f : Events → Events) :
    SameCall s (s.raiseBeside n k f) := by
  rcases s.raiseBeside_cases n k f with h | ⟨o, -, h⟩ <;> rw [h]
  · exact sameCall_raise s f
  · exact (sameCall_raise s f).trans { SameCall.refl _ with }

theorem sameCall_reportFault (s : State) (k : FaultKind) : SameCall s (s.reportFault k) := by
  unfold State.reportFault
  split
  · exact .refl s
  · exact sameCall_raise s _
  · exact sameCall_raise s _

/-- A change of an end that leaves it joined or not joined, as it was. -/
theorem sameCall_updEnd (s : State) (e : LineEnd) {f : LineEndSt → LineEndSt}
    (h : (f (s.lineEnd e)).state = .locked ↔ (s.lineEnd e).state = .locked) : SameCall s (s.updEnd e f) := by
  refine ⟨by simp, by simp, by simp, fun e' => ?_⟩
  rw [State.joined, State.joined, State.updEnd_lineEnd]
  split
  · subst e'; simp [h]
  · rfl

theorem sameCall_setEnd (s : State) (e : LineEnd) {l : LineEndSt} (h : l.state = (s.lineEnd e).state) :
    SameCall s (s.setEnd e l) :=
  sameCall_updEnd s e (f := fun _ => l) (by rw [h])

theorem sameCall_offerCtrl (s : State) (e : LineEnd) (f : Frame) : SameCall s (s.offerCtrl e f) :=
  sameCall_updEnd s e (by simp)

theorem sameCall_offerDir (s : State) (e : LineEnd) (f : Frame) : SameCall s (s.offerDir e f) :=
  sameCall_updEnd s e (by simp)

theorem sameCall_sendSteer (s : State) : SameCall s s.sendSteer :=
  (sameCall_offerCtrl s _ _).trans (sameCall_offerCtrl _ _ _)

theorem sameCall_sendUnicast (s : State) (t : Nat) (p : Payload) : SameCall s (s.sendUnicast t p) :=
  sameCall_of_rebinds (s.rebinds_sendUnicast t p)

theorem sameCall_stepView (s : State) : SameCall s s.stepView :=
  ⟨rfl, rfl, rfl, fun e => joined_congr (by simp [State.stepView, State.raiseView])⟩

/-- The reports of a record and its publication are two pieces of work in either order, and so are others of R49, R77 and R101. -/
theorem sameCall_eitherOrder {f g : State → State} (hf : ∀ s, SameCall s (f s)) (hg : ∀ s, SameCall s (g s)) (s : State) :
    SameCall s (eitherOrder f g s) := by
  have h := (hf s).trans (hg (f s))
  unfold eitherOrder
  dsimp only
  split
  · exact h
  · exact h.trans { SameCall.refl _ with joined := fun e => by cases e <;> rfl }

/-! ## Records, answers and bindings -/

theorem sameCall_recordChanged (s : State) (t : Tag) : SameCall s (s.recordChanged t) :=
  sameCall_of_rebinds (s.rebinds_recordChanged t)

theorem sameCall_makeRoom (s : State) : SameCall s s.makeRoom := by
  rcases s.makeRoom_cases with ⟨-, h⟩ | ⟨-, -, h⟩ | ⟨m, -, -, h⟩ <;> rw [h]
  · exact .refl s
  · exact .refl s
  · exact (sameCall_setDir s _).trans (sameCall_recordChanged _ _)

theorem sameCall_addMirror (s : State) (o : Ident) (r : Rec) : SameCall s (s.addMirror o r) := by
  unfold State.addMirror
  split
  · exact (sameCall_setDir s _).trans (sameCall_recordChanged _ _)
  · exact .refl s

theorem sameCall_updateMirror (s : State) (m : Mirror) (r : Rec) : SameCall s (s.updateMirror m r) :=
  (sameCall_setDir s _).trans (sameCall_recordChanged _ _)

theorem sameCall_storeMirror (s : State) (o : Ident) (r : Rec) : SameCall s (s.storeMirror o r) := by
  have hr := (sameCall_makeRoom s).trans (sameCall_addMirror _ o r)
  rcases s.storeMirror_cases o r with ⟨-, h⟩ | ⟨g, -, h⟩ <;> rw [h]
  · exact hr
  · exact hr.trans (sameCall_raiseBeside _ _ _ _)

theorem sameCall_keepBody (s : State) (o : Ident) (r : Rec) : SameCall s (s.keepBody o r) := by
  unfold State.keepBody
  split
  · exact sameCall_updateMirror s _ _
  · exact sameCall_storeMirror s _ _

theorem sameCall_storeAnswer (s : State) (o : Ident) (bs : List RecordBody) : SameCall s (s.storeAnswer o bs) :=
  SameCall.foldl (fun s r => sameCall_keepBody s o r) _ s

theorem sameCall_takePublished (s : State) (o : Ident) (b : RecordBody) : SameCall s (s.takePublished o b) := by
  unfold State.takePublished
  split
  · exact .refl s
  · split
    · exact sameCall_updateMirror s _ _
    · split
      · exact sameCall_storeMirror s _ _
      · exact .refl s

theorem sameCall_takeWithdrawn (s : State) (o : Ident) (t : Tag) (sd : Byte) : SameCall s (s.takeWithdrawn o t sd) := by
  unfold State.takeWithdrawn
  split
  · exact .refl s
  · split
    · split
      · exact .refl s
      · exact (sameCall_setDir s _).trans (sameCall_recordChanged _ _)
    · exact .refl s

theorem sameCall_broadcast (s : State) (p : Payload) : SameCall s (s.broadcast p) :=
  (serves_broadcast s p).sameCall

theorem sameCall_setRemainder (s : State) (l : List (Tag × Side)) : SameCall s (s.setRemainder l) :=
  sameCall_setTraffic s _

theorem sameCall_publishChange (c : HomeChange) (s : State) : SameCall s (s.publishChange c) := by
  unfold State.publishChange
  split
  · exact .refl s
  · split
    · dsimp only
      split
      · exact (sameCall_broadcast s _).trans (sameCall_setRemainder _ _)
      · exact sameCall_broadcast s _
    · split
      · exact sameCall_setRemainder s _
      · exact sameCall_broadcast s _
    · split
      · exact .refl s
      · exact sameCall_broadcast s _

theorem sameCall_homeChanged (s : State) (c : HomeChange) : SameCall s (s.homeChanged c) :=
  sameCall_eitherOrder (fun s => sameCall_recordChanged s c.tag) (sameCall_publishChange c) s

theorem sameCall_changeHome (s : State) (x y : Rec) : SameCall s (s.changeHome x y) := by
  unfold State.changeHome
  split
  · exact .refl s
  · exact (sameCall_setDir s _).trans (sameCall_homeChanged _ _)

theorem sameCall_burstContinue (s : State) : SameCall s s.burstContinue := by
  unfold State.burstContinue
  split
  · exact (serves_burstFrom _ s).sameCall
  · exact .refl s

theorem sameCall_reportGone (n : Nat) (l : List Tag) (s : State) : SameCall s (State.reportGone n l s) := by
  induction n generalizing l s with
  | zero => exact .refl s
  | succ n ih =>
    unfold State.reportGone
    split
    · exact .refl s
    · exact sameCall_recordChanged s _
    · exact (sameCall_freeCount s _).trans ((sameCall_recordChanged _ _).trans (ih _ _))

theorem sameCall_endRefresh (s : State) : SameCall s s.endRefresh :=
  (sameCall_setDir s _).trans (sameCall_reportGone _ _ _)

theorem sameCall_endResolution (s : State) (o : Outcome) : SameCall s (s.endResolution o) :=
  (serves_endResolution s o).sameCall

theorem sameCall_use (s : State) (h : Hit) : SameCall s (s.use h) :=
  sameCall_of_rebinds (s.rebinds_use h)

theorem sameCall_resolve (s : State) (q : Question) : SameCall s (s.resolve q) := by
  unfold State.resolve
  split
  · exact (sameCall_use s _).trans (sameCall_endResolution _ _)
  · exact sameCall_endResolution s _
  · exact sameCall_endResolution s _
  · exact sameCall_endResolution s _
  · exact (sameCall_of_rebinds (s.rebinds_freshQuery _ _ _)).trans (sameCall_setResolver _ _)

theorem sameCall_startBackground (s : State) : SameCall s s.startBackground :=
  sameCall_of_rebinds s.rebinds_startBackground

theorem sameCall_takeContents (s : State) (i : Nat) (b : Binding) (st : BindState) (x : Bool) :
    SameCall s (s.takeContents i b st x) :=
  sameCall_of_rebinds (s.rebinds_takeContents i b st x)

theorem sameCall_abandonBackground (s : State) : SameCall s s.abandonBackground :=
  sameCall_setBindings s _

theorem sameCall_answerForeground (s : State) (q : ForegroundQuery) (bs : List RecordBody) :
    SameCall s (s.answerForeground q bs) := by
  unfold State.answerForeground
  dsimp only
  generalize (preferred _ _ _) = l
  refine (sameCall_storeAnswer s q.target bs).trans ?_
  generalize s.storeAnswer q.target bs = u
  have hu : SameCall u (if l.length ≤ 1 then u else { u with freeCount := u.freeCount + 1 }).clearForeground := by
    refine SameCall.trans ?_ (sameCall_setResolver _ _)
    split
    · exact .refl _
    · exact sameCall_freeCount _ _
  refine hu.trans ?_
  cases u.pickAnswer l with
  | some h => exact (sameCall_use _ _).trans (sameCall_endResolution _ _)
  | none => exact sameCall_endResolution _ _

theorem sameCall_answerBackground (s : State) (q : BackgroundQuery) (bs : List RecordBody) :
    SameCall s (s.answerBackground q bs) := by
  unfold State.answerBackground
  refine (sameCall_storeAnswer s q.target bs).trans ?_
  dsimp only
  split
  · exact .refl _
  · refine (sameCall_abandonBackground _).trans ?_
    split
    · exact (sameCall_takeContents _ _ _ _ _).trans (sameCall_startBackground _)
    · exact sameCall_startBackground _

theorem sameCall_backgroundTimeout (s : State) (q : BackgroundQuery) : SameCall s (s.backgroundTimeout q) := by
  unfold State.backgroundTimeout
  refine (sameCall_abandonBackground _).trans ?_
  dsimp only
  split
  · exact (sameCall_takeContents _ _ _ _ _).trans (sameCall_startBackground _)
  · exact sameCall_startBackground _

/-! ## Directory frames -/

theorem sameCall_takeBroadcast (s : State) (e : LineEnd) (f : Frame) {here : State → State} (hh : ∀ s, SameCall s (here s)) :
    SameCall s (s.takeBroadcast e f here) := by
  unfold State.takeBroadcast
  split
  · refine sameCall_eitherOrder hh (fun s => ?_) s
    unfold State.passOn
    split
    · exact sameCall_offerDir s _ _
    · exact .refl s
  · exact .refl s

theorem sameCall_takeUnicast (s : State) (e : LineEnd) (f : Frame) {here : State → State} (hh : ∀ s, SameCall s (here s)) :
    SameCall s (s.takeUnicast e f here) := by
  unfold State.takeUnicast
  split
  · exact .refl s
  · split
    · exact .refl s
    · split
      · exact hh s
      · split
        · split
          · exact .refl s
          · split
            · exact sameCall_offerDir s _ _
            · exact .refl s
        · exact .refl s

theorem sameCall_answerQuery (s : State) (f : Frame) (id : Byte) (t : Tag) : SameCall s (s.answerQuery f id t) := by
  unfold State.answerQuery
  split
  · exact sameCall_sendUnicast s _ _
  · exact .refl s

theorem sameCall_takeAnswer (s : State) (f : Frame) (id : Byte) (bs : List RecordBody) : SameCall s (s.takeAnswer f id bs) := by
  unfold State.takeAnswer
  have hb : SameCall s (match s.bindings.query with
      | some q => if q.id = id ∧ q.target = f.hdr.src then s.answerBackground q bs else s
      | none => s) := by
    split
    · split
      · exact sameCall_answerBackground s _ _
      · exact .refl s
    · exact .refl s
  dsimp only
  split
  · split
    · exact sameCall_answerForeground s _ _
    · exact hb
  · exact hb

theorem sameCall_decideChange (s : State) (t : Tag) (sd : Side) (d : RecState) : SameCall s (s.decideChange t sd d).1 := by
  unfold State.decideChange
  split
  · exact .refl s
  · split
    · exact .refl s
    · exact sameCall_changeHome s _ _

theorem sameCall_decideRequest (s : State) (f : Frame) (id : Byte) (t : Tag) (sd : Side) (d : RecState) :
    SameCall s (s.decideRequest f id t sd d) := by
  unfold State.decideRequest
  dsimp only
  refine (sameCall_decideChange s t sd d).trans ?_
  refine SameCall.trans ?_ (sameCall_sendUnicast _ _ _)
  refine SameCall.trans ?_ (sameCall_setTraffic _ _)
  split
  · exact sameCall_raiseBeside _ _ _ _
  · exact .refl _

theorem sameCall_takeChangeReq (s : State) (f : Frame) (id : Byte) (t : Tag) (side desired : Byte) :
    SameCall s (s.takeChangeReq f id t side desired) := by
  unfold State.takeChangeReq
  split
  · split
    · split
      · exact sameCall_sendUnicast s _ _
      · exact sameCall_decideRequest s _ _ _ _ _
    · exact .refl s
  · exact .refl s

theorem sameCall_takeChangeReply (s : State) (f : Frame) (id o : Byte) (rev : Half) :
    SameCall s (s.takeChangeReply f id o rev) := by
  unfold State.takeChangeReply
  split
  · split
    · exact (sameCall_setTraffic s _).trans (sameCall_complete _ _ _ _)
    · exact .refl s
  · exact .refl s

/-! ## Timers, pins and the port -/

theorem sameCall_changeTimeout (s : State) (c : ChangeRequest) : SameCall s (s.changeTimeout c) := by
  unfold State.changeTimeout
  split
  · exact (sameCall_setTraffic s _).trans (sameCall_sendUnicast _ _ _)
  · exact (sameCall_setTraffic s _).trans (sameCall_complete _ _ _ _)

theorem sameCall_foregroundTimeout (s : State) (q : ForegroundQuery) : SameCall s (s.foregroundTimeout q) := by
  unfold State.foregroundTimeout
  split
  · exact (sameCall_setResolver s _).trans (sameCall_sendUnicast _ _ _)
  · exact (sameCall_setResolver s _).trans (sameCall_endResolution _ _)

theorem sameCall_backgroundExpiry (s : State) (q : BackgroundQuery) : SameCall s (s.backgroundExpiry q) := by
  unfold State.backgroundExpiry
  split
  · exact (sameCall_setBindings s _).trans (sameCall_sendUnicast _ _ _)
  · exact sameCall_backgroundTimeout s q

theorem sameCall_startTransmit (s : State) (e : LineEnd) : SameCall s (s.startTransmit e) := by
  unfold State.startTransmit
  dsimp only
  split
  · split
    · exact sameCall_setEnd s e rfl
    · rename_i x fs _ _
      have hx : SameCall s (s.setEnd e { s.lineEnd e with dirQ := fs, sending := some x }) := sameCall_setEnd s e rfl
      split
      · exact hx.trans (sameCall_burstContinue _)
      · exact hx
    · exact sameCall_setEnd s e rfl
  · exact .refl s

theorem sameCall_receiveInvalid (s : State) (e : LineEnd) : SameCall s (s.receiveInvalid e) := by
  unfold State.receiveInvalid
  split
  · exact sameCall_updEnd s e Iff.rfl
  all_goals exact .refl s

theorem sameCall_setSlot (s : State) (i : Nat) (x : HandleSlot) : SameCall s (s.setSlot i x) :=
  sameCall_setBindings s _

theorem sameCall_portReset (s : State) : SameCall s s.portReset := by
  unfold State.portReset
  refine SameCall.trans ?_ (sameCall_setPort _ _)
  split
  · unfold State.abandonCommand
    have hc : SameCall s s.clearForeground.clearChange := (sameCall_setResolver s _).trans (sameCall_setTraffic _ _)
    dsimp only
    split
    · exact hc.trans (sameCall_setSlot _ _ _)
    · exact hc
  · exact .refl s

/-- Changes of the cab-active input and of its debounced level (R60, R61). -/
theorem sameCall_cabInput (s : State) (active level : Bool) (timer : Timer) :
    SameCall s (s.setConsist { s.consist with cabInput := active, cabLevel := level, debounceT := timer }) :=
  { SameCall.refl s with }

/-! ## Commands that leave the roll call alone -/

theorem sameCall_cmdRecordOffer (s : State) (ps : List Byte) : SameCall s (s.cmdRecordOffer ps) := by
  unfold State.cmdRecordOffer
  split
  · exact sameCall_done s _
  · split
    · exact sameCall_done s _
    · split
      · exact sameCall_done s _
      · split
        · exact sameCall_done s _
        · refine (sameCall_makeRoom s).trans ?_
          dsimp only
          split
          · exact (sameCall_setDir _ _).trans ((sameCall_homeChanged _ _).trans (sameCall_gives _ _))
          · exact sameCall_done _ _

theorem sameCall_cmdRecordUpdate (s : State) (ps : List Byte) : SameCall s (s.cmdRecordUpdate ps) := by
  unfold State.cmdRecordUpdate
  split
  · exact sameCall_done s _
  · split
    · exact sameCall_done s _
    · split
      · exact sameCall_done s _
      · exact (sameCall_changeHome s _ _).trans (sameCall_gives _ _)

theorem sameCall_cmdRecordWithdraw (s : State) (ps : List Byte) : SameCall s (s.cmdRecordWithdraw ps) := by
  unfold State.cmdRecordWithdraw
  split
  · exact sameCall_done s _
  · split
    · exact sameCall_done s _
    · split
      · exact sameCall_done s _
      · exact (sameCall_setDir s _).trans ((sameCall_homeChanged _ _).trans (sameCall_done _ _))

theorem sameCall_cmdRequestState (s : State) (ps : List Byte) : SameCall s (s.cmdRequestState ps) := by
  unfold State.cmdRequestState
  split
  · exact sameCall_done s _
  · split
    · exact sameCall_done s _
    · split
      · exact sameCall_done s _
      · split
        · exact (sameCall_decideChange s _ _ _).trans (sameCall_complete _ _ _ _)
        · exact (sameCall_setTraffic s _).trans (sameCall_sendUnicast _ _ _)

theorem sameCall_cmdBind (s : State) (ps : List Byte) : SameCall s (s.cmdBind ps) := by
  unfold State.cmdBind
  split
  · exact sameCall_done s _
  · split
    · exact sameCall_done s _
    · exact (sameCall_setSlot s _ _).trans (sameCall_resolve _ _)

theorem sameCall_cmdUnbind (s : State) (ps : List Byte) : SameCall s (s.cmdUnbind ps) := by
  unfold State.cmdUnbind
  split
  · exact sameCall_done s _
  · split
    · exact sameCall_done s _
    · refine SameCall.trans ?_ (sameCall_done _ _)
      unfold State.release
      dsimp only
      split
      · exact ((sameCall_setDir s _).trans (sameCall_setSlot _ _ _)).trans
          ((sameCall_abandonBackground _).trans (sameCall_startBackground _))
      · exact (sameCall_setDir s _).trans (sameCall_setSlot _ _ _)

theorem sameCall_clearMark (s : State) (i : Nat) : SameCall s (s.clearMark i) := by
  unfold State.clearMark
  split
  · exact sameCall_setSlot s _ _
  · exact .refl s

theorem sameCall_cmdEventRead (s : State) (ps : List Byte) : SameCall s (s.cmdEventRead ps) := by
  unfold State.cmdEventRead
  split
  · exact sameCall_done s _
  · split
    · exact sameCall_done s _
    · refine SameCall.trans ?_ (sameCall_gives _ _)
      split
      · exact .refl s
      · exact sameCall_raise s _

theorem sameCall_cmdViewAck (s : State) (ps : List Byte) : SameCall s (s.cmdViewAck ps) := by
  unfold State.cmdViewAck
  split
  · exact sameCall_done s _
  · refine SameCall.trans ?_ (sameCall_gives _ _)
    split
    · exact sameCall_raise s _
    · exact .refl s

/-- The commands whose owner block works on the roll call, the roster or the line ends. -/
def Cmd.movesTrain : Cmd → Bool
  | .identify | .sleep | .partReset | .lineIsolate | .lineRestore | .lineUnbar | .rollCall => true
  | _ => false

/-- Every other command leaves the roll call, the roster and the joined ends alone. -/
theorem sameCall_command (s : State) {c : Cmd} (ps : List Byte) (h : Cmd.movesTrain c = false) : SameCall s (s.command c ps) := by
  cases c <;> try cases h
  case getInfo | lineStatus | consistRead | recordList =>
    simp only [State.command, State.cmdGetInfo, State.cmdLineStatus, State.cmdConsistRead, State.cmdRecordList]
    split
    · exact sameCall_gives s _
    · exact sameCall_done s _
  case recordOffer => exact sameCall_cmdRecordOffer s ps
  case recordUpdate => exact sameCall_cmdRecordUpdate s ps
  case recordWithdraw => exact sameCall_cmdRecordWithdraw s ps
  case requestState => exact sameCall_cmdRequestState s ps
  case lookup =>
    simp only [State.command, State.cmdLookup]
    split
    · exact sameCall_complete s _ _ _
    · exact sameCall_resolve s _
  case interestAdd =>
    simp only [State.command, State.cmdInterestAdd]
    split
    · exact sameCall_done s _
    · exact (sameCall_setDir s _).trans (sameCall_gives _ _)
  case interestClear =>
    simp only [State.command, State.cmdInterestClear]
    split
    · exact (sameCall_setDir s _).trans (sameCall_done _ _)
    · exact sameCall_done s _
  case interestAll =>
    simp only [State.command, State.cmdInterestAll]
    split
    · exact sameCall_done s _
    · exact (sameCall_setDir s _).trans (sameCall_done _ _)
  case bind => exact sameCall_cmdBind s ps
  case unbind => exact sameCall_cmdUnbind s ps
  case bindingGet =>
    simp only [State.command, State.cmdBindingGet]
    split
    · exact sameCall_done s _
    · split
      · exact sameCall_done s _
      · exact sameCall_complete s _ _ _
  case bindingScan =>
    simp only [State.command, State.cmdBindingScan]
    split
    · exact (SameCall.foldl sameCall_clearMark _ s).trans (sameCall_gives _ _)
    · exact sameCall_done s _
  case eventRead => exact sameCall_cmdEventRead s ps
  case viewAck => exact sameCall_cmdViewAck s ps
  case eventMask | dispositionSet =>
    simp only [State.command, State.cmdEventMask, State.cmdDispositionSet]
    split
    · exact sameCall_done s _
    · exact (sameCall_setAttn s _).trans (sameCall_done _ _)

end Sys2Proof.Machine.RollCallProofs
end

section
/-! Epochs, the lists of car entries that a ROLL or ROSTER holds, and the rosters built from them. -/

namespace Sys2Proof.Machine.RollCallProofs

/-! ## Epochs -/

theorem le_increaseEpoch (e : Epoch) : e ≤ increaseEpoch e := by
  unfold increaseEpoch
  split
  · exact BitVec.le_refl e
  · bv_omega

theorem le_raiseEpoch (e f : Epoch) : e ≤ raiseEpoch e f := by
  unfold raiseEpoch
  split
  · assumption
  · exact BitVec.le_refl e

/-- Settles O22, by the two boundaries of R29: saturation at FFFFFFFFh, and the larger of two epochs. -/
theorem epochArithmetic : Obligations.EpochArithmetic := by
  intro e f
  constructor
  · unfold increaseEpoch
    split
    · subst e; decide
    · bv_omega
  · unfold raiseEpoch
    split <;> bv_omega

/-! ## Entries -/

theorem identOk_iff (id : Ident) : identOk id = true ↔ id ≠ 0#32 ∧ id ≠ 0xFFFFFFFF#32 := by
  simp [identOk]

theorem lineEnd_ofCode_isSome : ∀ b : Byte, (LineEnd.ofCode b).isSome = true ↔ b ≤ 1#8 := by
  decide

theorem cabEnd_ofCode_isSome : ∀ b : Byte, (CabEnd.ofCode b).isSome = true ↔ b ≤ 2#8 := by
  decide

/-- An entry has good form exactly if its fields are in the ranges of R39. -/
theorem carEntry_ok_iff (c : CarEntry) :
    CarEntry.ok c = true ↔ c.ident ≠ 0#32 ∧ c.ident ≠ 0xFFFFFFFF#32 ∧ c.face ≤ 1#8 ∧ c.cab ≤ 2#8 := by
  simp only [CarEntry.ok, Bool.and_eq_true, identOk_iff, lineEnd_ofCode_isSome, cabEnd_ofCode_isSome, and_assoc]

theorem distinctIdents_iff (es : List CarEntry) : distinctIdents es = true ↔ (es.map CarEntry.ident).Nodup := by
  induction es with
  | nil => simp [distinctIdents]
  | cons c es ih => simp [distinctIdents, ih]

theorem entriesOk_iff (es : List CarEntry) : (es.all CarEntry.ok && distinctIdents es) = true ↔ EntriesOk es := by
  simp only [Bool.and_eq_true, List.all_eq_true, carEntry_ok_iff, distinctIdents_iff]

/-- A ROLL has good form exactly if it holds entries and they are good (R39). -/
theorem rollFormOk_iff (es : List CarEntry) : rollFormOk es = true ↔ es ≠ [] ∧ EntriesOk es := by
  rw [rollFormOk, Bool.and_assoc, Bool.and_eq_true, entriesOk_iff]
  simp

/-! ## Rosters -/

@[simp] theorem toRoster_ident (b : Bool) (c : CarEntry) : (CarEntry.toRoster b c).ident = c.ident := rfl

theorem toRoster_idents (b : Bool) (es : List CarEntry) :
    (es.map (CarEntry.toRoster b)).map RosterEntry.ident = es.map CarEntry.ident := by
  simp [Function.comp_def]

/-- A roster is built in the order of the entries or in the reverse of it (R43). -/
theorem buildRoster_cases {es : List CarEntry} (h : es ≠ []) :
    buildRoster es = es.map (CarEntry.toRoster false) ∨ buildRoster es = es.reverse.map (CarEntry.toRoster true) := by
  unfold buildRoster
  split
  · split
    · exact .inl rfl
    · exact .inr rfl
  · rename_i hn
    exact absurd (List.getLast?_eq_getLast_of_ne_nil h) (fun hl => hn _ _ (List.head?_eq_some_head h) hl)

theorem buildRoster_idents {es : List CarEntry} (h : es ≠ []) :
    ((buildRoster es).map RosterEntry.ident).Perm (es.map CarEntry.ident) := by
  rcases buildRoster_cases h with hb | hb <;> rw [hb, toRoster_idents]
  exact (List.reverse_perm es).map _

/-- A roster the part can adopt: 1 to 16 cars of different identities, its own among them (R39, R46). -/
structure GoodRoster (r : List RosterEntry) (own : Ident) : Prop where
  length : r.length ≤ Config.maxCars
  nodup : (r.map RosterEntry.ident).Nodup
  own : rosterIndex r own ≠ 0

theorem goodRoster_ownRoster (s : State) : GoodRoster s.ownRoster s.ownId :=
  ⟨by simp [State.ownRoster], by simp [State.ownRoster], by simp [State.ownRoster, rosterIndex]⟩

/-- The roster that a terminal builds from a ROLL it accepts and its own entry can be adopted (R39, R43). -/
theorem goodRoster_buildRoster {es : List CarEntry} {c : CarEntry} (hl : es.length < Config.maxCars)
    (hd : (es.map CarEntry.ident).Nodup) (hn : ∀ x ∈ es, x.ident ≠ c.ident) : GoodRoster (buildRoster (es ++ [c])) c.ident := by
  have hp := buildRoster_idents (es := es ++ [c]) (by simp)
  refine ⟨?_, hp.nodup_iff.2 ?_, rosterIndex_ne_zero.2 (hp.mem_iff.2 (by simp))⟩
  · have := hp.length_eq
    simp only [List.length_map, List.length_append, List.length_singleton] at this
    omega
  · rw [List.map_append, List.nodup_append]
    refine ⟨hd, by simp, fun a ha b hb => ?_⟩
    obtain ⟨x, hx, rfl⟩ := List.mem_map.1 ha
    simp only [List.map_cons, List.map_nil, List.mem_singleton] at hb
    exact hb ▸ hn x hx

/-- The entry that a car puts into the ROLL that travels the other way (R42). -/
def turned (c : CarEntry) : CarEntry :=
  { c with face := if c.face = 0#8 then 1#8 else 0#8 }

@[simp] theorem turned_ident (c : CarEntry) : (turned c).ident = c.ident := rfl

theorem toRoster_turned {c : CarEntry} (h : c.face ≤ 1#8) (b : Bool) : CarEntry.toRoster b (turned c) = CarEntry.toRoster (!b) c := by
  have hf : c.face = 0#8 ∨ c.face = 1#8 := by bv_omega
  rcases hf with hf | hf <;> cases b <;> simp [CarEntry.toRoster, turned, hf] <;> rfl

theorem buildRoster_of_lt {es : List CarEntry} {x y : CarEntry} (hx : es.head? = some x) (hy : es.getLast? = some y)
    (h : x.ident < y.ident) : buildRoster es = es.map (CarEntry.toRoster false) := by
  simp [buildRoster, hx, hy, h]

theorem buildRoster_of_not_lt {es : List CarEntry} {x y : CarEntry} (hx : es.head? = some x) (hy : es.getLast? = some y)
    (h : ¬x.ident < y.ident) : buildRoster es = es.reverse.map (CarEntry.toRoster true) := by
  simp [buildRoster, hx, hy, h]

/-- Settles O21: of the two ROLLs exactly one has the lower identity first, so one is read forwards and the other backwards (R43). -/
theorem bothBuildersReachOneRoster : Obligations.BothBuildersReachOneRoster := by
  intro es ⟨hok, hnd⟩ hlen
  change buildRoster (es.reverse.map turned) = buildRoster es
  have hturn : ∀ b, (es.map turned).map (CarEntry.toRoster b) = es.map (CarEntry.toRoster (!b)) := fun b => by
    rw [List.map_map]
    exact List.map_congr_left fun c hc => toRoster_turned (hok c hc).2.2.1 b
  obtain ⟨x, es, rfl⟩ : ∃ x r, es = x :: r := List.exists_cons_of_length_pos (by omega)
  obtain ⟨mid, y, rfl⟩ : ∃ m y, es = m ++ [y] := by
    refine ⟨es.dropLast, es.getLast ?_, (List.dropLast_append_getLast _).symm⟩
    rintro rfl; simp at hlen
  have hne : x.ident ≠ y.ident := by
    intro h; simp [h] at hnd
  have hx : (x :: (mid ++ [y])).head? = some x := rfl
  have hy : (x :: (mid ++ [y])).getLast? = some y := by rw [← List.cons_append, List.getLast?_concat]
  have hx' : ((x :: (mid ++ [y])).reverse.map turned).head? = some (turned y) := by simp
  have hy' : ((x :: (mid ++ [y])).reverse.map turned).getLast? = some (turned x) := by
    rw [List.getLast?_map, List.getLast?_reverse]; rfl
  by_cases hlt : x.ident < y.ident
  · have : ¬(turned y).ident < (turned x).ident := by simp only [turned_ident]; bv_omega
    rw [buildRoster_of_lt hx hy hlt, buildRoster_of_not_lt hx' hy' this, ← List.map_reverse, List.reverse_reverse]
    exact hturn true
  · have : (turned y).ident < (turned x).ident := by simp only [turned_ident]; bv_omega
    rw [buildRoster_of_not_lt hx hy hlt, buildRoster_of_lt hx' hy' this, List.map_reverse, List.map_reverse, List.map_reverse]
    exact congrArg List.reverse (hturn false)

end Sys2Proof.Machine.RollCallProofs
end

section
/-! The moves of the roll call: what a command can do to the epoch, the consist state, the roster and the joined ends, said once. -/

namespace Sys2Proof.Machine.RollCallProofs

/-- A run of moves from one state to another. `g` says whether the state at the start is one that the invariants of the part allow: then
each move comes with what they give for it, and without `g` it comes with what the command itself has checked. -/
inductive Evolves (g : Prop) : State → State → Prop
  /-- Work that leaves the roll call alone. -/
  | calm {s t : State} (h : SameCall s t) : Evolves g s t
  | trans {s t u : State} (h : Evolves g s t) (k : Evolves g t u) : Evolves g s u
  /-- E raised to a received epoch (R36, R39). -/
  | raised {s : State} (x : Epoch) (h : s.roll.epoch ≤ x) : Evolves g s (s.setRoll { s.roll with epoch := x })
  /-- Entry into ROLLING from FORMED with a joined end (R31). -/
  | entered {s : State} (h : g → s.roll.state = .formed ∧ s.ctrl.part = .ready ∧ ∃ e, s.joined e = true) :
      Evolves g s s.enterRolling
  /-- A ROLL originated in ROLLING or DEGRADED (R38). -/
  | originated {s : State} (e : LineEnd) (h : g → s.roll.state.unsettled = true) : Evolves g s (s.originate e)
  /-- The roll timer started again in ROLLING or DEGRADED (R50, R52). -/
  | restarted {s : State} (h : g → s.roll.state.unsettled = true) : Evolves g s (s.setRoll s.roll.restart)
  /-- A fast attempt below the third counted (R50). -/
  | tried {s : State} (h : s.roll.state = .rolling) (ha : s.roll.attempts + 1 < Config.fastAttempts) :
      Evolves g s (s.setRoll { s.roll with attempts := s.roll.attempts + 1 })
  /-- The fall to DEGRADED at the third (R51). -/
  | fell {s : State} (h : s.roll.state = .rolling) (ha : Config.fastAttempts ≤ s.roll.attempts + 1) :
      Evolves g s (s.setRoll { s.roll with attempts := s.roll.attempts + 1 }).enterDegraded
  /-- A roster adopted at an epoch not below E (R49). -/
  | adopted {s : State} {r : List RosterEntry} {x : Epoch} (f : Option (LineEnd × Frame)) (hx : s.roll.epoch ≤ x)
      (hr : GoodRoster r s.ownId) (hg : g → s.ctrl.part = .ready) : Evolves g s (s.adopt r x f)
  /-- A change of an end and the roll-call trigger that it is (R31). -/
  | triggered {s : State} (e : LineEnd) (f : LineEndSt → LineEndSt) (hg : g → s.ctrl.part = .ready) :
      Evolves g s (s.moveEnd e f).trigger
  /-- Entry into READY from DORMANT (R27). -/
  | woken {s : State} (h : s.ctrl.part = .dormant) : Evolves g s s.enterReady
  /-- Entry into READY by IDENTIFY (R24). -/
  | identified {s : State} (id : Ident) (cab : CabEnd) (h : s.ctrl.part = .unidentified) :
      Evolves g s (s.setCtrl { s.ctrl with identity := some id, cabCfg := cab }).enterReady
  /-- Entry into DORMANT with both ends out of use (R26). -/
  | slept {s : State} (h : s.ctrl.part = .ready) (ha : s.joined .a = false) (hb : s.joined .b = false) : Evolves g s s.enterDormant
  /-- One car's active cab end set, and the direction and conflict flag computed again (R63, R65, R66). -/
  | steered {s : State} (i : Nat) (c : CabEnd) : Evolves g s (s.setConsist (s.consist.setCab i c)).recomputeCabs

theorem Evolves.refl {g : Prop} (s : State) : Evolves g s s :=
  .calm (.refl s)

theorem Evolves.then_calm {g : Prop} {s t u : State} (h : Evolves g s t) (k : SameCall t u) : Evolves g s u :=
  .trans h (.calm k)

theorem SameCall.then_evolves {g : Prop} {s t u : State} (h : SameCall s t) (k : Evolves g t u) : Evolves g s u :=
  .trans (.calm h) k

section
variable {g : Prop}

/-! ## Line ends -/

theorem moveEnd_ctrl (s : State) (e : LineEnd) (f : LineEndSt → LineEndSt) : (s.moveEnd e f).ctrl = s.ctrl := by
  unfold State.moveEnd; dsimp only; split <;> simp

theorem moveEnd_roll (s : State) (e : LineEnd) (f : LineEndSt → LineEndSt) : (s.moveEnd e f).roll = s.roll := by
  unfold State.moveEnd; dsimp only; split <;> simp

theorem moveEnd_consist (s : State) (e : LineEnd) (f : LineEndSt → LineEndSt) : (s.moveEnd e f).consist = s.consist := by
  unfold State.moveEnd; dsimp only; split <;> simp

theorem moveEnd_lineEnd (s : State) (e e' : LineEnd) (f : LineEndSt → LineEndSt) :
    (s.moveEnd e f).lineEnd e' = if e' = e then f (s.lineEnd e) else s.lineEnd e' := by
  unfold State.moveEnd; dsimp only; split <;> simp [State.setEnd_lineEnd]

/-- A change of an end that is nothing but a change of state is a roll-call trigger if the end was joined before or is joined after. -/
theorem changeEnd_cases (s : State) (e : LineEnd) (f : LineEndSt → LineEndSt) :
    (((f (s.lineEnd e)).state = .locked ↔ (s.lineEnd e).state = .locked) ∧ s.changeEnd e f = s.moveEnd e f) ∨
      s.changeEnd e f = (s.moveEnd e f).trigger := by
  unfold State.changeEnd
  dsimp only
  split
  · rename_i h
    exact .inl ⟨by rw [h], rfl⟩
  · split
    · exact .inr rfl
    · rename_i h
      push Not at h
      exact .inl ⟨iff_of_false h.2 h.1, rfl⟩

theorem sameCall_moveEnd (s : State) (e : LineEnd) {f : LineEndSt → LineEndSt}
    (h : (f (s.lineEnd e)).state = .locked ↔ (s.lineEnd e).state = .locked) : SameCall s (s.moveEnd e f) := by
  refine ⟨moveEnd_roll s e f, moveEnd_ctrl s e f, by rw [moveEnd_consist], fun e' => ?_⟩
  rw [State.joined, State.joined, moveEnd_lineEnd]
  split
  · subst e'; simp [h]
  · rfl

theorem changeEnd_ctrl (s : State) (e : LineEnd) (f : LineEndSt → LineEndSt) : (s.changeEnd e f).ctrl = s.ctrl := by
  rcases changeEnd_cases s e f with ⟨-, h⟩ | h <;> rw [h]
  · exact moveEnd_ctrl s e f
  · rw [trigger_ctrl, moveEnd_ctrl]

theorem evolves_changeEnd {s : State} (e : LineEnd) (f : LineEndSt → LineEndSt) (hg : g → s.ctrl.part = .ready) :
    Evolves g s (s.changeEnd e f) := by
  rcases changeEnd_cases s e f with ⟨hj, h⟩ | h <;> rw [h]
  · exact .calm (sameCall_moveEnd s e hj)
  · exact .triggered e f hg

theorem evolves_trigger {s : State} (hg : g → s.ctrl.part = .ready) : Evolves g s s.trigger := by
  have h : s.moveEnd .a id = s := by simp [State.moveEnd, State.setEnd, State.lineEnd]
  have k := Evolves.triggered (g := g) .a id hg
  rwa [h] at k

theorem evolves_isolateEnd {s : State} (e : LineEnd) (hg : g → (s.lineEnd e).state ≠ .bypassed → s.ctrl.part = .ready) :
    Evolves g s (s.isolateEnd e) := by
  unfold State.isolateEnd
  split
  case h_1 => exact .calm (sameCall_updEnd s e Iff.rfl)
  case h_2 => exact .refl s
  all_goals
    rename_i h
    exact evolves_changeEnd e _ fun x => hg x (by simp [h])

theorem evolves_reportEndFault {s : State} (k : FaultKind) (e : LineEnd) (hg : g → s.ctrl.part = .ready) :
    Evolves g s (s.reportEndFault k e) := by
  unfold State.reportEndFault
  split
  · exact .refl s
  · exact .calm (sameCall_raise s _)
  · exact (evolves_isolateEnd e fun x _ => hg x).then_calm (sameCall_raiseBeside _ _ _ _)

theorem evolves_flapRise {s : State} (e : LineEnd) (hg : g → s.ctrl.part = .ready) : Evolves g s (s.flapRise e) := by
  unfold State.flapRise
  dsimp only
  have hf : SameCall s (s.updEnd e fun l => { l with flap := min ((s.lineEnd e).flap + 1) Config.flapMax }) :=
    sameCall_updEnd s e Iff.rfl
  split
  · exact hf.then_evolves (evolves_reportEndFault _ e fun x => by rw [hf.ctrl]; exact hg x)
  · exact .calm hf

theorem evolves_loseEnd {s : State} (e : LineEnd) (f : LineEndSt → LineEndSt) (hg : g → s.ctrl.part = .ready) :
    Evolves g s (s.loseEnd e f) := by
  unfold State.loseEnd
  have h := evolves_changeEnd e f hg
  dsimp only
  split
  · exact h.trans (evolves_flapRise e fun x => by rw [changeEnd_ctrl]; exact hg x)
  · exact h

theorem evolves_barEnd {s : State} (e : LineEnd) (hg : g → s.ctrl.part = .ready) : Evolves g s (s.barEnd e) := by
  unfold State.barEnd
  split
  · exact evolves_changeEnd e _ hg
  · exact .calm (sameCall_updEnd s e Iff.rfl)
  all_goals exact .refl s

/-! ## CALL and the roll timer -/

/-- What the invariants give for a part with a joined end: it is READY, and its consist is formed or being formed. -/
def Live (s : State) : Prop :=
  s.ctrl.part = .ready ∧ s.roll.state ≠ .unformed

theorem SameCall.live {s t : State} (h : SameCall s t) (hl : Live s) : Live t := by
  rw [Live, h.roll, h.ctrl]; exact hl

theorem evolves_raiseE (s : State) (x : Epoch) : Evolves g s (s.raiseE x) :=
  .raised _ (le_raiseEpoch _ _)

theorem evolves_enterRolling {s : State} {e : LineEnd} (hl : g → Live s) (hj : s.joined e = true) (hf : s.roll.state = .formed) :
    Evolves g s s.enterRolling :=
  .entered fun x => ⟨hf, (hl x).1, e, hj⟩

theorem evolves_callAtIntermediate {s : State} (e : LineEnd) (f : Frame) (hl : g → Live s) (hj : s.joined e = true) :
    Evolves g s (s.callAtIntermediate e f) := by
  unfold State.callAtIntermediate
  refine (evolves_raiseE s f.hdr.epoch).trans ?_
  have hc := sameCall_offerCtrl (s.raiseE f.hdr.epoch) e.other f
  dsimp only
  split
  · rename_i hst
    refine hc.then_evolves (evolves_enterRolling (e := e) (fun x => hc.live (hl x)) ?_ ?_)
    · rw [hc.joined]; exact (joined_congr (by simp [State.raiseE])).trans hj
    · rw [hc.roll]; exact hst
  · exact .calm hc
  · split
    · exact .calm hc
    · exact .refl _
  · exact .refl _

theorem evolves_callAtTerminal {s : State} (e : LineEnd) (f : Frame) (hl : g → Live s) (hj : s.joined e = true) :
    Evolves g s (s.callAtTerminal e f) := by
  unfold State.callAtTerminal
  refine (evolves_raiseE s f.hdr.epoch).trans ?_
  dsimp only
  split
  · rename_i hst
    have hje : (s.raiseE f.hdr.epoch).joined e = true := (joined_congr (by simp [State.raiseE])).trans hj
    have hlr : g → Live (s.raiseE f.hdr.epoch) := hl
    exact (evolves_enterRolling hlr hje hst).trans (.originated e fun _ => by rw [State.enterRolling_roll]; rfl)
  · rename_i hst
    exact .originated e fun _ => by rw [hst]; rfl
  · rename_i hst
    split
    · exact .originated e fun _ => by rw [hst]; rfl
    · exact .refl _
  · exact .refl _

theorem evolves_takeCall {s : State} (e : LineEnd) (f : Frame) (hl : g → Live s) (hj : s.joined e = true) :
    Evolves g s (s.takeCall e f) := by
  unfold State.takeCall
  split
  · exact evolves_callAtIntermediate e f hl hj
  · exact evolves_callAtTerminal e f hl hj
  · exact .refl s

theorem evolves_retryRoll {s : State} (h : s.roll.state.unsettled = true) : Evolves g s s.retryRoll := by
  unfold State.retryRoll
  split
  · exact .originated _ fun _ => h
  all_goals exact .restarted fun _ => h

theorem evolves_rollExpiry (s : State) : Evolves g s s.rollExpiry := by
  unfold State.rollExpiry
  split
  · exact .refl s
  · split
    · rename_i hst
      dsimp only
      split
      · rename_i ha
        exact .fell hst ha
      · rename_i ha
        exact (Evolves.tried hst (Nat.lt_of_not_le ha)).trans (evolves_retryRoll (by rw [State.setRoll_roll, hst]; rfl))
    · rename_i hst
      exact evolves_retryRoll (by rw [hst]; rfl)
    all_goals exact .refl s

/-! ## ROLL -/

theorem acceptRoll_ctrl (s : State) (x : Epoch) : (s.acceptRoll x).ctrl = s.ctrl := by
  unfold State.acceptRoll
  dsimp only
  split
  · rw [State.enterRolling_ctrl]; rfl
  · rfl

theorem sameEnds_acceptRoll (s : State) (x : Epoch) : SameEnds s (s.acceptRoll x) := by
  unfold State.acceptRoll
  have h : SameEnds s (s.setRoll { s.roll with epoch := x }) := .of_eq fun e => by simp
  dsimp only
  split
  · exact h.trans (sameEnds_enterRolling _)
  · exact h

/-- A ROLL accepted gives its epoch to E, and takes the part from FORMED into ROLLING (R39). -/
theorem acceptRoll_roll (s : State) (x : Epoch) :
    (s.acceptRoll x).roll =
      if s.roll.state = .formed then
        { s.roll with epoch := x, state := .rolling, attempts := 0, timer := .running Config.rollFastMs }
      else { s.roll with epoch := x } := by
  by_cases h : s.roll.state = .formed <;> simp [State.acceptRoll, h, State.enterRolling_roll]

theorem evolves_acceptRoll {s : State} {e : LineEnd} {x : Epoch} (hx : s.roll.epoch ≤ x) (hl : g → Live s)
    (hj : s.joined e = true) : Evolves g s (s.acceptRoll x) := by
  unfold State.acceptRoll
  refine (Evolves.raised x hx).trans ?_
  dsimp only
  split
  · exact evolves_enterRolling (e := e) hl ((joined_congr (by simp)).trans hj) ‹_›
  · exact .refl _

theorem acceptRoll_unsettled {s : State} {x : Epoch} (h : s.roll.state ≠ .unformed) :
    (s.acceptRoll x).roll.state.unsettled = true := by
  rw [acceptRoll_roll]
  cases hs : s.roll.state <;> simp_all [ConsistState.unsettled]

theorem evolves_completeRoll {s : State} (e : LineEnd) {es : List CarEntry} (hl : es.length < Config.maxCars)
    (hd : EntriesOk es) (hn : ∀ c ∈ es, c.ident ≠ s.ownId) (hg : g → s.ctrl.part = .ready) :
    Evolves g s (s.completeRoll e es) := by
  have hr : GoodRoster (buildRoster (es ++ [s.ownEntry e])) s.ownId := goodRoster_buildRoster hl hd.2 hn
  unfold State.completeRoll
  exact .adopted _ (BitVec.le_refl s.roll.epoch) hr hg

theorem evolves_takeRoll {s : State} (e : LineEnd) (f : Frame) (es : List CarEntry) (hl : g → Live s) (hj : s.joined e = true) :
    Evolves g s (s.takeRoll e f es) := by
  unfold State.takeRoll
  split
  · exact .refl s
  · rename_i hform
    have hok : EntriesOk es := by simp only [Bool.not_eq_true', Bool.not_eq_false, rollFormOk_iff] at hform; exact hform.2
    split
    · exact .refl s
    · rename_i hx
      refine (evolves_acceptRoll (e := e) (BitVec.not_lt.1 hx) hl hj).trans ?_
      have hready : g → (s.acceptRoll f.hdr.epoch).ctrl.part = .ready := fun x => by rw [acceptRoll_ctrl]; exact (hl x).1
      dsimp only
      split
      · exact evolves_reportEndFault _ e hready
      · rename_i hown
        have hn : ∀ c ∈ es, c.ident ≠ (s.acceptRoll f.hdr.epoch).ownId := by simpa using hown
        split
        · exact (evolves_barEnd e hready).then_calm (sameCall_reportFault _ _)
        · rename_i hlen
          split
          · unfold State.appendRoll
            refine (sameCall_offerCtrl _ _ _).then_evolves (.restarted fun x => ?_)
            rw [State.offerCtrl_roll]
            exact acceptRoll_unsettled (hl x).2
          all_goals exact evolves_completeRoll e (Nat.lt_of_not_le hlen) hok hn hready

/-! ## ROSTER and STEER -/

theorem evolves_takeRoster {s : State} (e : LineEnd) (f : Frame) {es : List CarEntry} (hlen : es.length ≤ Config.maxCars)
    (hg : g → s.ctrl.part = .ready) : Evolves g s (s.takeRoster e f es) := by
  unfold State.takeRoster
  dsimp only
  split
  · exact .refl s
  · rename_i hx
    split
    · exact evolves_trigger hg
    · rename_i hok
      split
      · split
        · exact .refl s
        · exact evolves_trigger hg
      · refine .adopted _ (BitVec.not_lt.1 hx) ?_ hg
        simp only [State.rosterOk, Bool.not_eq_true', Bool.not_eq_false, Bool.and_eq_true, decide_eq_true_eq] at hok
        obtain ⟨⟨⟨⟨⟨⟨-, hd⟩, hown⟩, -⟩, -⟩, -⟩, -⟩ := hok
        exact ⟨by simpa using hlen, by rw [toRoster_idents]; exact (distinctIdents_iff es).1 hd, hown⟩

theorem evolves_recomputeDirection (s : State) (i : Nat) (c : CabEnd) :
    Evolves g s (s.setConsist (s.consist.setCab i c)).recomputeDirection := by
  have h := Evolves.steered (g := g) (s := s) i c
  unfold State.recomputeDirection
  dsimp only
  split
  · exact h
  · exact h.then_calm ((sameCall_stepView _).trans (sameCall_of_rebinds (State.rebinds_reResolveAll _)))

theorem evolves_takeSteer (s : State) (e : LineEnd) (f : Frame) (cab : Byte) : Evolves g s (s.takeSteer e f cab) := by
  unfold State.takeSteer
  split
  · have h := evolves_recomputeDirection (g := g) s f.hdr.srcIdx.toNat ((CabEnd.ofCode cab).getD .none)
    dsimp only
    split
    · exact h.then_calm (sameCall_offerCtrl _ _ _)
    · exact h
  · exact .refl s

theorem evolves_ownCabChanged (s : State) : Evolves g s s.ownCabChanged := by
  unfold State.ownCabChanged
  split
  · exact (evolves_recomputeDirection s _ _).then_calm (sameCall_sendSteer _)
  all_goals exact .refl s

/-! ## Reception -/

/-- What the invariants give for a command at a line end: a part with an end that is not bypassed is READY, and its consist is not
unformed. -/
def EndsLive (s : State) : Prop :=
  ∀ e, (s.lineEnd e).state ≠ .bypassed → Live s

theorem endsLive_of_inv {s : State} (hl : s.LineInv) (hr : s.RollInv) : EndsLive s := by
  intro e he
  obtain ⟨-, -, -, hb, -⟩ := hl
  obtain ⟨-, -, hu, -⟩ := hr
  have hp : s.ctrl.part = .ready := by
    by_contra hn
    cases e
    · exact he (hb hn).1
    · exact he (hb hn).2.1
  exact ⟨hp, fun h => by rw [hu.1 h] at hp; cases hp⟩

theorem evolves_receive {s : State} (e : LineEnd) {hand : State → State} (hl : g → EndsLive s)
    (hh : ∀ t : State, (g → Live t) → t.joined e = true → Evolves g t (hand t)) : Evolves g s (s.receive e hand) := by
  have hready : (s.lineEnd e).state ≠ .bypassed → g → Live s := fun h x => hl x e h
  unfold State.receive State.countLock
  split
  · rename_i h
    split
    · exact evolves_changeEnd e _ fun x => (hready (by simp [h]) x).1
    · exact .calm (sameCall_updEnd s e Iff.rfl)
  · rename_i h
    have hu : SameCall s (s.updEnd e LineEndSt.heard) := sameCall_updEnd s e Iff.rfl
    exact hu.then_evolves (hh _ (fun x => hu.live (hready (by simp [h]) x)) (by rw [hu.joined, State.joined, h]; rfl))
  · exact .calm (sameCall_updEnd s e Iff.rfl)
  all_goals exact .refl s

theorem evolves_receiveBeacon {s : State} (e : LineEnd) (n : Neighbour) (hl : g → EndsLive s) :
    Evolves g s (s.receiveBeacon e n) := by
  have hready : (s.lineEnd e).state ≠ .bypassed → g → s.ctrl.part = .ready := fun h x => (hl x e h).1
  unfold State.receiveBeacon State.countLock
  split
  · rename_i h
    have hu : SameCall s (s.updEnd e fun l => l.beaconed n) := sameCall_updEnd s e Iff.rfl
    refine hu.then_evolves ?_
    split
    · exact evolves_changeEnd e _ fun x => by rw [hu.ctrl]; exact hready (by simp [h]) x
    · exact .calm (sameCall_updEnd _ e Iff.rfl)
  · rename_i h
    have hc := evolves_changeEnd (g := g) e (LineEndSt.takeBeacon n) (hready (by simp [h]))
    dsimp only
    split
    · exact hc.trans (evolves_trigger fun x => by rw [changeEnd_ctrl]; exact hready (by simp [h]) x)
    · exact hc
  · rename_i h
    exact evolves_changeEnd e _ (hready (by simp [h]))
  all_goals exact .refl s

/-- Any frame received is a run of moves. -/
theorem evolves_receiveFrame {s : State} (e : LineEnd) (f : Frame) (hl : g → EndsLive s) : Evolves g s (s.receiveFrame e f) := by
  unfold State.receiveFrame
  split
  · rename_i hv
    split
    · exact evolves_receiveBeacon e _ hl
    · exact evolves_receive e hl fun t ht hj => evolves_takeCall e f ht hj
    · exact evolves_receive e hl fun t ht hj => evolves_takeRoll e f _ ht hj
    · rename_i es hp
      refine evolves_receive e hl fun t ht _ => evolves_takeRoster e f ?_ fun x => (ht x).1
      simp only [Frame.valid, hp, Payload.valid, Bool.and_eq_true, decide_eq_true_eq] at hv
      exact hv.2
    · exact evolves_receive e hl fun t _ _ => evolves_takeSteer t e f _
    · exact evolves_receive e hl fun t _ _ => .calm (sameCall_takeBroadcast t e f fun s => sameCall_takePublished s _ _)
    · exact evolves_receive e hl fun t _ _ => .calm (sameCall_takeBroadcast t e f fun s => sameCall_takeWithdrawn s _ _ _)
    · exact evolves_receive e hl fun t _ _ => .calm (sameCall_takeUnicast t e f fun s => sameCall_answerQuery s f _ _)
    · exact evolves_receive e hl fun t _ _ => .calm (sameCall_takeUnicast t e f fun s => sameCall_takeAnswer s f _ _)
    · exact evolves_receive e hl fun t _ _ => .calm (sameCall_takeUnicast t e f fun s => sameCall_takeChangeReq s f _ _ _ _)
    · exact evolves_receive e hl fun t _ _ => .calm (sameCall_takeUnicast t e f fun s => sameCall_takeChangeReply s f _ _ _)
  · exact .calm (sameCall_receiveInvalid s e)

/-! ## Commands of the host -/

/-- The state that power-on and PART_RESET leave, but for the port (R174). -/
def IsReset (t : State) : Prop :=
  ∃ (u : State) (c : Cause) (p : CarPort), t = (u.resetBlocks c).setPort p

/-- What the invariants give where a command of the host is carried out: the part is READY, or its ends are at rest. -/
def Seated (s : State) : Prop :=
  s.ctrl.part = .ready ∨
    (s.ctrl.part ≠ .dormant ∧ ∀ e, (s.lineEnd e).state = .bypassed ∧ (s.lineEnd e).barFlag = false)

theorem Seated.ready {s : State} {e : LineEnd} (h : Seated s)
    (hn : ¬((s.lineEnd e).state = .bypassed ∧ (s.lineEnd e).barFlag = false)) : s.ctrl.part = .ready :=
  h.resolve_right fun k => hn (k.2 e)

theorem evolves_restoreEnd {s : State} (e : LineEnd) (hs : g → Seated s) : Evolves g s (s.restoreEnd e) := by
  unfold State.restoreEnd
  split
  · rename_i h
    exact evolves_changeEnd e _ fun x => (hs x).ready (e := e) (by simp [h])
  all_goals exact .calm (sameCall_updEnd s e Iff.rfl)

theorem evolves_cmdIdentify (s : State) (ps : List Byte) : Evolves g s (s.cmdIdentify ps) := by
  unfold State.cmdIdentify
  split
  · exact .calm (sameCall_done s _)
  · split
    · exact .calm (sameCall_done s _)
    · exact .calm (sameCall_done s _)
    · exact (Evolves.identified _ _ ‹_›).then_calm (sameCall_done _ _)

theorem maySleep_not_locked {x : EndState} (h : x.maySleep = true) : x ≠ .locked := by
  rintro rfl; cases h

theorem evolves_cmdSleep (s : State) (ps : List Byte) : Evolves g s (s.cmdSleep ps) := by
  unfold State.cmdSleep
  split
  · exact .calm (sameCall_done s _)
  · split
    · rename_i h
      obtain ⟨hp, ha, hb⟩ := h
      refine (Evolves.slept hp ?_ ?_).then_calm (sameCall_done _ _)
      · exact decide_eq_false (maySleep_not_locked ha)
      · exact decide_eq_false (maySleep_not_locked hb)
    · exact .calm (sameCall_done s _)

theorem evolves_cmdLineIsolate {s : State} (ps : List Byte) (hs : g → Seated s) : Evolves g s (s.cmdLineIsolate ps) := by
  unfold State.cmdLineIsolate
  split
  · exact .calm (sameCall_done s _)
  · rename_i e _
    exact (evolves_isolateEnd e fun x h => (hs x).ready (e := e) (by simp [h])).then_calm (sameCall_done _ _)

theorem evolves_cmdLineUnbar {s : State} (ps : List Byte) (hs : g → Seated s) : Evolves g s (s.cmdLineUnbar ps) := by
  unfold State.cmdLineUnbar
  split
  · exact .calm (sameCall_done s _)
  · rename_i e _
    split
    · rename_i h
      exact (Evolves.triggered e _ fun x => (hs x).ready (e := e) (by simp [h])).then_calm (sameCall_done _ _)
    · exact .calm (sameCall_done s _)

theorem evolves_cmdRollCall {s : State} (ps : List Byte) (hs : g → Seated s) : Evolves g s (s.cmdRollCall ps) := by
  unfold State.cmdRollCall
  split
  · exact .calm (sameCall_done s _)
  · split
    · exact .calm (sameCall_done s _)
    all_goals
      rename_i h
      refine (evolves_trigger fun x => ?_).then_calm (sameCall_done _ _)
      rcases hs x with hr | ⟨hd, -⟩
      · exact hr
      · simp_all

/-- A command carried out by its owner is a run of moves, or PART_RESET. -/
theorem evolves_command {s : State} (c : Cmd) (ps : List Byte) (hs : g → Seated s) :
    Evolves g s (s.command c ps) ∨ IsReset (s.command c ps) := by
  by_cases hc : Cmd.movesTrain c = false
  · exact .inl (.calm (sameCall_command s ps hc))
  · cases c <;> try exact absurd rfl hc
    case identify => exact .inl (evolves_cmdIdentify s ps)
    case sleep => exact .inl (evolves_cmdSleep s ps)
    case partReset =>
      simp only [State.command, State.cmdPartReset]
      split
      · exact .inr ⟨_, .partReset, _, rfl⟩
      · exact .inl (.calm (sameCall_done s _))
    case lineIsolate => exact .inl (evolves_cmdLineIsolate ps hs)
    case lineRestore =>
      simp only [State.command, State.cmdLineRestore]
      split
      · exact .inl (.calm (sameCall_done s _))
      · exact .inl ((evolves_restoreEnd _ hs).then_calm (sameCall_done _ _))
    case lineUnbar => exact .inl (evolves_cmdLineUnbar ps hs)
    case rollCall => exact .inl (evolves_cmdRollCall ps hs)

theorem enterReady_ctrl (s : State) : s.enterReady.ctrl = { s.ctrl with part := .ready, bypass := false } := by
  rw [State.enterReady, trigger_ctrl]; rfl

theorem evolves_wake {s : State} (c : Cause) (h : s.ctrl.part = .dormant) : Evolves g s (s.wake c) :=
  (Evolves.woken h).then_calm (sameCall_raiseBeside _ _ _ _)

theorem wake_ready (s : State) (c : Cause) : (s.wake c).ctrl.part = .ready := by
  rw [State.wake, (sameCall_raiseBeside _ _ _ _).ctrl, enterReady_ctrl]

/-- A block taken wakes a DORMANT part, and leaves every other part as it is but for the port (R178). -/
theorem evolves_takeBlock {s : State} (c : InFlight) (hs : g → s.ctrl.part ≠ .ready → ∀ e, (s.lineEnd e).state = .bypassed ∧
    (s.lineEnd e).barFlag = false) : Evolves g s (s.takeBlock c) ∧ (g → Seated (s.takeBlock c)) := by
  unfold State.takeBlock
  dsimp only
  split
  · rename_i h
    exact ⟨(sameCall_setPort s _).then_evolves (evolves_wake _ h), fun _ => .inl (wake_ready _ _)⟩
  · rename_i h
    exact ⟨.calm (sameCall_setPort s _), fun _ => .inl h⟩
  · rename_i h
    have hu : s.ctrl.part = .unidentified := h
    refine ⟨.calm (sameCall_setPort s _), fun x => .inr ⟨by simp [hu], fun e => ?_⟩⟩
    rw [State.setPort_lineEnd]
    exact hs x (by simp [hu]) e

theorem evolves_judgeBlock {s : State} (b : BlockCheck) (hs : g → Seated s) :
    Evolves g s (s.judgeBlock b) ∨ IsReset (s.judgeBlock b) := by
  cases b
  case command c tag ps => exact evolves_command c ps hs
  all_goals exact .inl (.calm (sameCall_done s _))

theorem evolves_writeTransaction {s : State} (bytes : List Byte) (hs : g → s.ctrl.part ≠ .ready → ∀ e,
    (s.lineEnd e).state = .bypassed ∧ (s.lineEnd e).barFlag = false) :
    Evolves g s (s.writeTransaction bytes) ∨ IsReset (s.writeTransaction bytes) := by
  unfold State.writeTransaction
  split
  · exact .inl (.refl s)
  · have hf : SameCall s (s.fillBuffer bytes) := sameCall_setPort s _
    have ht (b : BlockCheck) : Evolves g s (((s.fillBuffer bytes).takeBlock b.inFlight).judgeBlock b) ∨
        IsReset (((s.fillBuffer bytes).takeBlock b.inFlight).judgeBlock b) := by
      have hk := evolves_takeBlock (g := g) (s := s.fillBuffer bytes) b.inFlight fun x hp e => by
        rw [State.fillBuffer, State.setPort_lineEnd]; exact hs x hp e
      exact (evolves_judgeBlock b hk.2).imp_left fun h => hf.then_evolves (hk.1.trans h)
    unfold State.releaseSelect
    split
    · exact .inl (.calm (hf.trans (sameCall_setPort _ _)))
    · split
      · exact .inl (.calm (hf.trans (sameCall_setPort _ _)))
      · exact ht _
      · exact ht _

/-! ## Every command -/

theorem evolves_contactClosed {s : State} (e : LineEnd) (hl : g → EndsLive s) : Evolves g s (s.contactClosed e) := by
  unfold State.contactClosed
  have hu : SameCall s (s.updEnd e fun l => { l with contact := true }) := sameCall_updEnd s e Iff.rfl
  dsimp only
  split
  · rename_i h
    exact hu.then_evolves (evolves_changeEnd e _ fun x => by rw [hu.ctrl]; exact (hl x e (by simp [h])).1)
  · split
    · rename_i hd
      exact hu.then_evolves (evolves_wake _ (by rw [hu.ctrl]; exact hd.1))
    · exact .calm hu
  all_goals exact .calm hu

theorem evolves_contactOpened {s : State} (e : LineEnd) (hl : g → EndsLive s) : Evolves g s (s.contactOpened e) := by
  unfold State.contactOpened
  have hu : SameCall s (s.updEnd e fun l => { l with contact := false }) := sameCall_updEnd s e Iff.rfl
  dsimp only
  split
  case h_1 h =>
    exact hu.then_evolves (evolves_changeEnd e _ fun x => by rw [hu.ctrl]; exact (hl x e (by simp [h])).1)
  case h_2 h | h_3 h | h_4 h =>
    exact hu.then_evolves (evolves_loseEnd e _ fun x => by rw [hu.ctrl]; exact (hl x e (by simp [h])).1)
  all_goals exact .calm hu

/-- What the line end invariants give for the timers of an end: one whose release, settle or loss timer runs belongs to a READY part. -/
theorem ready_of_timer {s : State} (hl : s.LineInv) (e : LineEnd) (h : (s.lineEnd e).releaseT.isRunning = true ∨
    (s.lineEnd e).settleT.isRunning = true ∨ (s.lineEnd e).lossT.isRunning = true) : s.ctrl.part = .ready := by
  obtain ⟨ha, hb, -, hn, -⟩ := hl
  by_contra hp
  obtain ⟨sa, sb, ra, rb, -⟩ := hn hp
  obtain ⟨-, -, -, -, -, -, -, -, -, sta, lta, -⟩ := ha
  obtain ⟨-, -, -, -, -, -, -, -, -, stb, ltb, -⟩ := hb
  cases e <;> simp_all [State.lineEnd, Timer.isRunning]

theorem rest_of_lineInv {s : State} (hl : s.LineInv) (hp : s.ctrl.part ≠ .ready) (e : LineEnd) :
    (s.lineEnd e).state = .bypassed ∧ (s.lineEnd e).barFlag = false := by
  obtain ⟨ha, hb, -, hn, -⟩ := hl
  obtain ⟨sa, sb, -⟩ := hn hp
  obtain ⟨-, -, -, -, -, -, -, fa, -⟩ := ha
  obtain ⟨-, -, -, -, -, -, -, fb, -⟩ := hb
  cases e
  · exact ⟨sa, (fa (by simp [sa, EndState.framing])).2.2.1⟩
  · exact ⟨sb, (fb (by simp [sb, EndState.framing])).2.2.1⟩

theorem evolves_debounce (s : State) :
    Evolves g s (if s.consist.debounceT.isRunning then
      let t := s.setConsist { s.consist with cabLevel := s.consist.cabInput, debounceT := .stopped }
      if t.ownCab = s.ownCab then t else t.ownCabChanged
     else s) := by
  have hc := sameCall_cabInput s s.consist.cabInput s.consist.cabInput .stopped
  split
  · dsimp only
    split
    · exact .calm hc
    · exact hc.then_evolves (evolves_ownCabChanged _)
  · exact .refl s

/-- Every command answers a state that a run of moves leads to, or the state of a reset. -/
theorem exec_evolves (c : Instr) (s : State) (hg : g → s.LineInv ∧ s.RollInv) :
    ∃ t, exec c s = .next t ∧ (Evolves g s t ∨ IsReset t) := by
  have hl : g → EndsLive s := fun x => endsLive_of_inv (hg x).1 (hg x).2
  have hw (bytes : List Byte) := evolves_writeTransaction (g := g) (s := s) bytes fun x => rest_of_lineInv (hg x).1
  cases c
  case powerOn => exact ⟨_, rfl, .inr ⟨s, .powerOn, _, rfl⟩⟩
  case portReset => exact ⟨_, rfl, .inl (.calm (sameCall_portReset s))⟩
  case portResetRelease => exact ⟨_, rfl, .inl (.calm (sameCall_setPort s _))⟩
  case contactClose e =>
    refine ⟨_, rfl, .inl ?_⟩
    split
    · exact .refl s
    · exact evolves_contactClosed e hl
  case contactOpen e =>
    refine ⟨_, rfl, .inl ?_⟩
    split
    · exact evolves_contactOpened e hl
    · exact .refl s
  case cabInputChange a =>
    refine ⟨_, rfl, .inl ?_⟩
    split
    · exact .refl s
    · exact .calm (sameCall_cabInput s _ _ _)
  case debounceTimerExpiry => exact ⟨_, rfl, .inl (evolves_debounce s)⟩
  case releaseTimerExpiry e =>
    refine ⟨_, rfl, .inl ?_⟩
    split
    · exact evolves_changeEnd e _ fun x => ready_of_timer (hg x).1 e (.inl ‹_›)
    · exact .refl s
  case settleTimerExpiry e =>
    refine ⟨_, rfl, .inl ?_⟩
    split
    · exact evolves_changeEnd e _ fun x => ready_of_timer (hg x).1 e (.inr (.inl ‹_›))
    · exact .refl s
  case lossTimerExpiry e =>
    refine ⟨_, rfl, .inl ?_⟩
    split
    · exact evolves_loseEnd e _ fun x => ready_of_timer (hg x).1 e (.inr (.inr ‹_›))
    · exact .refl s
  case beaconTimerExpiry e =>
    refine ⟨_, rfl, .inl ?_⟩
    split
    · refine .calm (sameCall_updEnd s e ?_)
      rcases (s.lineEnd e).offerBeacon_cases with ⟨-, -, -, h⟩ | h <;> rw [h]
    · exact .refl s
  case leakTimerExpiry e =>
    refine ⟨_, rfl, .inl ?_⟩
    split
    · exact .calm (sameCall_updEnd s e Iff.rfl)
    · exact .refl s
  case rollTimerExpiry => exact ⟨_, rfl, .inl (evolves_rollExpiry s)⟩
  case refreshWindowExpiry =>
    refine ⟨_, rfl, .inl ?_⟩
    split
    · exact .calm (sameCall_endRefresh s)
    · exact .refl s
  case changeRequestTimerExpiry =>
    refine ⟨_, rfl, .inl ?_⟩
    split
    · split
      · exact .calm (sameCall_changeTimeout s _)
      · exact .refl s
    · exact .refl s
  case queryTimerExpiry =>
    refine ⟨_, rfl, .inl ?_⟩
    split
    · split
      · exact .calm (sameCall_foregroundTimeout s _)
      · exact .refl s
    · exact .refl s
  case backgroundQueryTimerExpiry =>
    refine ⟨_, rfl, .inl ?_⟩
    split
    · split
      · exact .calm (sameCall_backgroundExpiry s _)
      · exact .refl s
    · exact .refl s
  case frameTransmitStart e => exact ⟨_, rfl, .inl (.calm (sameCall_startTransmit s e))⟩
  case invalidFrame e => exact ⟨_, rfl, .inl (.calm (sameCall_receiveInvalid s e))⟩
  case beacon | call | roll | roster | steer | publish | withdraw | query | answer | changeReq | changeReply =>
    exact ⟨_, rfl, .inl (evolves_receiveFrame _ _ hl)⟩
  all_goals exact ⟨_, rfl, hw _⟩

end

end Sys2Proof.Machine.RollCallProofs
end

section
/-! The invariants of the roll call and of the roster, and the epoch: each kept by every move, and so by every step. -/

namespace Sys2Proof.Machine.RollCallProofs

/-! ## The epoch -/

theorem originate_epoch_le (s : State) (e : LineEnd) : s.roll.epoch ≤ (s.originate e).roll.epoch := by
  rw [originate_roll]
  exact le_increaseEpoch _

theorem trigger_epoch_le (s : State) : s.roll.epoch ≤ s.trigger.roll.epoch := by
  rcases trigger_cases s with ⟨-, -, h⟩ | ⟨e, -, -, h⟩ | ⟨-, -, h⟩ <;> rw [h]
  · rw [State.adopt_roll]; exact le_increaseEpoch _
  · rw [originate_roll, startRolling_roll]; exact le_increaseEpoch _
  · rw [sendCalls_roll, startRolling_roll]; exact BitVec.le_refl _

theorem enterReady_epoch_le (s : State) : s.roll.epoch ≤ s.enterReady.roll.epoch :=
  trigger_epoch_le ((s.setCtrl { s.ctrl with part := .ready, bypass := false }).updEnds LineEndSt.released)

/-- The fall to DEGRADED is work of the other blocks behind a change of the roll call and two events (R51). -/
theorem enterDegraded_roll (s : State) :
    s.enterDegraded.roll = { s.roll with state := .degraded, timer := .running Config.rollSlowMs } := by
  rw [State.enterDegraded, (serves_reportUnsettled _).train.roll, State.raise_roll, State.reportFault_roll]
  rfl

theorem enterDegraded_consist (s : State) : s.enterDegraded.consist = s.consist := by
  rw [State.enterDegraded, (serves_reportUnsettled _).train.consist, State.raise_consist, reportFault_consist]
  rfl

theorem enterDegraded_ctrl (s : State) : s.enterDegraded.ctrl = s.ctrl := by
  rw [State.enterDegraded, (serves_reportUnsettled _).train.settings.1, State.raise_ctrl, State.reportFault_ctrl]
  rfl

theorem enterDegraded_joined (s : State) (e : LineEnd) : s.enterDegraded.joined e = s.joined e := by
  rw [State.enterDegraded, (serves_reportUnsettled _).sameEnds.joined]
  exact joined_congr (by rw [State.raise_lineEnd, reportFault_lineEnd, State.setRoll_lineEnd])

/-- No move lowers E. -/
theorem Evolves.epoch_le {g : Prop} {s t : State} (h : Evolves g s t) : s.roll.epoch ≤ t.roll.epoch := by
  induction h with
  | calm h => rw [h.roll]; exact BitVec.le_refl _
  | trans _ _ ih ik => exact BitVec.le_trans ih ik
  | raised x h => exact h
  | entered h => rw [State.enterRolling_roll]; exact BitVec.le_refl _
  | originated e h => exact originate_epoch_le _ e
  | restarted h => rw [State.setRoll_roll, restart_fields]; exact BitVec.le_refl _
  | tried h ha => exact BitVec.le_refl _
  | fell h ha => rw [enterDegraded_roll]; exact BitVec.le_refl _
  | adopted f hx hr hg => rw [State.adopt_roll]; exact hx
  | @triggered s e f hg =>
    have h := trigger_epoch_le (s.moveEnd e f)
    rwa [moveEnd_roll] at h
  | @woken s h => exact enterReady_epoch_le s
  | @identified s id cab h => exact enterReady_epoch_le (s.setCtrl { s.ctrl with identity := some id, cabCfg := cab })
  | slept h ha hb => exact BitVec.le_refl _
  | steered i c => rw [State.recomputeCabs_roll]; exact BitVec.le_refl _

/-- Settles O11: a run of moves never lowers E, and a reset leaves the part UNIDENTIFIED with E 0. -/
theorem epochFallsOnlyAtAReset : Obligations.EpochFallsOnlyAtAReset := by
  intro c s
  obtain ⟨t, ht, h⟩ := exec_evolves (g := False) c s False.elim
  refine ⟨t, ht, h.imp Evolves.epoch_le ?_⟩
  rintro ⟨u, c, p, rfl⟩
  exact ⟨rfl, rfl⟩

/-! ## The roll call -/

theorem someJoined_iff {s : State} : s.someJoined ↔ ∃ e, s.joined e = true := by
  constructor
  · rintro (h | h)
    · exact ⟨.a, decide_eq_true h⟩
    · exact ⟨.b, decide_eq_true h⟩
  · rintro ⟨e, he⟩
    cases e
    · exact .inl (of_decide_eq_true he)
    · exact .inr (of_decide_eq_true he)

theorem someJoined_congr {s t : State} (h : ∀ e, t.joined e = s.joined e) : t.someJoined ↔ s.someJoined := by
  simp only [someJoined_iff, h]

/-- The invariants of the roll call, and that a part with a joined end is READY. -/
structure CallInv (s : State) : Prop where
  roll : s.RollInv
  ready : s.someJoined → s.ctrl.part = .ready

/-- The epochs in order, which is all of the invariants that a roll-call trigger rests on. -/
structure EpochsOk (s : State) : Prop where
  ea : s.consist.ea ≤ s.roll.epoch
  lastOrig : s.roll.lastOrig ≤ s.roll.epoch

theorem CallInv.epochs {s : State} (h : CallInv s) : EpochsOk s :=
  ⟨h.roll.1, h.roll.2.1⟩

theorem CallInv.unidentified {s : State} (h : CallInv s) (hu : s.roll.state = .unformed) : s.ctrl.part = .unidentified := by
  obtain ⟨-, -, hi, -⟩ := h.roll
  exact hi.1 hu

/-- In FORMED, all there is to the invariant is the epochs, an identified part, and a roll call at rest. -/
theorem rollInv_of_formed {s : State} (he : EpochsOk s) (hs : s.roll.state = .formed) (hp : s.ctrl.part ≠ .unidentified)
    (ht : s.roll.timer = .stopped) (ha : s.roll.attempts = 0) : s.RollInv :=
  ⟨he.ea, he.lastOrig, by simp [hs, hp], fun _ => ⟨ht, ha⟩, by simp [hs], by simp [hs]⟩

theorem rollInv_of_rolling {s : State} (he : EpochsOk s) (hs : s.roll.state = .rolling)
    (ht : s.roll.timer = .running Config.rollFastMs) (ha : s.roll.attempts < Config.fastAttempts) (hp : s.ctrl.part = .ready)
    (hj : s.someJoined) : s.RollInv :=
  ⟨he.ea, he.lastOrig, by simp [hs, hp], by simp [hs], fun _ => ⟨ht, ha, hp, hj⟩, by simp [hs]⟩

theorem rollInv_of_degraded {s : State} (he : EpochsOk s) (hs : s.roll.state = .degraded)
    (ht : s.roll.timer = .running Config.rollSlowMs) (ha : s.roll.attempts = Config.fastAttempts) (hp : s.ctrl.part = .ready)
    (hj : s.someJoined) : s.RollInv :=
  ⟨he.ea, he.lastOrig, by simp [hs, hp], by simp [hs], by simp [hs], fun _ => ⟨ht, ha, hp, hj⟩⟩

/-- In ROLLING and DEGRADED the part is READY with a joined end, and timer and attempt count are those of the state. -/
theorem CallInv.of_unsettled {s : State} (h : CallInv s) (hu : s.roll.state.unsettled = true) :
    s.ctrl.part = .ready ∧ s.someJoined ∧
      (s.roll.state = .rolling ∧ s.roll.timer = .running Config.rollFastMs ∧ s.roll.attempts < Config.fastAttempts ∨
        s.roll.state = .degraded ∧ s.roll.timer = .running Config.rollSlowMs ∧ s.roll.attempts = Config.fastAttempts) := by
  obtain ⟨-, -, -, -, hr, hd⟩ := h.roll
  cases hs : s.roll.state
  case rolling =>
    obtain ⟨ht, ha, hp, hj⟩ := hr hs
    exact ⟨hp, hj, .inl ⟨rfl, ht, ha⟩⟩
  case degraded =>
    obtain ⟨ht, ha, hp, hj⟩ := hd hs
    exact ⟨hp, hj, .inr ⟨rfl, ht, ha⟩⟩
  all_goals rw [hs] at hu; cases hu

theorem epochsOk_setRoll {s : State} (h : EpochsOk s) {x : RollCall} (hx : s.roll.epoch ≤ x.epoch) (hl : x.lastOrig ≤ x.epoch) :
    EpochsOk (s.setRoll x) :=
  ⟨BitVec.le_trans h.ea hx, hl⟩

theorem SameCall.ea {s t : State} (h : SameCall s t) : t.consist.ea = s.consist.ea :=
  (congrArg ConsistTable.ea h.table :)

theorem SameCall.callInv {s t : State} (h : SameCall s t) (hs : CallInv s) : CallInv t := by
  obtain ⟨hr, hj⟩ := hs
  refine ⟨?_, ?_⟩
  · rw [State.RollInv, h.ea, h.roll, h.ctrl, someJoined_congr h.joined]; exact hr
  · rw [h.ctrl, someJoined_congr h.joined]; exact hj

/-- A state with other epochs that rise, in the same consist state, with a timer and attempt count that fit it. -/
theorem CallInv.setRoll_unsettled {s : State} (h : CallInv s) (hu : s.roll.state.unsettled = true) {x : RollCall}
    (hs : x.state = s.roll.state) (ha : x.attempts = s.roll.attempts) (hx : s.roll.epoch ≤ x.epoch) (hl : x.lastOrig ≤ x.epoch)
    (ht : x.timer = .running (if s.roll.state = .degraded then Config.rollSlowMs else Config.rollFastMs)) :
    CallInv (s.setRoll x) := by
  have he := epochsOk_setRoll h.epochs hx hl
  obtain ⟨hp, hj, ⟨hr, -, hn⟩ | ⟨hd, -, hn⟩⟩ := h.of_unsettled hu
  · exact ⟨rollInv_of_rolling he (hs.trans hr) (by simp [ht, hr]) (by simpa [ha] using hn) hp hj, fun _ => hp⟩
  · exact ⟨rollInv_of_degraded he (hs.trans hd) (by simp [ht, hd]) (by simpa [ha] using hn) hp hj, fun _ => hp⟩

theorem callInv_enterRolling {s : State} (he : EpochsOk s) (hp : s.ctrl.part = .ready) (hj : s.someJoined) :
    CallInv s.enterRolling := by
  have hc := State.enterRolling_ctrl s
  have hr := State.enterRolling_roll s
  refine ⟨rollInv_of_rolling ⟨?_, ?_⟩ (by rw [hr]) (by rw [hr]) (by simp [hr]) (by rw [hc]; exact hp) ?_, ?_⟩
  · rw [State.enterRolling_consist, hr]; exact he.ea
  · rw [hr]; exact he.lastOrig
  · rw [someJoined_congr (sameEnds_enterRolling s).joined]; exact hj
  · rw [hc]; exact fun _ => hp

theorem callInv_originate {s : State} (h : CallInv s) (hu : s.roll.state.unsettled = true) (e : LineEnd) :
    CallInv (s.originate e) := by
  have hk : CallInv (s.setRoll (s.originate e).roll) :=
    h.setRoll_unsettled hu (by rw [originate_roll]) (by rw [originate_roll]) (originate_epoch_le s e)
      (by rw [originate_roll]; exact BitVec.le_refl _) (by rw [originate_roll])
  refine SameCall.callInv (s := s.setRoll (s.originate e).roll)
    ⟨rfl, originate_ctrl s e, by rw [originate_consist]; rfl, fun e' => ?_⟩ hk
  rw [(sameEnds_originate s e).joined]
  exact joined_congr (by simp)

theorem callInv_adopt {s : State} {r : List RosterEntry} {x : Epoch} (f : Option (LineEnd × Frame)) (he : EpochsOk s)
    (hx : s.roll.epoch ≤ x) (hp : s.ctrl.part = .ready) : CallInv (s.adopt r x f) := by
  have hr := State.adopt_roll s r x f
  have hc := State.adopt_ctrl s r x f
  have hp' : (s.adopt r x f).ctrl.part = .ready := by rw [hc]; exact hp
  refine ⟨rollInv_of_formed ⟨?_, ?_⟩ (by rw [hr]) (by simp [hp']) (by rw [hr]) (by rw [hr]), fun _ => hp'⟩
  · rw [adopt_consist, hr]; exact BitVec.le_refl _
  · rw [hr]; exact BitVec.le_trans he.lastOrig hx

/-- ROLLING entered, or its fast attempts begun again (R31). -/
theorem callInv_startRolling {s : State} (he : EpochsOk s) (hp : s.ctrl.part = .ready) (hj : s.someJoined) :
    CallInv s.startRolling := by
  unfold State.startRolling
  split
  · rename_i hs
    exact ⟨rollInv_of_rolling ⟨he.ea, he.lastOrig⟩ hs rfl (Nat.zero_lt_succ _) hp hj, fun _ => hp⟩
  · exact callInv_enterRolling he hp hj

/-- A roll-call trigger of a READY part leaves the roll call in order, whatever state it was in (R31). -/
theorem callInv_trigger {s : State} (he : EpochsOk s) (hp : s.ctrl.part = .ready) : CallInv s.trigger := by
  rcases trigger_cases s with ⟨-, -, h⟩ | ⟨e, hj, -, h⟩ | ⟨hj, -, h⟩ <;> rw [h]
  · exact callInv_adopt none he (le_increaseEpoch _) hp
  · refine callInv_originate (callInv_startRolling he hp (someJoined_iff.2 ⟨e, hj⟩)) ?_ e
    rw [startRolling_roll]; rfl
  · refine SameCall.callInv ⟨sendCalls_roll _, sendCalls_ctrl _, by rw [sendCalls_consist], (sameEnds_sendCalls _).joined⟩ ?_
    exact callInv_startRolling he hp (someJoined_iff.2 ⟨.a, hj⟩)

theorem callInv_enterReady {s : State} (he : EpochsOk s) : CallInv s.enterReady :=
  callInv_trigger (s := (s.setCtrl { s.ctrl with part := .ready, bypass := false }).updEnds LineEndSt.released)
    ⟨he.ea, he.lastOrig⟩ rfl

theorem callInv_enterDormant {s : State} (h : CallInv s) (hp : s.ctrl.part = .ready) (ha : s.joined .a = false)
    (hb : s.joined .b = false) : CallInv s.enterDormant := by
  have hj : ¬s.someJoined := by
    rw [someJoined_iff]
    rintro ⟨e, he⟩
    cases e
    · rw [ha] at he; cases he
    · rw [hb] at he; cases he
  obtain ⟨-, -, hu, hf, hr, hd⟩ := h.roll
  have hs : s.roll.state = .formed := by
    cases hs : s.roll.state
    · rw [hu.1 hs] at hp; cases hp
    · rfl
    · exact absurd (hr hs).2.2.2 hj
    · exact absurd (hd hs).2.2.2 hj
  refine ⟨rollInv_of_formed ⟨h.epochs.ea, h.epochs.lastOrig⟩ hs ?_ rfl (hf (.inr hs)).2, ?_⟩
  · exact fun hn : PartState.dormant = .unidentified => by cases hn
  · rintro (hl | hl) <;> cases hl

theorem callInv_enterDegraded {s : State} (h : CallInv s) (hs : s.roll.state = .rolling)
    (ha : Config.fastAttempts ≤ s.roll.attempts + 1) :
    CallInv (s.setRoll { s.roll with attempts := s.roll.attempts + 1 }).enterDegraded := by
  obtain ⟨hp, hj, ⟨-, -, hn⟩ | ⟨hd, -⟩⟩ := h.of_unsettled (by rw [hs]; rfl)
  · have hc := enterDegraded_ctrl (s.setRoll { s.roll with attempts := s.roll.attempts + 1 })
    have hr := enterDegraded_roll (s.setRoll { s.roll with attempts := s.roll.attempts + 1 })
    have hp' : (s.setRoll { s.roll with attempts := s.roll.attempts + 1 }).enterDegraded.ctrl.part = .ready := by
      rw [hc]; exact hp
    refine ⟨rollInv_of_degraded ⟨?_, ?_⟩ (by rw [hr]) (by rw [hr]) ?_ hp' ?_, fun _ => hp'⟩
    · rw [enterDegraded_consist, hr]; exact h.epochs.ea
    · rw [hr]; exact h.epochs.lastOrig
    · rw [hr]; exact Nat.le_antisymm hn ha
    · rw [someJoined_congr (enterDegraded_joined _)]; exact hj
  · rw [hs] at hd; cases hd

theorem recomputeCabs_joined (s : State) (e : LineEnd) : s.recomputeCabs.joined e = s.joined e :=
  joined_congr (by rw [recomputeCabs_lineEnd])

/-- Every move keeps the roll call in order. -/
theorem Evolves.callInv {s t : State} (h : Evolves True s t) (hs : CallInv s) : CallInv t := by
  induction h with
  | calm h => exact h.callInv hs
  | trans _ _ ih ik => exact ik (ih hs)
  | raised x h =>
    obtain ⟨⟨hea, hlast, hr⟩, hj⟩ := hs
    exact ⟨⟨BitVec.le_trans hea h, BitVec.le_trans hlast h, hr⟩, hj⟩
  | entered h =>
    obtain ⟨-, hp, e, hj⟩ := h trivial
    exact callInv_enterRolling hs.epochs hp (someJoined_iff.2 ⟨e, hj⟩)
  | originated e h => exact callInv_originate hs (h trivial) e
  | restarted h =>
    refine hs.setRoll_unsettled (h trivial) ?_ ?_ ?_ ?_ ?_ <;> rw [restart_fields]
    · exact BitVec.le_refl _
    · exact hs.epochs.lastOrig
  | tried h ha =>
    obtain ⟨hp, hj, ⟨-, ht, -⟩ | ⟨hd, -⟩⟩ := hs.of_unsettled (by rw [h]; rfl)
    · exact ⟨rollInv_of_rolling ⟨hs.epochs.ea, hs.epochs.lastOrig⟩ h ht ha hp hj, fun _ => hp⟩
    · rw [h] at hd; cases hd
  | fell h ha => exact callInv_enterDegraded hs h ha
  | adopted f hx hr hg => exact callInv_adopt f hs.epochs hx (hg trivial)
  | triggered e f hg =>
    refine callInv_trigger ⟨?_, ?_⟩ (by rw [moveEnd_ctrl]; exact hg trivial)
    · rw [moveEnd_consist, moveEnd_roll]; exact hs.epochs.ea
    · rw [moveEnd_roll]; exact hs.epochs.lastOrig
  | woken h => exact callInv_enterReady hs.epochs
  | identified id cab h => exact callInv_enterReady ⟨hs.epochs.ea, hs.epochs.lastOrig⟩
  | slept h ha hb => exact callInv_enterDormant hs h ha hb
  | steered i c =>
    obtain ⟨hr, hj⟩ := hs
    refine ⟨?_, ?_⟩
    · rw [State.RollInv, recomputeCabs_consist, State.setConsist_consist, setCab_eq, State.recomputeCabs_roll, State.recomputeCabs_ctrl,
        someJoined_congr (recomputeCabs_joined _)]
      exact hr
    · rw [State.recomputeCabs_ctrl, someJoined_congr (recomputeCabs_joined _)]
      exact hj

/-- The line end invariants say that only a READY part has a joined end. -/
theorem callInv_of_inv {s : State} (hl : s.LineInv) (hr : s.RollInv) : CallInv s := by
  refine ⟨hr, fun hj => ?_⟩
  obtain ⟨e, he⟩ := someJoined_iff.1 hj
  have he : (s.lineEnd e).state = .locked := of_decide_eq_true he
  exact (endsLive_of_inv hl hr e (by simp [he])).1

/-- A step is the command at the front of the queue, and so a run of moves or a reset. -/
theorem step_evolves {s t : State} (hl : s.LineInv) (hr : s.RollInv) (h : step s = .next t) : Evolves True s t ∨ IsReset t := by
  unfold step at h
  split at h
  · cases h; exact .inl (.refl s)
  · rename_i c rest _
    obtain ⟨u, hu, hm⟩ := exec_evolves (g := True) c { s with pending := rest } fun _ => ⟨hl, hr⟩
    rw [hu] at h
    cases h
    exact hm.imp_left (sameCall_pending s rest).then_evolves

theorem rollInv_of_isReset {t : State} (h : IsReset t) : t.RollInv := by
  obtain ⟨u, c, p, rfl⟩ := h
  simp [State.RollInv, State.resetBlocks, State.reset]

/-- Settles O5: a reset leaves the roll call in order, and every move that a step is made of keeps it so. -/
theorem everyStepKeepsTheRollCall : Obligations.EveryStepKeepsTheRollCall := by
  intro s t hl hr h
  rcases step_evolves hl hr h with h | h
  · exact (h.callInv (callInv_of_inv hl hr)).roll
  · exact rollInv_of_isReset h

/-! ## The roster -/

/-- A roster table as an adoption, or a cab end set, leaves it. -/
structure TableOk (c : ConsistTable) (own : Ident) : Prop where
  length : c.roster.length ≤ Config.maxCars
  nodup : (c.roster.map RosterEntry.ident).Nodup
  digest : c.digest = rosterDigest c.roster
  dir : c.dir = directionOf c.roster
  conflict : c.conflict = conflictOf c.roster
  ownIdx : c.ownIdx = rosterIndex c.roster own

theorem steered_length (r : List RosterEntry) (i : Nat) (c : CabEnd) : (steered r i c).length = r.length := by
  unfold RollCallProofs.steered
  split <;> simp

theorem GoodRoster.tableOk {r : List RosterEntry} {own : Ident} (h : GoodRoster r own) (c : ConsistTable) (x : Epoch)
    (cab : CabEnd) (v : Half) : TableOk { adoptedTable c r x own cab with view := v } own where
  length := by simpa [adoptedTable, steered_length] using h.length
  nodup := by simpa only [adoptedTable, steered_ident] using h.nodup
  digest := (steered_digest r _ _).symm
  dir := rfl
  conflict := rfl
  ownIdx := (rosterIndex_congr (steered_ident r _ _) own).symm

theorem tableInv_identity {s : State} (h : s.TableInv) : s.ctrl.identity = none ↔ s.ctrl.part = .unidentified := by
  obtain ⟨-, -, -, -, -, hi, -⟩ := h
  exact hi

/-- An adoption puts the table in order, given a roster that the part can adopt and an identity. -/
theorem tableInv_adopt {s : State} {r : List RosterEntry} (x : Epoch) (f : Option (LineEnd × Frame)) (hr : GoodRoster r s.ownId)
    (hi : s.ctrl.identity = none ↔ s.ctrl.part = .unidentified) : (s.adopt r x f).TableInv := by
  have hc := adopt_consist s r x f
  have hid := ownId_congr (State.adopt_ctrl s r x f)
  have ht : TableOk (s.adopt r x f).consist (s.adopt r x f).ownId := by
    rw [hc, hid]
    exact hr.tableOk _ _ _ _
  refine ⟨ht.length, ht.nodup, ht.digest, ht.dir, ht.conflict, by rw [State.adopt_ctrl]; exact hi, fun h => ?_, fun _ => ⟨ht.ownIdx, ?_⟩⟩
  · rw [State.adopt_roll] at h; cases h
  · rw [hc]; exact hr.own

/-- Work that keeps the table, the identity and the part state, and that enters or leaves no UNFORMED. -/
theorem tableInv_congr {s t : State} (h : s.TableInv) (hctrl : t.ctrl = s.ctrl)
    (htable : { t.consist with view := s.consist.view, cabInput := s.consist.cabInput, cabLevel := s.consist.cabLevel,
                               debounceT := s.consist.debounceT } = s.consist)
    (hu : t.roll.state = .unformed ↔ s.roll.state = .unformed) : t.TableInv := by
  have hid := ownId_congr hctrl
  rw [State.TableInv, ← htable] at h
  obtain ⟨hlen, hnd, hdig, hdir, hcon, hi, hempty, hown⟩ := h
  exact ⟨hlen, hnd, hdig, hdir, hcon, by rw [hctrl]; exact hi, fun hn => hempty (hu.1 hn), fun hn => by
    rw [hid]; exact hown (fun k => hn (hu.2 k))⟩

/-- A roll-call trigger keeps the table in order, if an UNFORMED part has no joined end. -/
theorem tableInv_trigger {s : State} (h : s.TableInv) (hj : s.someJoined → s.roll.state ≠ .unformed) : s.trigger.TableInv := by
  have hi := tableInv_identity h
  rcases trigger_cases s with ⟨-, -, ht⟩ | ⟨e, he, -, ht⟩ | ⟨he, -, ht⟩ <;> rw [ht]
  · exact tableInv_adopt _ _ (goodRoster_ownRoster s) hi
  · refine tableInv_congr h (by rw [originate_ctrl, startRolling_ctrl]) (by rw [originate_consist, startRolling_consist]) ?_
    rw [originate_roll, startRolling_roll]
    simpa using hj (someJoined_iff.2 ⟨e, he⟩)
  · refine tableInv_congr h (by rw [sendCalls_ctrl, startRolling_ctrl]) (by rw [sendCalls_consist, startRolling_consist]) ?_
    rw [sendCalls_roll, startRolling_roll]
    simpa using hj (someJoined_iff.2 ⟨.a, he⟩)

/-- Entry into READY adopts the part alone: no end of a part that was not READY is joined (R24, R31). -/
theorem tableInv_enterReady {s : State} (hj : ¬s.someJoined) (hid : s.ctrl.identity ≠ none) : s.enterReady.TableInv := by
  unfold State.enterReady
  have hn : ¬((s.setCtrl { s.ctrl with part := .ready, bypass := false }).updEnds LineEndSt.released).someJoined := hj
  rw [someJoined_iff, not_exists] at hn
  rcases trigger_cases ((s.setCtrl { s.ctrl with part := .ready, bypass := false }).updEnds LineEndSt.released) with
    ⟨-, -, ht⟩ | ⟨e, he, -⟩ | ⟨he, -⟩
  · rw [ht]
    exact tableInv_adopt _ _ (goodRoster_ownRoster _) (iff_of_false hid (by simp))
  · exact absurd he (hn e)
  · exact absurd he (hn .a)

/-- Every move keeps the table in order, together with the roll call. -/
theorem Evolves.tableInv {s t : State} (h : Evolves True s t) (hs : CallInv s) (ht : s.TableInv) : t.TableInv := by
  induction h with
  | calm h => exact tableInv_congr ht h.ctrl h.table (by rw [h.roll])
  | trans h _ ih ik => exact ik (h.callInv hs) (ih hs ht)
  | raised x h => exact tableInv_congr ht rfl rfl Iff.rfl
  | entered h =>
    refine tableInv_congr ht (State.enterRolling_ctrl _) (by rw [State.enterRolling_consist]) ?_
    rw [State.enterRolling_roll, (h trivial).1]
    simp
  | originated e h =>
    exact tableInv_congr ht (originate_ctrl _ e) (by rw [originate_consist]) (by rw [originate_roll])
  | restarted h => exact tableInv_congr ht rfl rfl (by rw [State.setRoll_roll, restart_fields])
  | tried h ha => exact tableInv_congr ht rfl rfl Iff.rfl
  | fell h ha =>
    refine tableInv_congr ht (enterDegraded_ctrl _) (by rw [enterDegraded_consist]; rfl) ?_
    rw [enterDegraded_roll, h]
    simp
  | adopted f hx hr hg =>
    exact tableInv_adopt _ f hr (tableInv_identity ht)
  | triggered e f hg =>
    refine tableInv_trigger (tableInv_congr ht (moveEnd_ctrl _ e f) (by rw [moveEnd_consist]) (by rw [moveEnd_roll])) fun _ hu => ?_
    rw [moveEnd_roll] at hu
    have hp := hg trivial
    rw [hs.unidentified hu] at hp
    cases hp
  | woken h =>
    refine tableInv_enterReady (fun hj => by rw [hs.ready hj] at h; cases h) fun hn => ?_
    rw [(tableInv_identity ht).1 hn] at h
    cases h
  | identified id cab h =>
    exact tableInv_enterReady (fun hj => by rw [hs.ready hj] at h; cases h) fun hn => by cases hn
  | slept h ha hb =>
    obtain ⟨hlen, hnd, hdig, hdir, hcon, hi, hempty, hown⟩ := ht
    refine ⟨hlen, hnd, hdig, hdir, hcon, ?_, hempty, hown⟩
    exact iff_of_false (fun hn => by rw [hi.1 hn] at h; cases h) fun hn : PartState.dormant = .unidentified => by cases hn
  | @steered s i c =>
    have hc : (s.setConsist (s.consist.setCab i c)).recomputeCabs.consist =
        { s.consist with
          roster := RollCallProofs.steered s.consist.roster i c
          dir := directionOf (RollCallProofs.steered s.consist.roster i c)
          conflict := conflictOf (RollCallProofs.steered s.consist.roster i c) } := by
      rw [recomputeCabs_consist, State.setConsist_consist, setCab_eq]
    have hk := State.recomputeCabs_ctrl (s.setConsist (s.consist.setCab i c))
    have hr := State.recomputeCabs_roll (s.setConsist (s.consist.setCab i c))
    obtain ⟨hlen, hnd, hdig, hdir, hcon, hi, hempty, hown⟩ := ht
    rw [State.TableInv, ownId_congr hk, hk, hr, hc]
    refine ⟨?_, ?_, ?_, rfl, rfl, hi, fun hu => ?_, fun hu => ?_⟩
    · rw [steered_length]; exact hlen
    · rw [steered_ident]; exact hnd
    · rw [steered_digest]; exact hdig
    · obtain ⟨he, h0⟩ := hempty hu
      exact ⟨by rw [← List.length_eq_zero_iff, steered_length, he]; rfl, h0⟩
    · rw [rosterIndex_congr (steered_ident _ _ _)]; exact hown hu

theorem tableInv_of_isReset {t : State} (h : IsReset t) : t.TableInv := by
  obtain ⟨u, c, p, rfl⟩ := h
  simp [State.TableInv, State.resetBlocks, State.reset, rosterDigest, directionOf, conflictOf, validAtFirst, validAtLast, crc]

/-- Settles O6: a reset leaves the table in order, and every move that a step is made of keeps it so. -/
theorem everyStepKeepsTheConsistTable : Obligations.EveryStepKeepsTheConsistTable := by
  intro s t hl hr ht h
  rcases step_evolves hl hr h with h | h
  · exact h.tableInv (callInv_of_inv hl hr) ht
  · exact tableInv_of_isReset h

end Sys2Proof.Machine.RollCallProofs
end

section
/-! The roll timer, CALL and ROLL as commands: the state each leaves, case by case. -/

namespace Sys2Proof.Machine.RollCallProofs

/-! ## Entry into ROLLING and DEGRADED leaves the ends and most events alone -/

/-- Both line ends are left alone, queues included. -/
def SameLines (s t : State) : Prop :=
  t.lineA = s.lineA ∧ t.lineB = s.lineB

theorem SameLines.trans {s t u : State} (h : SameLines s t) (k : SameLines t u) : SameLines s u :=
  ⟨k.1.trans h.1, k.2.trans h.2⟩

theorem SameLines.lineEnd {s t : State} (h : SameLines s t) (e : LineEnd) : t.lineEnd e = s.lineEnd e := by
  cases e
  · exact h.1
  · exact h.2

theorem sameLines_takeContents (s : State) (i : Nat) (b : Binding) (st : BindState) (x : Bool) :
    SameLines s (s.takeContents i b st x) := by
  unfold State.takeContents
  dsimp only
  split <;> exact ⟨rfl, rfl⟩

theorem sameLines_markStale (s : State) (i : Nat) : SameLines s (s.markStale i) := by
  unfold State.markStale
  split
  · exact ⟨rfl, rfl⟩
  · exact sameLines_takeContents s _ _ _ _

theorem sameLines_bindingsUnsettled (s : State) : SameLines s s.bindingsUnsettled := by
  have h (l : List Nat) (s : State) : SameLines s (l.foldl State.markStale s) := by
    induction l generalizing s with
    | nil => exact ⟨rfl, rfl⟩
    | cons i l ih => exact (sameLines_markStale s i).trans (ih _)
  exact h slots s.abandonBackground

theorem sameLines_use (s : State) (h : Hit) : SameLines s (s.use h) := by
  unfold State.use
  split <;> exact ⟨rfl, rfl⟩

theorem sameLines_completeBind (s : State) (i : Nat) (q : Question) (o : Outcome) : SameLines s (s.completeBind i q o) := by
  cases o
  case consistChanged =>
    simp only [State.completeBind]
    cases s.search q
    case hit h => exact (sameLines_use s h).trans ⟨rfl, rfl⟩
    all_goals exact ⟨rfl, rfl⟩
  all_goals exact ⟨rfl, rfl⟩

theorem sameLines_endResolution (s : State) (o : Outcome) : SameLines s (s.endResolution o) := by
  unfold State.endResolution
  split
  · split
    · exact sameLines_completeBind s _ _ _
    all_goals cases o <;> exact ⟨rfl, rfl⟩
  · cases o <;> exact ⟨rfl, rfl⟩

theorem sameLines_abandonForeground (s : State) : SameLines s s.abandonForeground := by
  unfold State.abandonForeground
  split
  · exact ⟨rfl, rfl⟩
  · exact SameLines.trans ⟨rfl, rfl⟩ (sameLines_endResolution s.clearForeground .consistChanged)

theorem sameLines_abandonChange (s : State) : SameLines s s.abandonChange := by
  unfold State.abandonChange
  split <;> exact ⟨rfl, rfl⟩

theorem sameLines_reportUnsettled (s : State) : SameLines s s.reportUnsettled :=
  SameLines.trans (t := (s.setRemainder []).abandonChange) (sameLines_abandonChange (s.setRemainder []))
    ((sameLines_abandonForeground _).trans (sameLines_bindingsUnsettled _))

theorem enterRolling_lineEnd (s : State) (e : LineEnd) : s.enterRolling.lineEnd e = s.lineEnd e :=
  ((sameLines_reportUnsettled _).lineEnd e).trans (by rw [State.raise_lineEnd, State.setRoll_lineEnd])

theorem startRolling_lineEnd (s : State) (e : LineEnd) : s.startRolling.lineEnd e = s.lineEnd e := by
  unfold State.startRolling
  split
  · exact State.setRoll_lineEnd _ _ _
  · exact enterRolling_lineEnd s e

theorem Serves.unsettled {s t : State} (h : Serves s t) : t.attn.events.unsettled = s.attn.events.unsettled := by
  rw [← h.events]

theorem Serves.fault {s t : State} (h : Serves s t) : t.attn.events.fault = s.attn.events.fault := by
  rw [← h.events]

theorem Serves.view {s t : State} (h : Serves s t) : t.attn.events.view = s.attn.events.view := by
  rw [← h.events]

theorem enterRolling_unsettled (s : State) : s.enterRolling.attn.events.unsettled = some .rolling :=
  (serves_enterRolling s).unsettled

/-- The host's settings are left alone. -/
structure SettingsKept (s t : State) : Prop where
  keeps : s.KeepsSettings t

theorem SettingsKept.trans {s t u : State} (h : SettingsKept s t) (k : SettingsKept t u) : SettingsKept s u := by
  obtain ⟨h1, h2, h3, h4, h5, h6⟩ := h.keeps
  obtain ⟨k1, k2, k3, k4, k5, k6⟩ := k.keeps
  exact ⟨k1.trans h1, k2.trans h2, k3.trans h3, k4.trans h4, k5.trans h5, k6.trans h6⟩

theorem Serves.settingsKept {s t : State} (h : Serves s t) : SettingsKept s t :=
  ⟨h.train.settings⟩

theorem settingsKept_setRoll (s : State) (x : RollCall) : SettingsKept s (s.setRoll x) :=
  ⟨rfl, rfl, rfl, rfl, rfl, rfl⟩

theorem settingsKept_raiseE (s : State) (x : Epoch) : SettingsKept s (s.raiseE x) :=
  settingsKept_setRoll s _

theorem settingsKept_offerCtrl (s : State) (e : LineEnd) (f : Frame) : SettingsKept s (s.offerCtrl e f) :=
  ⟨(s.sameTrain_offerCtrl e f).settings⟩

theorem settingsKept_heardOn (s : State) (e : LineEnd) : SettingsKept s (s.heardOn e) :=
  ⟨(s.sameTrain_updEnd e LineEndSt.heard).settings⟩

theorem settingsKept_raise (s : State) (f : Events → Events) : SettingsKept s (s.raise f) :=
  ⟨(s.sameTrain_raise f).settings⟩

theorem settingsKept_reportFault (s : State) (k : FaultKind) : SettingsKept s (s.reportFault k) := by
  unfold State.reportFault
  split <;> exact ⟨rfl, rfl, rfl, rfl, rfl, rfl⟩

theorem settingsKept_enterRolling (s : State) : SettingsKept s s.enterRolling :=
  (settingsKept_setRoll s _).trans ((settingsKept_raise _ _).trans (serves_enterRolling s).settingsKept)

theorem settingsKept_startRolling (s : State) : SettingsKept s s.startRolling := by
  unfold State.startRolling
  split
  · exact settingsKept_setRoll s _
  · exact settingsKept_enterRolling s

theorem settingsKept_originate (s : State) (e : LineEnd) : SettingsKept s (s.originate e) := by
  unfold State.originate
  exact (settingsKept_setRoll s _).trans ((settingsKept_offerCtrl _ _ _).trans (settingsKept_setRoll _ _))

theorem settingsKept_enterDegraded (s : State) : SettingsKept s s.enterDegraded := by
  unfold State.enterDegraded
  exact (settingsKept_setRoll s _).trans ((settingsKept_reportFault _ _).trans
    ((settingsKept_raise _ _).trans (serves_reportUnsettled _).settingsKept))

/-! ## Joined ends, and what is offered to them -/

theorem joinedEnds_two {s : State} {e : LineEnd} (h : (s.lineEnd e).state = .locked) (k : (s.lineEnd e.other).state = .locked) :
    s.joinedEnds = .two := by
  cases e <;> simp_all [State.joinedEnds, State.joined, LineEnd.other]

theorem joinedEnds_one {s : State} {e : LineEnd} (h : (s.lineEnd e).state = .locked) (k : (s.lineEnd e.other).state ≠ .locked) :
    s.joinedEnds = .one e := by
  cases e <;> simp_all [State.joinedEnds, State.joined, LineEnd.other]

theorem offerCtrl_eq_queuedCtrl {s : State} {e : LineEnd} (h : (s.lineEnd e).state = .locked) (f : Frame) :
    s.offerCtrl e f = s.queuedCtrl e f := by
  simp [State.offerCtrl, State.updEnd, LineEndSt.offerCtrl, h, State.queuedCtrl]

theorem offerCtrl_of_not_locked {s : State} {e : LineEnd} (h : (s.lineEnd e).state ≠ .locked) (f : Frame) :
    s.offerCtrl e f = s := by
  cases e <;> simp_all [State.offerCtrl, State.updEnd, LineEndSt.offerCtrl, State.setEnd, State.lineEnd]

/-- A frame offered to the other end leaves this one alone. -/
theorem offerCtrl_other_lineEnd (s : State) (e : LineEnd) (f : Frame) : (s.offerCtrl e.other f).lineEnd e = s.lineEnd e := by
  cases e <;> rfl

theorem setRoll_queuedCtrl (s : State) (e : LineEnd) (f : Frame) (x : RollCall) :
    (s.queuedCtrl e f).setRoll x = (s.setRoll x).queuedCtrl e f := by
  cases e <;> rfl

theorem setRoll_heardOn (s : State) (e : LineEnd) (x : RollCall) : (s.heardOn e).setRoll x = (s.setRoll x).heardOn e := by
  cases e <;> rfl

@[simp] theorem heardOn_roll (s : State) (e : LineEnd) : (s.heardOn e).roll = s.roll := State.setEnd_roll s e _
@[simp] theorem heardOn_consist (s : State) (e : LineEnd) : (s.heardOn e).consist = s.consist := State.setEnd_consist s e _
@[simp] theorem heardOn_ctrl (s : State) (e : LineEnd) : (s.heardOn e).ctrl = s.ctrl := State.setEnd_ctrl s e _
@[simp] theorem heardOn_dir (s : State) (e : LineEnd) : (s.heardOn e).dir = s.dir := State.setEnd_dir s e _
@[simp] theorem heardOn_traffic (s : State) (e : LineEnd) : (s.heardOn e).traffic = s.traffic := State.setEnd_traffic s e _
@[simp] theorem heardOn_resolver (s : State) (e : LineEnd) : (s.heardOn e).resolver = s.resolver := State.setEnd_resolver s e _
@[simp] theorem heardOn_bindings (s : State) (e : LineEnd) : (s.heardOn e).bindings = s.bindings := State.setEnd_bindings s e _
@[simp] theorem heardOn_attn (s : State) (e : LineEnd) : (s.heardOn e).attn = s.attn := State.setEnd_attn s e _

@[simp] theorem heardOn_ownId (s : State) (e : LineEnd) : (s.heardOn e).ownId = s.ownId :=
  ownId_congr (heardOn_ctrl s e)

@[simp] theorem heardOn_ownCab (s : State) (e : LineEnd) : (s.heardOn e).ownCab = s.ownCab :=
  ownCab_congr (heardOn_ctrl s e) (by rw [heardOn_consist])

@[simp] theorem heardOn_state (s : State) (e e' : LineEnd) : ((s.heardOn e).lineEnd e').state = (s.lineEnd e').state := by
  cases e <;> cases e' <;> rfl

@[simp] theorem heardOn_ctrlQ (s : State) (e e' : LineEnd) : ((s.heardOn e).lineEnd e').ctrlQ = (s.lineEnd e').ctrlQ := by
  cases e <;> cases e' <;> rfl

@[simp] theorem heardOn_dirQ (s : State) (e e' : LineEnd) : ((s.heardOn e).lineEnd e').dirQ = (s.lineEnd e').dirQ := by
  cases e <;> cases e' <;> rfl

/-- A ROLL originated out of a joined end: the state it leaves (R38, R50, R52). -/
theorem originate_eq {s : State} {e : LineEnd} (h : (s.lineEnd e).state = .locked) :
    s.originate e =
      (s.setRoll { s.roll with
        epoch := increaseEpoch s.roll.epoch
        lastOrig := increaseEpoch s.roll.epoch
        timer := .running (if s.roll.state = .degraded then Config.rollSlowMs else Config.rollFastMs) }).queuedCtrl e
        ⟨⟨increaseEpoch s.roll.epoch, s.ownId, 0#8, 0#8⟩, .roll [⟨s.ownId, e.other.code, s.ownCab.code⟩]⟩ := by
  unfold State.originate
  dsimp only
  rw [offerCtrl_eq_queuedCtrl (by simpa using h), setRoll_queuedCtrl]
  cases e <;> simp only [State.queuedCtrl, State.setEnd, State.setRoll, restart_fields] <;> rfl

theorem originate_ctrlQ {s : State} {e : LineEnd} (h : (s.lineEnd e).state = .locked) :
    ((s.originate e).lineEnd e).ctrlQ = pushCtrl (s.lineEnd e).ctrlQ
      ⟨⟨increaseEpoch s.roll.epoch, s.ownId, 0#8, 0#8⟩, .roll [⟨s.ownId, e.other.code, s.ownCab.code⟩]⟩ := by
  rw [originate_eq h]
  cases e <;> rfl

theorem originate_attn (s : State) (e : LineEnd) : (s.originate e).attn = s.attn := by
  simp [State.originate]

theorem offerCtrl_ctrlQ {s : State} {e : LineEnd} (h : (s.lineEnd e).state = .locked) (f : Frame) :
    ((s.offerCtrl e f).lineEnd e).ctrlQ = pushCtrl (s.lineEnd e).ctrlQ f := by
  rw [State.offerCtrl_lineEnd_same, LineEndSt.offerCtrl, if_pos h]

/-! ## The roll timer -/

theorem retryRoll_one {s : State} {e : LineEnd} (h : (s.lineEnd e).state = .locked) (k : (s.lineEnd e.other).state ≠ .locked) :
    s.retryRoll = s.originate e := by
  rw [State.retryRoll, joinedEnds_one h k]

theorem retryRoll_two {s : State} (h : s.lineA.state = .locked) (k : s.lineB.state = .locked) :
    s.retryRoll = s.setRoll s.roll.restart := by
  rw [State.retryRoll, joinedEnds_two (e := .a) h k]

/-- A fast attempt below the third (R50). -/
theorem rollExpiry_try {s : State} (hs : s.roll.state = .rolling) (ht : s.roll.timer.isRunning = true) (ha : s.roll.attempts < 2) :
    s.rollExpiry = (s.setRoll { s.roll with attempts := s.roll.attempts + 1 }).retryRoll := by
  have hn : ¬s.roll.attempts + 1 ≥ Config.fastAttempts := by simp only [Config.fastAttempts]; omega
  simp [State.rollExpiry, hs, ht, hn]

/-- The third (R51). -/
theorem rollExpiry_fall {s : State} (hs : s.roll.state = .rolling) (ht : s.roll.timer.isRunning = true) (ha : s.roll.attempts = 2) :
    s.rollExpiry = (s.setRoll { s.roll with attempts := 3 }).enterDegraded := by
  simp [State.rollExpiry, hs, ht, ha]

/-- A slow retry (R52). -/
theorem rollExpiry_slow {s : State} (hs : s.roll.state = .degraded) (ht : s.roll.timer.isRunning = true) :
    s.rollExpiry = s.retryRoll := by
  simp [State.rollExpiry, hs, ht]

theorem enterDegraded_lineEnd (s : State) (e : LineEnd) : s.enterDegraded.lineEnd e = s.lineEnd e := by
  rw [State.enterDegraded, (sameLines_reportUnsettled _).lineEnd, State.raise_lineEnd, reportFault_lineEnd, State.setRoll_lineEnd]

theorem enterDegraded_unsettled (s : State) : s.enterDegraded.attn.events.unsettled = some .degraded := by
  rw [State.enterDegraded, (serves_reportUnsettled _).unsettled]
  rfl

/-- The fault reported on the fall to DEGRADED (R51). -/
theorem enterDegraded_fault (s : State) :
    s.enterDegraded.attn.events.fault =
      if s.attn.disp.rollFailed = .silent then s.attn.events.fault else some (s.attn.events.fault.getD 0#6 ||| 4#6) := by
  rw [State.enterDegraded, (serves_reportUnsettled _).fault]
  cases h : s.attn.disp.rollFailed <;> simp [State.reportFault, Dispositions.get, h, Events.raiseUnsettled, Events.raiseFault,
    FaultKind.bit]

theorem rollFailed_bit (f : BitVec 6) : (f ||| 4#6).getLsbD 2 = true := by
  rw [BitVec.getLsbD_or, show (4#6).getLsbD 2 = true from rfl, Bool.or_true]

/-- Settles O32, case by case of the attempt count and of the joined ends. -/
theorem rollTimerExpires : Obligations.RollTimerExpires := by
  refine ⟨fun s e hs ht ha hl ho => ?_, fun s hs ht ha hl ho => ?_, fun s hs ht ha => ?_, fun s e hs ht hl ho => ?_,
    fun s hs ht hl ho => ?_⟩
  · change Host.Outcome.next s.rollExpiry = _
    rw [rollExpiry_try hs ht ha, retryRoll_one (e := e) (by simpa using hl) (by simpa using ho), originate_eq (by simpa using hl)]
    simp [hs, State.setRoll]
    rfl
  · change Host.Outcome.next s.rollExpiry = _
    rw [rollExpiry_try hs ht ha, retryRoll_two (by simpa using hl) (by simpa using ho), restart_fields]
    simp [hs, State.setRoll]
  · refine ⟨_, rfl, ?_⟩
    rw [rollExpiry_fall hs ht ha]
    refine ⟨enterDegraded_roll _, enterDegraded_unsettled _, fun h => ?_, fun h => ?_, enterDegraded_consist _,
      enterDegraded_lineEnd _ .a, enterDegraded_lineEnd _ .b,
      ((settingsKept_setRoll s _).trans (settingsKept_enterDegraded _)).keeps⟩
    · rw [enterDegraded_fault, if_neg (by simpa using h)]
      simp only [Option.map_some, rollFailed_bit]
    · rw [enterDegraded_fault, if_pos (by simpa using h)]
      rfl
  · change Host.Outcome.next s.rollExpiry = _
    rw [rollExpiry_slow hs ht, retryRoll_one hl ho, originate_eq hl]
    simp [hs, State.setRoll]
  · change Host.Outcome.next s.rollExpiry = _
    rw [rollExpiry_slow hs ht, retryRoll_two hl ho, restart_fields]
    simp [hs, State.setRoll]

/-! ## CALL -/

theorem exec_call {s : State} {e : LineEnd} (h : Header) (hl : (s.lineEnd e).state = .locked) :
    exec (.call e h) s = .next ((s.heardOn e).takeCall e ⟨h, .call⟩) := by
  have hr : exec (.call e h) s = .next (s.receive e fun s => s.takeCall e ⟨h, .call⟩) := rfl
  rw [hr, State.receive, hl]
  rfl

theorem takeCall_two {s : State} {e : LineEnd} (hl : (s.lineEnd e).state = .locked) (ho : (s.lineEnd e.other).state = .locked)
    (f : Frame) : s.takeCall e f = s.callAtIntermediate e f := by
  rw [State.takeCall, joinedEnds_two hl ho]

theorem takeCall_one {s : State} {e : LineEnd} (hl : (s.lineEnd e).state = .locked) (ho : (s.lineEnd e.other).state ≠ .locked)
    (f : Frame) : s.takeCall e f = s.callAtTerminal e f := by
  rw [State.takeCall, joinedEnds_one hl ho]

theorem raiseEpoch_of_le {x y : Epoch} (h : y ≤ x) : raiseEpoch x y = x := by
  unfold raiseEpoch
  split
  · exact BitVec.le_antisymm h ‹_›
  · rfl

theorem raiseE_of_le {s : State} {x : Epoch} (h : x ≤ s.roll.epoch) : s.raiseE x = s := by
  rw [State.raiseE, raiseEpoch_of_le h]
  rfl


/-- A CALL at an intermediate in FORMED (R36): forwarded, and ROLLING entered. -/
theorem callAtIntermediate_formed {s : State} (e : LineEnd) (f : Frame) (hs : s.roll.state = .formed) :
    s.callAtIntermediate e f = ((s.raiseE f.hdr.epoch).offerCtrl e.other f).enterRolling := by
  simp [State.callAtIntermediate, State.raiseE, hs]

/-- A CALL at an intermediate in DEGRADED, or in ROLLING above the E held before (R36): forwarded. -/
theorem callAtIntermediate_forward {s : State} (e : LineEnd) (f : Frame)
    (hs : s.roll.state = .degraded ∨ (s.roll.state = .rolling ∧ s.roll.epoch < f.hdr.epoch)) :
    s.callAtIntermediate e f = (s.raiseE f.hdr.epoch).offerCtrl e.other f := by
  rcases hs with hs | ⟨hs, hx⟩
  · simp [State.callAtIntermediate, State.raiseE, hs]
  · simp [State.callAtIntermediate, State.raiseE, hs, hx]

/-- A CALL at a terminal in FORMED (R37): ROLLING entered, and a ROLL originated. -/
theorem callAtTerminal_formed {s : State} (e : LineEnd) (f : Frame) (hs : s.roll.state = .formed) :
    s.callAtTerminal e f = (s.raiseE f.hdr.epoch).enterRolling.originate e := by
  simp [State.callAtTerminal, State.raiseE, hs]

/-- A CALL at a terminal in DEGRADED, or in ROLLING at or above the last origination epoch (R37): a ROLL originated. -/
theorem callAtTerminal_originate {s : State} (e : LineEnd) (f : Frame)
    (hs : s.roll.state = .degraded ∨ (s.roll.state = .rolling ∧ s.roll.lastOrig ≤ f.hdr.epoch)) :
    s.callAtTerminal e f = (s.raiseE f.hdr.epoch).originate e := by
  rcases hs with hs | ⟨hs, hx⟩
  · simp [State.callAtTerminal, State.raiseE, hs]
  · simp [State.callAtTerminal, State.raiseE, hs, hx]

theorem enterRolling_ctrlQ (s : State) (e : LineEnd) : (s.enterRolling.lineEnd e).ctrlQ = (s.lineEnd e).ctrlQ := by
  rw [enterRolling_lineEnd]

theorem raiseE_heardOn (s : State) (e : LineEnd) (x : Epoch) :
    (s.heardOn e).raiseE x = (s.setRoll { s.roll with epoch := raiseEpoch s.roll.epoch x }).heardOn e := by
  rw [State.raiseE, setRoll_heardOn, heardOn_roll]

/-- Settles O40, case by case of the joined ends and of the consist state. -/
theorem callReceived : Obligations.CallReceived := by
  refine ⟨fun s e h hl ho hs => ?_, fun s e h hl ho hs => ?_, fun s e h hl ho hs hx => ?_, fun s e h hl ho hs => ?_,
    fun s e h hl ho hs => ?_, fun s e h hl ho hs hx => ?_⟩
  · refine ⟨_, exec_call h hl, ?_⟩
    rw [takeCall_two (by simpa using hl) (by simpa using ho), callAtIntermediate_formed e _ (by simpa using hs)]
    refine ⟨?_, ?_, ?_, enterRolling_unsettled _, ?_, ?_⟩
    · rw [State.enterRolling_roll, State.offerCtrl_roll]
      simp [State.raiseE]
    · rw [enterRolling_ctrlQ, offerCtrl_ctrlQ] <;> simp [State.raiseE, ho]
    · rw [enterRolling_ctrlQ, offerCtrl_other_lineEnd]
      simp [State.raiseE]
    · rw [State.enterRolling_consist, State.offerCtrl_consist]
      simp [State.raiseE]
    · exact ((settingsKept_heardOn s e).trans ((settingsKept_raiseE _ _).trans
        ((settingsKept_offerCtrl _ _ _).trans (settingsKept_enterRolling _)))).keeps
  · rw [exec_call h hl, takeCall_two (by simpa using hl) (by simpa using ho), callAtIntermediate_forward e _ (by simpa using hs),
      raiseE_heardOn, offerCtrl_eq_queuedCtrl (by simpa using ho)]
    rfl
  · rw [exec_call h hl, takeCall_two (by simpa using hl) (by simpa using ho)]
    have hx' : h.epoch ≤ (s.heardOn e).roll.epoch := by simpa using hx
    simp [State.callAtIntermediate, raiseE_of_le hx', hs, BitVec.not_lt.2 hx]
  · refine ⟨_, exec_call h hl, ?_⟩
    rw [takeCall_one (by simpa using hl) (by simpa using ho), callAtTerminal_formed e _ (by simpa using hs), raiseE_heardOn]
    change (s.setRoll { s.roll with epoch := raiseEpoch s.roll.epoch h.epoch }).Originated _ e ∧ _
    generalize hu : (s.setRoll { s.roll with epoch := raiseEpoch s.roll.epoch h.epoch }) = u
    have hul : ((u.heardOn e).enterRolling.lineEnd e).state = .locked := by
      rw [enterRolling_lineEnd, heardOn_state, ← hu, State.setRoll_lineEnd, hl]
    refine ⟨⟨?_, ?_, ?_⟩, ?_, ?_⟩
    · rw [originate_roll, State.enterRolling_roll, heardOn_roll]
      rfl
    · rw [originate_consist, State.enterRolling_consist, heardOn_consist]
    · rw [originate_ctrlQ hul, enterRolling_ctrlQ, heardOn_ctrlQ, State.enterRolling_roll,
        ownId_congr (State.enterRolling_ctrl _), ownCab_congr (State.enterRolling_ctrl _) (by rw [State.enterRolling_consist])]
      simp
    · rw [originate_attn, enterRolling_unsettled]
    · have hk : SettingsKept s u := hu ▸ settingsKept_setRoll s _
      exact (hk.trans ((settingsKept_heardOn _ _).trans
        ((settingsKept_enterRolling _).trans (settingsKept_originate _ _)))).keeps
  · rw [exec_call h hl, takeCall_one (by simpa using hl) (by simpa using ho), callAtTerminal_originate e _ (by simpa using hs),
      raiseE_heardOn, originate_eq (by simpa using hl), setRoll_heardOn]
    simp [State.setRoll]
    rfl
  · rw [exec_call h hl, takeCall_one (by simpa using hl) (by simpa using ho)]
    simp [State.callAtTerminal, raiseE_heardOn, hs, BitVec.not_le.2 hx]
    rfl

end Sys2Proof.Machine.RollCallProofs
end

section
/-! A ROLL discarded, and one that an intermediate hands on. -/

namespace Sys2Proof.Machine.RollCallProofs

theorem exec_roll {s : State} {e : LineEnd} (h : Header) {es : List CarEntry} (hlen : es.length ≤ 16)
    (hl : (s.lineEnd e).state = .locked) :
    exec (.roll e h es) s = .next ((s.heardOn e).takeRoll e ⟨h, .roll es⟩ es) := by
  have hv : Frame.valid ⟨h, .roll es⟩ = true := decide_eq_true hlen
  have hr : exec (.roll e h es) s = .next (s.receiveFrame e ⟨h, .roll es⟩) := rfl
  rw [hr, State.receiveFrame, if_pos hv]
  dsimp only
  rw [State.receive, hl]
  rfl

/-- A ROLL of bad form or of an epoch below E is discarded (R39). -/
theorem takeRoll_discard {s : State} (e : LineEnd) {f : Frame} {es : List CarEntry}
    (h : es = [] ∨ ¬EntriesOk es ∨ f.hdr.epoch < s.roll.epoch) : s.takeRoll e f es = s := by
  unfold State.takeRoll
  split
  · rfl
  · rename_i hform
    rw [Bool.not_eq_true', Bool.not_eq_false, rollFormOk_iff] at hform
    rw [if_pos ((h.resolve_left hform.1).resolve_left (not_not_intro hform.2))]

/-- A ROLL that the part accepts and that has room for its own entry (R39). -/
structure Acceptable (s : State) (h : Header) (es : List CarEntry) : Prop where
  entries : EntriesOk es
  some : es ≠ []
  room : es.length ≤ 15
  foreign : ∀ c ∈ es, c.ident ≠ s.ownId
  epoch : s.roll.epoch ≤ h.epoch

theorem Acceptable.heardOn {s : State} {h : Header} {es : List CarEntry} (ha : Acceptable s h es) (e : LineEnd) :
    Acceptable (s.heardOn e) h es :=
  ⟨ha.entries, ha.some, ha.room, by simpa using ha.foreign, by simpa using ha.epoch⟩

/-- What the part makes of an accepted ROLL, as an intermediate or as a terminal (R42, R43). -/
def handOnRoll (s : State) (e : LineEnd) (f : Frame) (es : List CarEntry) : State :=
  match s.joinedEnds with
  | .two => s.appendRoll e f es
  | .one _ => s.completeRoll e es
  | .neither => s.completeRoll e es

/-- An accepted ROLL is handed to the part by its joined ends. -/
theorem takeRoll_accept {s : State} (e : LineEnd) {f : Frame} {es : List CarEntry} (ha : Acceptable s f.hdr es) :
    s.takeRoll e f es = handOnRoll (s.acceptRoll f.hdr.epoch) e f es := by
  have hform : rollFormOk es = true := (rollFormOk_iff es).2 ⟨ha.some, ha.entries⟩
  have hown : (es.any fun c => decide (c.ident = (s.acceptRoll f.hdr.epoch).ownId)) = false := by
    rw [ownId_congr (acceptRoll_ctrl s _)]
    simpa using ha.foreign
  have hroom : ¬es.length ≥ Config.maxCars := by
    have := ha.room
    simp only [Config.maxCars]
    omega
  unfold State.takeRoll
  rw [hform, if_neg (by simp), if_neg (BitVec.not_lt.2 ha.epoch)]
  dsimp only
  rw [hown, if_neg (by simp), if_neg hroom]
  rfl

theorem acceptRoll_state (s : State) (x : Epoch) (e : LineEnd) :
    ((s.acceptRoll x).lineEnd e).state = (s.lineEnd e).state :=
  (sameEnds_acceptRoll s x).state e

theorem takeRoll_two {s : State} {e : LineEnd} {f : Frame} {es : List CarEntry} (ha : Acceptable s f.hdr es)
    (hl : (s.lineEnd e).state = .locked) (ho : (s.lineEnd e.other).state = .locked) :
    s.takeRoll e f es = (s.acceptRoll f.hdr.epoch).appendRoll e f es := by
  rw [takeRoll_accept e ha, handOnRoll, joinedEnds_two (e := e) (by rwa [acceptRoll_state]) (by rwa [acceptRoll_state])]

theorem takeRoll_one {s : State} {e : LineEnd} {f : Frame} {es : List CarEntry} (ha : Acceptable s f.hdr es)
    (hl : (s.lineEnd e).state = .locked) (ho : (s.lineEnd e.other).state ≠ .locked) :
    s.takeRoll e f es = (s.acceptRoll f.hdr.epoch).completeRoll e es := by
  rw [takeRoll_accept e ha, handOnRoll, joinedEnds_one (e := e) (by rwa [acceptRoll_state]) (by rwa [acceptRoll_state])]

theorem acceptRoll_of_not_formed {s : State} (x : Epoch) (h : s.roll.state ≠ .formed) :
    s.acceptRoll x = s.setRoll { s.roll with epoch := x } := by
  simp [State.acceptRoll, h]

theorem acceptRoll_of_formed {s : State} (x : Epoch) (h : s.roll.state = .formed) :
    s.acceptRoll x = (s.setRoll { s.roll with epoch := x }).enterRolling := by
  simp [State.acceptRoll, h]

/-- What an intermediate makes of a ROLL: its own entry appended, and the roll timer started again (R42). -/
theorem appendRoll_eq {s : State} {e : LineEnd} (f : Frame) (es : List CarEntry) (ho : (s.lineEnd e.other).state = .locked) :
    s.appendRoll e f es =
      (s.setRoll { s.roll with
        timer := .running (if s.roll.state = .degraded then Config.rollSlowMs else Config.rollFastMs) }).queuedCtrl e.other
        ⟨f.hdr, .roll (es ++ [⟨s.ownId, e.code, s.ownCab.code⟩])⟩ := by
  unfold State.appendRoll
  dsimp only
  rw [State.offerCtrl_roll, restart_fields, offerCtrl_eq_queuedCtrl ho, setRoll_queuedCtrl]
  rfl

theorem appendRoll_lineEnd (s : State) (e : LineEnd) (f : Frame) (es : List CarEntry) :
    (s.appendRoll e f es).lineEnd e = s.lineEnd e := by
  rw [State.appendRoll, State.setRoll_lineEnd, offerCtrl_other_lineEnd]

theorem settingsKept_acceptRoll (s : State) (x : Epoch) : SettingsKept s (s.acceptRoll x) := by
  unfold State.acceptRoll
  dsimp only
  split
  · exact (settingsKept_setRoll s _).trans (settingsKept_enterRolling _)
  · exact settingsKept_setRoll s _

theorem settingsKept_appendRoll (s : State) (e : LineEnd) (f : Frame) (es : List CarEntry) :
    SettingsKept s (s.appendRoll e f es) := by
  unfold State.appendRoll
  exact (settingsKept_offerCtrl s _ _).trans (settingsKept_setRoll _ _)

theorem acceptRoll_lineEnd (s : State) (x : Epoch) (e : LineEnd) : (s.acceptRoll x).lineEnd e = s.lineEnd e := by
  unfold State.acceptRoll
  dsimp only
  split
  · rw [enterRolling_lineEnd, State.setRoll_lineEnd]
  · rw [State.setRoll_lineEnd]

theorem acceptRoll_consist (s : State) (x : Epoch) : (s.acceptRoll x).consist = s.consist := by
  unfold State.acceptRoll
  dsimp only
  split
  · rw [State.enterRolling_consist, State.setRoll_consist]
  · rw [State.setRoll_consist]

/-- Settles O41: a bad ROLL is discarded, and a good one at an intermediate goes on with the own entry behind it. -/
theorem rollDiscardedOrForwarded : Obligations.RollDiscardedOrForwarded := by
  refine ⟨fun s e h es hlen hl hbad => ?_, fun s e h es hl ho hs hok hne hroom hown hx => ?_,
    fun s e h es hl ho hs hok hne hroom hown hx => ?_⟩
  · rw [exec_roll h hlen hl, takeRoll_discard e (by simpa using hbad)]
  · have ha : Acceptable (s.heardOn e) h es := Acceptable.heardOn ⟨hok, hne, hroom, hown, hx⟩ e
    have hnf : (s.heardOn e).roll.state ≠ .formed := by rcases hs with hs | hs <;> simp [hs]
    rw [exec_roll h (by omega) hl, takeRoll_two ha (by simpa using hl) (by simpa using ho), acceptRoll_of_not_formed _ hnf,
      appendRoll_eq _ _ (by simpa using ho)]
    cases e <;> rfl
  · have ha : Acceptable (s.heardOn e) h es := Acceptable.heardOn ⟨hok, hne, hroom, hown, hx⟩ e
    have hf : (s.heardOn e).roll.state = .formed := by simpa using hs
    refine ⟨_, exec_roll h (by omega) hl, ?_⟩
    rw [takeRoll_two ha (by simpa using hl) (by simpa using ho)]
    have hoa : (((s.heardOn e).acceptRoll h.epoch).lineEnd e.other).state = .locked := by simpa [acceptRoll_state] using ho
    refine ⟨?_, ?_, ?_, ?_, ?_, ?_⟩
    · rw [appendRoll_eq _ _ hoa, State.queuedCtrl, State.setEnd_roll, State.setRoll_roll, acceptRoll_roll, if_pos hf]
      simp
    · rw [appendRoll_eq _ _ hoa, State.queuedCtrl, State.setEnd_lineEnd_same, State.setRoll_lineEnd, acceptRoll_lineEnd,
        ownId_congr (acceptRoll_ctrl _ _), ownCab_congr (acceptRoll_ctrl _ _) (by rw [acceptRoll_consist])]
      simp
    · rw [appendRoll_lineEnd, acceptRoll_lineEnd, heardOn_ctrlQ]
    · rw [appendRoll_eq _ _ hoa, State.queuedCtrl, State.setEnd_consist, State.setRoll_consist, acceptRoll_consist, heardOn_consist]
    · rw [appendRoll_eq _ _ hoa, State.queuedCtrl, State.setEnd_attn, State.setRoll_attn, acceptRoll_of_formed _ hf,
        enterRolling_unsettled]
    · exact ((settingsKept_heardOn s e).trans ((settingsKept_acceptRoll _ _).trans (settingsKept_appendRoll _ _ _ _))).keeps

end Sys2Proof.Machine.RollCallProofs
end

section
/-! An adoption taken in two parts: the roll call, the table and the control frames first, the work of the other blocks behind them. And
a roll-call trigger, case by case of the joined ends. -/

namespace Sys2Proof.Machine.RollCallProofs

/-! ## The two parts of an adoption -/

/-- An adoption up to the view step (R49): what the Roll-Call Engine, the line ends and the Consist Table do. -/
def adoptHead (s : State) (r : List RosterEntry) (x : Epoch) (f : Option (LineEnd × Frame)) : State :=
  ((((s.rollAdopt x).updEnds (LineEndSt.trimEpoch x)).tableAdopt r x).offerCtrlIf f).compareOwnCab.adoptionConflict.stepView

/-- The rest of an adoption: purge, reply memory, foreground query, republish burst and bindings. -/
theorem adopt_eq (s : State) (r : List RosterEntry) (x : Epoch) (f : Option (LineEnd × Frame)) :
    s.adopt r x f =
      eitherOrder State.burstStart State.bindingsAdopt (adoptHead s r x f).purge.trafficAdopt.abandonForeground :=
  rfl

theorem serves_adopt (s : State) (r : List RosterEntry) (x : Epoch) (f : Option (LineEnd × Frame)) :
    Serves (adoptHead s r x f) (s.adopt r x f) :=
  serves_adoptTail _

/-- The stores of the blocks behind the Consist Table, the settings of the host and the BINDING_CHANGED event are left alone. -/
structure SameStores (s t : State) : Prop where
  dir : t.dir = s.dir
  traffic : t.traffic = s.traffic
  resolver : t.resolver = s.resolver
  bindings : t.bindings = s.bindings
  port : t.port = s.port
  ctrl : t.ctrl = s.ctrl
  mask : t.attn.mask = s.attn.mask
  disp : t.attn.disp = s.attn.disp
  changed : t.attn.events.bindingChanged = s.attn.events.bindingChanged

theorem SameStores.refl (s : State) : SameStores s s :=
  ⟨rfl, rfl, rfl, rfl, rfl, rfl, rfl, rfl, rfl⟩

theorem SameStores.trans {s t u : State} (h : SameStores s t) (k : SameStores t u) : SameStores s u :=
  ⟨k.dir.trans h.dir, k.traffic.trans h.traffic, k.resolver.trans h.resolver, k.bindings.trans h.bindings, k.port.trans h.port,
    k.ctrl.trans h.ctrl, k.mask.trans h.mask, k.disp.trans h.disp, k.changed.trans h.changed⟩

theorem SameStores.settingsKept {s t : State} (h : SameStores s t) : SettingsKept s t :=
  ⟨h.ctrl, by rw [h.dir], by rw [h.dir], by rw [h.dir], h.mask, h.disp⟩

theorem sameStores_setRoll (s : State) (x : RollCall) : SameStores s (s.setRoll x) :=
  { SameStores.refl s with }

theorem sameStores_setConsist (s : State) (x : ConsistTable) : SameStores s (s.setConsist x) :=
  { SameStores.refl s with }

/-- An event other than BINDING_CHANGED. -/
theorem sameStores_raise (s : State) {f : Events → Events} (h : ∀ ev, (f ev).bindingChanged = ev.bindingChanged) :
    SameStores s (s.raise f) :=
  { SameStores.refl s with changed := h _ }

theorem sameStores_reportFault (s : State) (k : FaultKind) : SameStores s (s.reportFault k) := by
  unfold State.reportFault
  split
  · exact .refl s
  · exact sameStores_raise s fun _ => rfl
  · exact sameStores_raise s fun _ => rfl

theorem sameStores_updEnd (s : State) (e : LineEnd) (f : LineEndSt → LineEndSt) : SameStores s (s.updEnd e f) := by
  cases e <;> exact { SameStores.refl s with }

theorem sameStores_offerCtrl (s : State) (e : LineEnd) (f : Frame) : SameStores s (s.offerCtrl e f) :=
  sameStores_updEnd s e _

theorem sameStores_recomputeCabs (s : State) : SameStores s s.recomputeCabs := by
  unfold State.recomputeCabs
  dsimp only
  split
  · exact (sameStores_setConsist s _).trans (sameStores_reportFault _ _)
  · exact sameStores_setConsist s _

theorem sameStores_compareOwnCab (s : State) : SameStores s s.compareOwnCab := by
  unfold State.compareOwnCab
  split
  · exact .refl s
  · split
    · exact .refl s
    · exact (sameStores_setConsist s _).trans ((sameStores_recomputeCabs _).trans
        ((sameStores_offerCtrl _ _ _).trans (sameStores_offerCtrl _ _ _)))

theorem sameStores_rollAdopt (s : State) (x : Epoch) : SameStores s (s.rollAdopt x) := by
  unfold State.rollAdopt
  dsimp only
  split
  · exact sameStores_setRoll s _
  · exact (sameStores_setRoll s _).trans (sameStores_raise _ fun _ => rfl)

theorem sameStores_offerCtrlIf (s : State) (f : Option (LineEnd × Frame)) : SameStores s (s.offerCtrlIf f) := by
  unfold State.offerCtrlIf
  split
  · exact sameStores_offerCtrl s _ _
  · exact .refl s

theorem sameStores_adoptionConflict (s : State) : SameStores s s.adoptionConflict := by
  unfold State.adoptionConflict
  split
  · exact sameStores_reportFault s _
  · exact .refl s

theorem sameStores_stepView (s : State) : SameStores s s.stepView :=
  (sameStores_setConsist s _).trans (sameStores_raise _ fun _ => rfl)

theorem sameStores_updEnds (s : State) (f : LineEndSt → LineEndSt) : SameStores s (s.updEnds f) :=
  { SameStores.refl s with }

theorem sameStores_tableAdopt (s : State) (r : List RosterEntry) (x : Epoch) : SameStores s (s.tableAdopt r x) :=
  (sameStores_setConsist s _).trans (sameStores_recomputeCabs _)

/-- The first part of an adoption leaves the stores of the other blocks alone. -/
theorem sameStores_adoptHead (s : State) (r : List RosterEntry) (x : Epoch) (f : Option (LineEnd × Frame)) :
    SameStores s (adoptHead s r x f) := by
  unfold adoptHead
  have h := (sameStores_rollAdopt s x).trans ((sameStores_updEnds _ (LineEndSt.trimEpoch x)).trans (sameStores_tableAdopt _ r x))
  exact h.trans ((sameStores_offerCtrlIf _ f).trans ((sameStores_compareOwnCab _).trans
    ((sameStores_adoptionConflict _).trans (sameStores_stepView _))))

/-- An adoption leaves the settings of the host alone. -/
theorem settingsKept_adopt (s : State) (r : List RosterEntry) (x : Epoch) (f : Option (LineEnd × Frame)) :
    SettingsKept s (s.adopt r x f) :=
  (sameStores_adoptHead s r x f).settingsKept.trans (serves_adopt s r x f).settingsKept

theorem adoptHead_view (s : State) (r : List RosterEntry) (x : Epoch) (f : Option (LineEnd × Frame)) :
    (adoptHead s r x f).attn.events.view =
      some ⟨(adoptHead s r x f).consist.view, (adoptHead s r x f).consist.dir, (adoptHead s r x f).consist.n⟩ :=
  rfl

/-- An adoption steps the view number once and reports the new view (R57, R172). -/
theorem adopt_view (s : State) (r : List RosterEntry) (x : Epoch) (f : Option (LineEnd × Frame)) :
    (s.adopt r x f).attn.events.view =
      some ⟨(s.adopt r x f).consist.view, (s.adopt r x f).consist.dir, r.length⟩ := by
  have h := serves_adopt s r x f
  have hn : (s.adopt r x f).consist.n = r.length := by
    rw [adopt_consist, ConsistTable.n]
    exact steered_length r _ _
  rw [h.view, adoptHead_view, ← h.train.consist, hn]

/-! ## The control queues at an adoption -/

/-- The ends of two states are in the same states and hold the same control frames. -/
def SameCtrl (s t : State) : Prop :=
  ∀ e, (t.lineEnd e).state = (s.lineEnd e).state ∧ (t.lineEnd e).ctrlQ = (s.lineEnd e).ctrlQ

theorem SameCtrl.of_eq {s t : State} (h : ∀ e, t.lineEnd e = s.lineEnd e) : SameCtrl s t :=
  fun e => by rw [h e]; exact ⟨rfl, rfl⟩

theorem SameCtrl.trans {s t u : State} (h : SameCtrl s t) (k : SameCtrl t u) : SameCtrl s u :=
  fun e => ⟨(k e).1.trans (h e).1, (k e).2.trans (h e).2⟩

theorem Serves.sameCtrl {s t : State} (h : Serves s t) : SameCtrl s t :=
  fun e => ⟨h.sameEnds.state e, h.ctrlQ e⟩

theorem offerCtrl_lineEnd (s : State) (e e' : LineEnd) (f : Frame) :
    (s.offerCtrl e f).lineEnd e' = if e' = e then (s.lineEnd e).offerCtrl f else s.lineEnd e' :=
  s.updEnd_lineEnd e e' _

theorem lineEndSt_offerCtrl_ctrlQ (l : LineEndSt) (f : Frame) :
    (l.offerCtrl f).ctrlQ = if l.state = .locked then pushCtrl l.ctrlQ f else l.ctrlQ := by
  unfold LineEndSt.offerCtrl
  split <;> rfl

theorem SameCtrl.offerCtrl {s t : State} (h : SameCtrl s t) (e : LineEnd) (f : Frame) :
    SameCtrl (s.offerCtrl e f) (t.offerCtrl e f) := by
  intro e'
  obtain ⟨h1, h2⟩ := h e
  rw [offerCtrl_lineEnd, offerCtrl_lineEnd]
  split
  · rw [LineEndSt.offerCtrl_state, LineEndSt.offerCtrl_state, lineEndSt_offerCtrl_ctrlQ, lineEndSt_offerCtrl_ctrlQ, h1, h2]
    exact ⟨rfl, rfl⟩
  · exact h e'

theorem SameCtrl.offerCtrlIf {s t : State} (h : SameCtrl s t) (f : Option (LineEnd × Frame)) :
    SameCtrl (s.offerCtrlIf f) (t.offerCtrlIf f) := by
  cases f with
  | none => exact h
  | some f => exact h.offerCtrl f.1 f.2

/-- The STEER that an adoption at an epoch sends when the own cab end differs from that of the roster (R48, R64). -/
def adoptSteer (s : State) (r : List RosterEntry) (x : Epoch) : Frame :=
  ⟨⟨x, s.ownId, 0#8, byteOf (rosterIndex r s.ownId)⟩, .steer s.ownCab.code⟩

/-- The state in the middle of an adoption, before the own cab is compared. -/
def adoptMid (s : State) (r : List RosterEntry) (x : Epoch) (f : Option (LineEnd × Frame)) : State :=
  (((s.rollAdopt x).updEnds (LineEndSt.trimEpoch x)).tableAdopt r x).offerCtrlIf f

theorem sameCtrl_adoptMid (s : State) (r : List RosterEntry) (x : Epoch) (f : Option (LineEnd × Frame)) :
    SameCtrl (s.offerCtrlIf f) (adoptMid s r x f) := by
  refine SameCtrl.offerCtrlIf (fun e => ?_) f
  rw [State.tableAdopt, recomputeCabs_lineEnd, State.setConsist_lineEnd, State.updEnds_lineEnd, rollAdopt_lineEnd]
  exact ⟨rfl, rfl⟩

theorem sameCtrl_adopt (s : State) (r : List RosterEntry) (x : Epoch) (f : Option (LineEnd × Frame)) :
    SameCtrl (adoptMid s r x f).compareOwnCab (s.adopt r x f) := by
  refine SameCtrl.trans (.of_eq fun e => ?_) (serves_adopt s r x f).sameCtrl
  rw [adoptHead, State.stepView, State.raiseView, State.raise_lineEnd, State.setConsist_lineEnd, adoptionConflict_lineEnd]
  rfl

theorem adoptMid_ctrl (s : State) (r : List RosterEntry) (x : Epoch) (f : Option (LineEnd × Frame)) :
    (adoptMid s r x f).ctrl = s.ctrl := by
  rw [adoptMid, State.offerCtrlIf_ctrl, State.tableAdopt_ctrl, State.updEnds_ctrl, rollAdopt_ctrl]

/-- What the middle of an adoption holds of the roster. -/
theorem adoptMid_consist (s : State) (r : List RosterEntry) (x : Epoch) (f : Option (LineEnd × Frame)) :
    (adoptMid s r x f).consist.roster = r ∧ (adoptMid s r x f).consist.ea = x ∧
      (adoptMid s r x f).consist.ownIdx = rosterIndex r s.ownId ∧
      (adoptMid s r x f).consist.cabLevel = s.consist.cabLevel := by
  have hid : ((s.rollAdopt x).updEnds (LineEndSt.trimEpoch x)).ownId = s.ownId :=
    ownId_congr (by rw [State.updEnds_ctrl, rollAdopt_ctrl])
  rw [adoptMid, offerCtrlIf_consist, State.tableAdopt, recomputeCabs_consist, State.setConsist_consist, hid,
    State.updEnds_consist, rollAdopt_consist]
  exact ⟨rfl, rfl, rfl, rfl⟩

/-- The own entry of a roster that holds the part. -/
theorem adoptMid_entry {s : State} {r : List RosterEntry} {y : RosterEntry} (x : Epoch) (f : Option (LineEnd × Frame))
    (hi : rosterIndex r s.ownId ≠ 0) (hy : r[rosterIndex r s.ownId - 1]? = some y) :
    (adoptMid s r x f).consist.entry (adoptMid s r x f).consist.ownIdx = some y := by
  obtain ⟨hr, -, ho, -⟩ := adoptMid_consist s r x f
  rw [ConsistTable.entry, hr, ho, if_neg hi, hy]

/-- With the own cab end of the roster right, an adoption offers its frame and no STEER. -/
theorem adopt_ctrlQ_same {s : State} {r : List RosterEntry} {y : RosterEntry} (x : Epoch) (f : Option (LineEnd × Frame))
    (hi : rosterIndex r s.ownId ≠ 0) (hy : r[rosterIndex r s.ownId - 1]? = some y) (hc : y.cab = s.ownCab) (e : LineEnd) :
    ((s.adopt r x f).lineEnd e).ctrlQ = ((s.offerCtrlIf f).lineEnd e).ctrlQ := by
  have hcab := ownCab_congr (adoptMid_ctrl s r x f) (adoptMid_consist s r x f).2.2.2
  have hm : (adoptMid s r x f).compareOwnCab = adoptMid s r x f := by
    rw [State.compareOwnCab, adoptMid_entry x f hi hy]
    exact if_pos (hc.trans hcab.symm)
  rw [(sameCtrl_adopt s r x f e).2, hm, (sameCtrl_adoptMid s r x f e).2]

/-- With the own cab end of the roster wrong, an adoption offers a STEER behind its frame to each joined end. -/
theorem adopt_ctrlQ_steer {s : State} {r : List RosterEntry} {y : RosterEntry} (x : Epoch) (f : Option (LineEnd × Frame))
    (hi : rosterIndex r s.ownId ≠ 0) (hy : r[rosterIndex r s.ownId - 1]? = some y) (hc : y.cab ≠ s.ownCab) (e : LineEnd) :
    ((s.adopt r x f).lineEnd e).ctrlQ =
      ((((s.offerCtrlIf f).offerCtrl .a (adoptSteer s r x)).offerCtrl .b (adoptSteer s r x)).lineEnd e).ctrlQ := by
  obtain ⟨-, hea, hown, hlevel⟩ := adoptMid_consist s r x f
  have hctrl := adoptMid_ctrl s r x f
  have hcab := ownCab_congr hctrl hlevel
  generalize hm : adoptMid s r x f = m at *
  generalize hu : (m.setConsist (m.consist.setCab m.consist.ownIdx m.ownCab)).recomputeCabs = u
  have hsteer : u.steerFrame = adoptSteer s r x := by
    have huctrl : u.ctrl = s.ctrl := by rw [← hu, State.recomputeCabs_ctrl, State.setConsist_ctrl, hctrl]
    have hucons : u.consist.ea = x ∧ u.consist.ownIdx = rosterIndex r s.ownId ∧ u.consist.cabLevel = s.consist.cabLevel := by
      rw [← hu, recomputeCabs_consist, State.setConsist_consist, setCab_eq]
      exact ⟨hea, hown, hlevel⟩
    obtain ⟨h1, h2, h3⟩ := hucons
    rw [State.steerFrame, State.dirFrame, h1, h2, ownId_congr huctrl, ownCab_congr huctrl h3]
    rfl
  have hq : m.compareOwnCab = (u.offerCtrl .a (adoptSteer s r x)).offerCtrl .b (adoptSteer s r x) := by
    rw [State.compareOwnCab, ← hm, adoptMid_entry x f hi hy, hm]
    dsimp only
    rw [if_neg (fun h => hc (h.trans hcab)), hu, State.sendSteer, hsteer]
  have hsame : SameCtrl (s.offerCtrlIf f) u := by
    have h := sameCtrl_adoptMid s r x f
    rw [hm] at h
    exact h.trans (.of_eq fun e => by rw [← hu, recomputeCabs_lineEnd, State.setConsist_lineEnd])
  have hadopt := sameCtrl_adopt s r x f
  rw [hm, hq] at hadopt
  rw [(hadopt e).2, (((hsame.offerCtrl .a _).offerCtrl .b _) e).2]

/-! ## A free order -/

theorem eitherOrder_port (f g : State → State) (s : State) : (eitherOrder f g s).port = (g (f s)).port := by
  unfold eitherOrder; dsimp only; split <;> rfl

theorem eitherOrder_bindings (f g : State → State) (s : State) : (eitherOrder f g s).bindings = (g (f s)).bindings := by
  unfold eitherOrder; dsimp only; split <;> rfl

theorem eitherOrder_dir (f g : State → State) (s : State) : (eitherOrder f g s).dir = (g (f s)).dir := by
  unfold eitherOrder; dsimp only; split <;> rfl

theorem eitherOrder_attn (f g : State → State) (s : State) : (eitherOrder f g s).attn = (g (f s)).attn := by
  unfold eitherOrder; dsimp only; split <;> rfl

theorem eitherOrder_roll (f g : State → State) (s : State) : (eitherOrder f g s).roll = (g (f s)).roll := by
  unfold eitherOrder; dsimp only; split <;> rfl

theorem eitherOrder_consist (f g : State → State) (s : State) : (eitherOrder f g s).consist = (g (f s)).consist := by
  unfold eitherOrder; dsimp only; split <;> rfl

theorem eitherOrder_ctrl (f g : State → State) (s : State) : (eitherOrder f g s).ctrl = (g (f s)).ctrl := by
  unfold eitherOrder; dsimp only; split <;> rfl

/-- The order that is left open changes, in the traffic unit, what is left of the burst alone. -/
theorem eitherOrder_replies (f g : State → State) (s : State) :
    (eitherOrder f g s).traffic.replies = (g (f s)).traffic.replies := by
  unfold eitherOrder; dsimp only; split <;> rfl

/-- Two pieces of work that commute give one state whatever order is chosen. -/
theorem eitherOrder_of_comm {f g : State → State} {s : State} (h : f (g s) = g (f s)) : eitherOrder f g s = g (f s) := by
  simp [eitherOrder, h, sameTraffic]

/-! ## With no command waiting for another car -/

theorem abandonChange_of_none {s : State} (h : s.traffic.change = none) : s.abandonChange = s := by
  rw [State.abandonChange, h]

theorem abandonForeground_of_none {s : State} (h : s.resolver.query = none) : s.abandonForeground = s := by
  rw [State.abandonForeground, h]

/-- The state from which the burst and the bindings of an adoption start when no command waits for another car. -/
def adoptQuiet (s : State) (r : List RosterEntry) (x : Epoch) (f : Option (LineEnd × Frame)) : State :=
  (adoptHead s r x f).purge.setTraffic { s.traffic with replies := [] }

theorem adopt_of_quiet {s : State} (r : List RosterEntry) (x : Epoch) (f : Option (LineEnd × Frame)) (hc : s.traffic.change = none)
    (hq : s.resolver.query = none) :
    s.adopt r x f = eitherOrder State.burstStart State.bindingsAdopt (adoptQuiet s r x f) := by
  have hs := sameStores_adoptHead s r x f
  have hcp : (adoptHead s r x f).purge.traffic.change = none := by
    rw [State.purge, State.setDir_traffic, hs.traffic, hc]
  have hqp : (adoptQuiet s r x f).resolver.query = none := by
    rw [adoptQuiet, State.setTraffic_resolver, State.purge, State.setDir_resolver, hs.resolver, hq]
  have ht : (adoptHead s r x f).purge.trafficAdopt = adoptQuiet s r x f := by
    rw [State.trafficAdopt, abandonChange_of_none hcp, adoptQuiet, State.purge, State.setDir_traffic, hs.traffic]
  rw [adopt_eq, ht, abandonForeground_of_none hqp]

/-- The burst leaves the port, the resolver, the bindings, the directory and the event set alone, and in the traffic unit all but what is
left of itself. -/
structure BurstFrame (s t : State) : Prop where
  port : t.port = s.port
  resolver : t.resolver = s.resolver
  bindings : t.bindings = s.bindings
  dir : t.dir = s.dir
  attn : t.attn = s.attn
  traffic : { t.traffic with remainder := s.traffic.remainder, burst := s.traffic.burst } = s.traffic

theorem BurstFrame.trans {s t u : State} (h : BurstFrame s t) (k : BurstFrame t u) : BurstFrame s u :=
  ⟨k.port.trans h.port, k.resolver.trans h.resolver, k.bindings.trans h.bindings, k.dir.trans h.dir, k.attn.trans h.attn,
    by rw [← h.traffic, ← k.traffic]⟩

theorem burstFrame_publishHome (s : State) (k : Tag × Side) : BurstFrame s (s.publishHome k) := by
  unfold State.publishHome
  split <;> exact ⟨rfl, rfl, rfl, rfl, rfl, rfl⟩

theorem burstFrame_burstFrom (l : List (Tag × Side)) (s : State) : BurstFrame s (s.burstFrom l) := by
  induction l generalizing s with
  | nil => exact ⟨rfl, rfl, rfl, rfl, rfl, rfl⟩
  | cons k l ih =>
    unfold State.burstFrom
    split
    · exact (burstFrame_publishHome s k).trans (ih _)
    · exact ⟨rfl, rfl, rfl, rfl, rfl, rfl⟩

/-- With no command waiting for another car, an adoption ends none. -/
theorem adopt_port_of_quiet {s : State} (r : List RosterEntry) (x : Epoch) (f : Option (LineEnd × Frame))
    (hc : s.traffic.change = none) (hq : s.resolver.query = none) : (s.adopt r x f).port = s.port := by
  rw [adopt_of_quiet r x f hc hq, eitherOrder_port, (State.rebinds_bindingsAdopt _).port, State.burstStart, (burstFrame_burstFrom _ _).port]
  exact (sameStores_adoptHead s r x f).port

/-- With no command waiting for another car, an entry into ROLLING is the end of the burst, and the bindings marked. -/
theorem reportUnsettled_of_quiet {s : State} (hc : s.traffic.change = none) (hq : s.resolver.query = none) :
    s.reportUnsettled = (s.setRemainder []).bindingsUnsettled := by
  have hc' : (s.setRemainder []).traffic.change = none := hc
  have hq' : (s.setRemainder []).resolver.query = none := hq
  rw [State.reportUnsettled, abandonChange_of_none hc', abandonForeground_of_none hq']

theorem enterRolling_port_of_quiet {s : State} (hc : s.traffic.change = none) (hq : s.resolver.query = none) :
    s.enterRolling.port = s.port := by
  unfold State.enterRolling
  generalize hu : (s.setRoll _).raise _ = u
  have hp : u.port = s.port := by rw [← hu]; rfl
  rw [reportUnsettled_of_quiet (by rw [← hu]; exact hc) (by rw [← hu]; exact hq), (State.rebinds_bindingsUnsettled _).port]
  exact hp

theorem startRolling_port_of_quiet {s : State} (hc : s.traffic.change = none) (hq : s.resolver.query = none) :
    s.startRolling.port = s.port := by
  unfold State.startRolling
  split
  · rfl
  · exact enterRolling_port_of_quiet hc hq

/-- With no command waiting for another car, a roll-call trigger ends none. -/
theorem trigger_port_of_quiet {s : State} (hc : s.traffic.change = none) (hq : s.resolver.query = none) :
    s.trigger.port = s.port := by
  have hp := startRolling_port_of_quiet hc hq
  rcases trigger_cases s with ⟨-, -, h⟩ | ⟨e, -, -, h⟩ | ⟨-, -, h⟩ <;> rw [h]
  · exact adopt_port_of_quiet _ _ _ hc hq
  · simpa [State.originate] using hp
  · simpa [State.sendCalls] using hp

/-! ## A roll-call trigger, case by case -/

theorem settingsKept_sendCalls (s : State) : SettingsKept s s.sendCalls :=
  (settingsKept_offerCtrl s _ _).trans (settingsKept_offerCtrl _ _ _)

/-- A roll-call trigger leaves the settings of the host alone. -/
theorem settingsKept_trigger (s : State) : SettingsKept s s.trigger := by
  rcases trigger_cases s with ⟨-, -, h⟩ | ⟨e, -, -, h⟩ | ⟨-, -, h⟩ <;> rw [h]
  · exact settingsKept_adopt s _ _ _
  · exact (settingsKept_startRolling s).trans (settingsKept_originate _ _)
  · exact (settingsKept_startRolling s).trans (settingsKept_sendCalls _)

theorem trigger_one {s : State} {e : LineEnd} (hl : (s.lineEnd e).state = .locked) (ho : (s.lineEnd e.other).state ≠ .locked) :
    s.trigger = s.startRolling.originate e := by
  rw [State.trigger, joinedEnds_one hl ho]

theorem trigger_two {s : State} (ha : s.lineA.state = .locked) (hb : s.lineB.state = .locked) :
    s.trigger = s.startRolling.sendCalls := by
  rw [State.trigger, joinedEnds_two (e := .a) ha hb]

theorem startRolling_ownId (s : State) : s.startRolling.ownId = s.ownId :=
  ownId_congr (startRolling_ctrl s)

theorem startRolling_ownCab (s : State) : s.startRolling.ownCab = s.ownCab :=
  ownCab_congr (startRolling_ctrl s) (by rw [startRolling_consist])

/-- A trigger with one joined end originates a ROLL out of it (R31, R34, R38). -/
theorem originated_trigger {s : State} {e : LineEnd} (hl : (s.lineEnd e).state = .locked)
    (ho : (s.lineEnd e.other).state ≠ .locked) : s.Originated s.trigger e := by
  rw [trigger_one hl ho]
  refine ⟨?_, ?_, ?_⟩
  · rw [originate_roll, startRolling_roll]
    rfl
  · rw [originate_consist, startRolling_consist]
  · rw [originate_ctrlQ (by rw [startRolling_lineEnd, hl]), startRolling_lineEnd, startRolling_roll, startRolling_ownId,
      startRolling_ownCab]

/-- A trigger with two joined ends offers a CALL to both (R31, R34, R35). -/
theorem called_trigger {s : State} (ha : s.lineA.state = .locked) (hb : s.lineB.state = .locked) : s.Called s.trigger := by
  rw [trigger_two ha hb]
  have hla : s.startRolling.lineA = s.lineA := startRolling_lineEnd s .a
  have hlb : s.startRolling.lineB = s.lineB := startRolling_lineEnd s .b
  refine ⟨?_, ?_, ?_, ?_⟩
  · rw [sendCalls_roll, startRolling_roll]
  · rw [sendCalls_consist, startRolling_consist]
  · change (s.startRolling.lineA.offerCtrl _).ctrlQ = _
    rw [lineEndSt_offerCtrl_ctrlQ, hla, if_pos ha, State.rollFrame, startRolling_roll, startRolling_ownId]
    rfl
  · change (s.startRolling.lineB.offerCtrl _).ctrlQ = _
    rw [lineEndSt_offerCtrl_ctrlQ, hlb, if_pos hb, State.rollFrame, startRolling_roll, startRolling_ownId]
    rfl

/-- A trigger with no joined end adopts the part alone (R31, R34). -/
theorem adoptedAlone_trigger {s : State} (ha : s.lineA.state ≠ .locked) (hb : s.lineB.state ≠ .locked) :
    s.AdoptedAlone s.trigger := by
  have ht : s.trigger = s.adopt s.ownRoster (increaseEpoch s.roll.epoch) none := by
    simp [State.trigger, State.joinedEnds, State.joined, State.lineEnd, ha, hb]
  have hi : rosterIndex s.ownRoster s.ownId = 1 := by simp [State.ownRoster, rosterIndex]
  have hc := adopt_consist s s.ownRoster (increaseEpoch s.roll.epoch) none
  have hctrl := State.adopt_ctrl s s.ownRoster (increaseEpoch s.roll.epoch) none
  rw [ht]
  refine ⟨State.adopt_roll _ _ _ _, ?_, ?_, ?_, ?_⟩
  · rw [ownId_congr hctrl, ownCab_congr hctrl (by rw [hc]; rfl), hc]
    change RollCallProofs.steered s.ownRoster (rosterIndex s.ownRoster s.ownId) s.ownCab = _
    rw [hi]
    rfl
  · rw [hc]; rfl
  · rw [hc]; exact hi
  · rw [hc]

end Sys2Proof.Machine.RollCallProofs
end

section
/-! CONSIST_READ and ROLL_CALL. -/

namespace Sys2Proof.Machine.RollCallProofs

/-- A command that the port takes is carried out on the part with that command in flight (R154 to R157). -/
theorem hostCommand_waiting {s : State} (c : Cmd) {tag : Byte} {ps : List Byte} (hs : s.CanTake tag)
    (h : ps.length ≤ Config.maxParams) : s.hostCommand c tag ps = (s.waiting c tag).command c ps := by
  rw [State.hostCommand_taken c hs h]
  obtain ⟨-, -, hp, -⟩ := hs
  congr 1
  unfold State.takeBlock
  dsimp only
  split
  · rename_i hd
    exact absurd hd hp
  · rfl
  · rfl

/-- The completion of a command in flight is its answer (R158). -/
theorem waiting_complete (s : State) (c : Cmd) (tag : Byte) (st : Status) (data : List Byte) (x : Bool) :
    (s.waiting c tag).complete st data x = s.answered tag st data x :=
  rfl

/-- The roster entries of CONSIST_READ in roster order (R73). -/
theorem entryData_list (c : ConsistTable) :
    ((List.range c.n).flatMap fun i => c.entryData (i + 1)) =
      (c.roster.zipIdx 1).flatMap fun p =>
        be32 p.1.ident ++ [p.1.facing.code, p.1.cab.code, byteOf (c.position p.2), byteOfBool (alignedFacing c.dir p.1.facing)] := by
  rw [List.flatMap_def, List.flatMap_def]
  congr 1
  refine List.ext_getElem (by simp [ConsistTable.n]) fun i hi _ => ?_
  have hlt : i < c.roster.length := by simpa [ConsistTable.n] using hi
  simp [ConsistTable.entryData, ConsistTable.entry, ConsistTable.aligned, List.getElem?_eq_getElem hlt, Nat.add_comm]

theorem reports_done {s : State} {c : Cmd} {tag : Byte} {t : State} (hp : t.port = (s.waiting c tag).port) :
    (t.done .success).Reports tag .success [] := by
  refine ⟨rfl, rfl, ?_, rfl⟩
  simp [State.done, State.complete, hp, State.waiting]

/-- Settles O56: the data of CONSIST_READ byte by byte, and ROLL_CALL as the roll-call trigger that it is. -/
theorem consistCommandsOfTheHost : Obligations.ConsistCommandsOfTheHost := by
  refine ⟨fun s tag hs => ?_, fun s tag hs hu => ?_, fun s tag hs hr hquiet => ?_⟩
  · change Host.Outcome.next (s.hostCommand .consistRead tag []) = _
    rw [hostCommand_waiting _ hs (by simp), State.command, State.cmdConsistRead, if_pos rfl, State.gives, waiting_complete]
    have hd : (s.waiting .consistRead tag).consistData = s.consistData := rfl
    rw [hd, State.consistData, entryData_list]
    rfl
  · change Host.Outcome.next (s.hostCommand .rollCall tag []) = _
    have hp : (s.waiting .rollCall tag).ctrl.part = .unidentified := hu
    rw [hostCommand_waiting _ hs (by simp), State.command, State.cmdRollCall, if_neg (by simp), hp]
    rfl
  · refine ⟨(s.waiting .rollCall tag).trigger.done .success, ?_, fun ha hb => ?_, fun ha hb => ?_, fun ha hb => ?_,
      fun ha hb => ?_, ?_, ?_, ?_, ?_⟩
    · change Host.Outcome.next (s.hostCommand .rollCall tag []) = _
      have hp : (s.waiting .rollCall tag).ctrl.part = .ready := hr
      rw [hostCommand_waiting _ hs (by simp), State.command, State.cmdRollCall, if_neg (by simp), hp]
    · exact adoptedAlone_trigger (s := s.waiting .rollCall tag) ha hb
    · exact originated_trigger (s := s.waiting .rollCall tag) (e := .a) ha hb
    · exact originated_trigger (s := s.waiting .rollCall tag) (e := .b) hb ha
    · exact called_trigger (s := s.waiting .rollCall tag) ha hb
    · exact sameEnds_trigger (s.waiting .rollCall tag) .a
    · exact sameEnds_trigger (s.waiting .rollCall tag) .b
    · exact (settingsKept_trigger (s.waiting .rollCall tag)).keeps
    · obtain ⟨hq, hc, -⟩ := hquiet
      exact reports_done (trigger_port_of_quiet (s := s.waiting .rollCall tag) hc hq)

end Sys2Proof.Machine.RollCallProofs
end

section
/-! The republish burst, record by record, and an adoption with an empty Binding Table. -/

namespace Sys2Proof.Machine.RollCallProofs

/-- A state with other directory queues. -/
def withDirQs (s : State) (qa qb : List Frame) : State :=
  { s with lineA := { s.lineA with dirQ := qa }, lineB := { s.lineB with dirQ := qb } }

/-- What the queue of an end holds after a part of the burst depends on the end, the home records and what the frames carry. -/
theorem burstQueue_congr {s t : State} {e : LineEnd} (hs : (t.lineEnd e).state = (s.lineEnd e).state)
    (hq : (t.lineEnd e).dirQ = (s.lineEnd e).dirQ) (hh : t.dir.home = s.dir.home) (hc : t.consist = s.consist)
    (hk : t.ctrl = s.ctrl) (ks : List (Tag × Side)) : t.burstQueue e ks = s.burstQueue e ks := by
  have hp : t.publishFrame = s.publishFrame := by
    funext k
    rw [State.publishFrame, State.publishFrame, hh, hc, ownId_congr hk]
  rw [State.burstQueue, State.burstQueue, hs, hq, hp]

theorem burstRoom_congr {s t : State} (h : ∀ e ks, t.burstQueue e ks = s.burstQueue e ks)
    (hs : ∀ e, (t.lineEnd e).state = (s.lineEnd e).state) (ks : List (Tag × Side)) : t.burstRoom ks ↔ s.burstRoom ks := by
  simp only [State.burstRoom, h, hs]

theorem burstQueue_nil (s : State) (e : LineEnd) : s.burstQueue e [] = (s.lineEnd e).dirQ := by
  simp [State.burstQueue]

/-- The burst may offer a record while every joined end has room (R105). -/
theorem burstMayOffer_iff (s : State) : s.burstMayOffer = true ↔ s.burstRoom [] := by
  simp only [State.burstRoom, burstQueue_nil, List.forall_mem_cons, List.not_mem_nil, false_imp_iff, implies_true, and_true,
    State.burstMayOffer, Bool.and_eq_true, Bool.or_eq_true, decide_eq_true_eq]
  exact and_congr Decidable.imp_iff_not_or.symm Decidable.imp_iff_not_or.symm

/-- One home record published: its frame, if it is held, behind the queue of each joined end (R104). -/
theorem publishHome_eq (s : State) (k : Tag × Side) :
    s.publishHome k = withDirQs s (s.burstQueue .a [k]) (s.burstQueue .b [k]) := by
  have hq (l : LineEndSt) (f : Frame) :
      l.offerDir f = { l with dirQ := if l.state = .locked then pushDir l.dirQ f else l.dirQ } := by
    unfold LineEndSt.offerDir
    split <;> rfl
  unfold State.publishHome
  simp only [State.burstQueue, State.publishFrame, List.flatMap_cons, List.flatMap_nil, List.append_nil]
  change (match s.dir.findHome k.1 k.2 with | some r => _ | none => _) = withDirQs s
    (if s.lineA.state = .locked then ((s.dir.findHome k.1 k.2).toList.map _).foldl pushDir s.lineA.dirQ else s.lineA.dirQ)
    (if s.lineB.state = .locked then ((s.dir.findHome k.1 k.2).toList.map _).foldl pushDir s.lineB.dirQ else s.lineB.dirQ)
  cases s.dir.findHome k.1 k.2 with
  | none => simp [withDirQs]
  | some r =>
    simp only [Option.toList_some, List.map_cons, List.map_nil, List.foldl_cons, List.foldl_nil, withDirQs]
    rw [← hq, ← hq]
    rfl

theorem burstQueue_cons (s : State) (e : LineEnd) (k : Tag × Side) (ks : List (Tag × Side)) :
    (s.publishHome k).burstQueue e ks = s.burstQueue e (k :: ks) := by
  have hp : (withDirQs s (s.burstQueue .a [k]) (s.burstQueue .b [k])).publishFrame = s.publishFrame := rfl
  rw [publishHome_eq, State.burstQueue, hp]
  cases e
  · change (if s.lineA.state = .locked then _ else s.burstQueue .a [k]) = _
    simp only [State.burstQueue, List.flatMap_cons, List.flatMap_nil, List.append_nil, List.foldl_append, State.lineEnd]
    split <;> simp [withDirQs, *]
  · change (if s.lineB.state = .locked then _ else s.burstQueue .b [k]) = _
    simp only [State.burstQueue, List.flatMap_cons, List.flatMap_nil, List.append_nil, List.foldl_append, State.lineEnd]
    split <;> simp [withDirQs, *]

theorem publishHome_state (s : State) (k : Tag × Side) (e : LineEnd) :
    ((s.publishHome k).lineEnd e).state = (s.lineEnd e).state := by
  rw [publishHome_eq]
  cases e <;> rfl

/-- The burst runs for as long as every joined end has room, and holds the rest back (R105). -/
theorem burstFrom_runs (ks : List (Tag × Side)) (s : State) :
    ∃ n ≤ ks.length, (∀ j < n, s.burstRoom (ks.take j)) ∧ (n < ks.length → ¬s.burstRoom (ks.take n)) ∧
      s.burstFrom ks =
        (withDirQs s (s.burstQueue .a (ks.take n)) (s.burstQueue .b (ks.take n))).setRemainder (ks.drop n) := by
  induction ks generalizing s with
  | nil =>
    refine ⟨0, Nat.le_refl 0, by simp, by simp, ?_⟩
    simp only [List.take_nil, List.drop_nil, burstQueue_nil]
    rfl
  | cons k ks ih =>
    rw [State.burstFrom]
    split
    · rename_i hroom
      obtain ⟨n, hn, hbefore, hafter, heq⟩ := ih (s.publishHome k)
      have hr (l : List (Tag × Side)) : (s.publishHome k).burstRoom l ↔ s.burstRoom (k :: l) := by
        simp only [State.burstRoom, burstQueue_cons, publishHome_state]
      refine ⟨n + 1, Nat.succ_le_succ hn, fun j hj => ?_, fun hlt => ?_, ?_⟩
      · cases j with
        | zero => exact (burstMayOffer_iff s).1 hroom
        | succ j => exact (hr _).1 (hbefore j (Nat.lt_of_succ_lt_succ hj))
      · exact fun h => hafter (Nat.lt_of_succ_lt_succ hlt) ((hr _).2 h)
      · rw [heq, burstQueue_cons, burstQueue_cons, publishHome_eq]
        rfl
    · rename_i hroom
      refine ⟨0, Nat.zero_le _, by simp, fun _ => ?_, ?_⟩
      · exact fun h => hroom ((burstMayOffer_iff s).2 h)
      · simp only [List.take_zero, List.drop_zero, burstQueue_nil]
        rfl

theorem setBindings_burstFrom (ks : List (Tag × Side)) (s : State) (b : BindingTable) :
    (s.setBindings b).burstFrom ks = (s.burstFrom ks).setBindings b := by
  induction ks generalizing s with
  | nil => rfl
  | cons k ks ih =>
    have hp : (s.setBindings b).publishHome k = (s.publishHome k).setBindings b := by
      rw [publishHome_eq, publishHome_eq]
      rfl
    have hm : (s.setBindings b).burstMayOffer = s.burstMayOffer := rfl
    rw [State.burstFrom, State.burstFrom, hm]
    split
    · rw [hp, ih]
    · rfl

/-! ## An empty Binding Table -/

/-- No handle of the Binding Table is in use. -/
def NoBindings (s : State) : Prop :=
  ∀ i ∈ slots, s.slot i = .free

theorem foldl_of_fixed {f : State → Nat → State} {l : List Nat} {s : State} (h : ∀ i ∈ l, f s i = s) : l.foldl f s = s := by
  induction l with
  | nil => rfl
  | cons i l ih =>
    rw [List.foldl_cons, h i (List.mem_cons_self ..)]
    exact ih fun j hj => h j (List.mem_cons_of_mem _ hj)

theorem binding_of_free {s : State} {i : Nat} (h : s.slot i = .free) : s.binding i = none := by
  rw [State.binding, h]

/-- With no binding, an adoption at the Binding Table only gives up the background query (R144). -/
theorem bindingsAdopt_of_noBindings {s : State} (h : NoBindings s) : s.bindingsAdopt = s.abandonBackground := by
  have hr : slots.foldl State.reResolve s.abandonBackground = s.abandonBackground :=
    foldl_of_fixed fun i hi => by
      have hb : s.abandonBackground.binding i = none := binding_of_free (s := s.abandonBackground) (h i hi)
      rw [State.reResolve, hb]
  have hf : s.abandonBackground.firstSlot HandleSlot.isPending = none := by
    refine List.find?_eq_none.2 fun i hi => ?_
    have hs : s.abandonBackground.slot i = .free := h i hi
    rw [hs]
    simp [HandleSlot.isPending]
  rw [State.bindingsAdopt, State.reResolveAll, hr, State.startBackground, hf]
  split <;> rfl

theorem bindingsUnsettled_of_noBindings {s : State} (h : NoBindings s) : s.bindingsUnsettled = s.abandonBackground :=
  foldl_of_fixed fun i hi => by
    have hb : s.abandonBackground.binding i = none := binding_of_free (s := s.abandonBackground) (h i hi)
    rw [State.markStale, hb]

/-- With no binding and no command waiting, an adoption ends with the burst, whatever order is chosen (R49). -/
theorem adopt_of_noBindings {s : State} (r : List RosterEntry) (x : Epoch) (f : Option (LineEnd × Frame))
    (hc : s.traffic.change = none) (hq : s.resolver.query = none) (hb : NoBindings s) :
    s.adopt r x f = (adoptQuiet s r x f).burstStart.abandonBackground := by
  have hfree : NoBindings (adoptQuiet s r x f) := by
    intro i hi
    have hbind : (adoptQuiet s r x f).bindings = s.bindings := (sameStores_adoptHead s r x f).bindings
    rw [State.slot, hbind]
    exact hb i hi
  have hburst : NoBindings (adoptQuiet s r x f).burstStart := by
    intro i hi
    rw [State.slot, State.burstStart, (burstFrame_burstFrom _ _).bindings]
    exact hfree i hi
  have hcomm : State.burstStart (State.bindingsAdopt (adoptQuiet s r x f)) =
      State.bindingsAdopt (State.burstStart (adoptQuiet s r x f)) := by
    rw [bindingsAdopt_of_noBindings hfree, bindingsAdopt_of_noBindings hburst]
    have hbind : (adoptQuiet s r x f).burstStart.bindings = (adoptQuiet s r x f).bindings := (burstFrame_burstFrom _ _).bindings
    rw [State.abandonBackground, State.abandonBackground, hbind]
    exact setBindings_burstFrom _ _ _
  rw [adopt_of_quiet r x f hc hq, eitherOrder_of_comm hcomm, bindingsAdopt_of_noBindings hburst]

/-! ## The directory queues up to the burst -/

theorem adoptHead_dirQ (s : State) (r : List RosterEntry) (x : Epoch) (f : Option (LineEnd × Frame)) (e : LineEnd) :
    ((adoptHead s r x f).lineEnd e).dirQ = (s.lineEnd e).dirQ.filter fun g => decide (g.hdr.epoch = x) := by
  have hoffer (t : State) (e' : LineEnd) (g : Frame) : ((t.offerCtrl e' g).lineEnd e).dirQ = (t.lineEnd e).dirQ := by
    rw [offerCtrl_lineEnd]
    split
    · subst e; exact LineEndSt.offerCtrl_dirQ _ _
    · rfl
  have hif (t : State) : ((t.offerCtrlIf f).lineEnd e).dirQ = (t.lineEnd e).dirQ := by
    cases f with
    | none => rfl
    | some f => exact hoffer t f.1 f.2
  have hcab (t : State) : (t.compareOwnCab.lineEnd e).dirQ = (t.lineEnd e).dirQ := by
    unfold State.compareOwnCab
    split
    · rfl
    · split
      · rfl
      · rw [State.sendSteer, hoffer, hoffer, recomputeCabs_lineEnd, State.setConsist_lineEnd]
  rw [adoptHead, State.stepView, State.raiseView, State.raise_lineEnd, State.setConsist_lineEnd, adoptionConflict_lineEnd, hcab, hif,
    State.tableAdopt, recomputeCabs_lineEnd, State.setConsist_lineEnd, State.updEnds_lineEnd, rollAdopt_lineEnd]
  rfl

/-- A state with the directory queues that another state's are when only the frames of one epoch are kept (R49). -/
def withTrimmedQs (t s : State) (x : Epoch) : State :=
  withDirQs t (s.lineA.dirQ.filter fun g => decide (g.hdr.epoch = x)) (s.lineB.dirQ.filter fun g => decide (g.hdr.epoch = x))

/-- An adoption of a part with no binding and no command waiting runs the burst of its home records from the queues that the new epoch
leaves (R105). -/
theorem burstRan_adopt {s : State} (r : List RosterEntry) (x : Epoch) (f : Option (LineEnd × Frame))
    (hc : s.traffic.change = none) (hq : s.resolver.query = none) (hb : NoBindings s) :
    (withTrimmedQs (s.adopt r x f) s x).BurstRan (s.adopt r x f) s.homeKeys := by
  have hkeys : (adoptQuiet s r x f).homeKeys = s.homeKeys := by
    have hd : (adoptQuiet s r x f).dir.home = s.dir.home := by
      rw [adoptQuiet, State.setTraffic_dir, State.purge, State.setDir_dir, (sameStores_adoptHead s r x f).dir]
    rw [State.homeKeys, State.homeKeys, hd]
  obtain ⟨n, hn, hbefore, hafter, heq⟩ := burstFrom_runs (adoptQuiet s r x f).homeKeys (adoptQuiet s r x f)
  have ht : s.adopt r x f = ((adoptQuiet s r x f).burstFrom (adoptQuiet s r x f).homeKeys).abandonBackground :=
    adopt_of_noBindings r x f hc hq hb
  rw [hkeys] at hn hbefore hafter heq ht
  rw [heq] at ht
  have hstate (e : LineEnd) :
      ((withTrimmedQs (s.adopt r x f) s x).lineEnd e).state = ((adoptQuiet s r x f).lineEnd e).state := by
    rw [ht]; cases e <;> rfl
  have hqueue (e : LineEnd) (ks : List (Tag × Side)) :
      (withTrimmedQs (s.adopt r x f) s x).burstQueue e ks = (adoptQuiet s r x f).burstQueue e ks := by
    have hhead := adoptHead_dirQ s r x f e
    refine burstQueue_congr (hstate e) ?_ ?_ ?_ ?_ ks
    · cases e <;> exact hhead.symm
    all_goals rw [ht]; rfl
  have hroom := burstRoom_congr hqueue hstate
  refine ⟨n, by simpa [Nat.lt_succ_iff] using hn, fun j hj => (hroom _).2 (hbefore j (List.mem_range.1 hj)), fun hlt h =>
    hafter hlt ((hroom _).1 h), ?_, ?_, fun e _ => ?_⟩
  · rw [ht]; rfl
  · rw [ht]
    change (!(s.homeKeys.drop n).isEmpty) = _
    rw [Bool.eq_iff_iff]
    simp
  · rw [hqueue, ht]
    cases e <;> rfl

end Sys2Proof.Machine.RollCallProofs
end

section
/-! What a re-resolution reads, and that its order does not matter: two states that hold the same train, the same home records and the same
mirrors in some order answer every question alike. -/

namespace Sys2Proof.Machine.RollCallProofs

/-! ## Mirrors as the resolver sees them -/

/-- A mirror without its pin count. -/
def face (m : Mirror) : Ident × Rec × Freshness :=
  (m.owner, m.body, m.fresh)

/-- The key a mirror is held under (R85). -/
def mirrorKey (m : Mirror) : Ident × Tag × Side :=
  (m.owner, m.body.tag, m.body.side)

/-- No two mirrors of a directory share a key. -/
def KeysNodup (d : Directory) : Prop :=
  (d.mirrors.map mirrorKey).Nodup

/-- Two states that answer every question alike: the same train and home records, and the same mirrors up to their order and pins. -/
structure SameSight (s t : State) : Prop where
  roll : t.roll = s.roll
  consist : t.consist = s.consist
  ctrl : t.ctrl = s.ctrl
  home : t.dir.home = s.dir.home
  mirrors : (t.dir.mirrors.map face).Perm (s.dir.mirrors.map face)

theorem SameSight.refl (s : State) : SameSight s s :=
  ⟨rfl, rfl, rfl, rfl, .refl _⟩

theorem SameSight.trans {s t u : State} (h : SameSight s t) (k : SameSight t u) : SameSight s u :=
  ⟨k.roll.trans h.roll, k.consist.trans h.consist, k.ctrl.trans h.ctrl, k.home.trans h.home, k.mirrors.trans h.mirrors⟩

theorem map_mirrorKey (l : List Mirror) :
    l.map mirrorKey = (l.map face).map fun p => (p.1, p.2.1.tag, p.2.1.side) := by
  rw [List.map_map]
  rfl

theorem SameSight.keysNodup {s t : State} (h : SameSight s t) (hn : KeysNodup s.dir) : KeysNodup t.dir := by
  unfold KeysNodup at *
  rw [map_mirrorKey] at *
  exact (h.mirrors.map _).nodup_iff.2 hn

/-- Work of the Binding Table that changes the pins and the order of the mirrors alone. -/
theorem SameSight.of_rebinds {s t : State} (h : s.Rebinds t) (hm : (t.dir.mirrors.map face).Perm (s.dir.mirrors.map face)) :
    SameSight s t :=
  ⟨h.roll, h.consist, h.ctrl, h.home, hm⟩

theorem movePin_face (d : Directory) (x y : Option (Ident × Tag × Side)) :
    (d.movePin x y).mirrors.map face = d.mirrors.map face := by
  have hr (d : Directory) (k : Ident × Tag × Side) (f : Nat → Nat) : (d.repin k f).mirrors.map face = d.mirrors.map face := by
    rw [Directory.repin, List.map_map]
    refine List.map_congr_left fun m _ => ?_
    simp only [Function.comp_apply]
    split <;> rfl
  unfold Directory.movePin
  split
  · rfl
  · cases x <;> cases y <;> simp only [hr]

theorem hasKey_iff (m : Mirror) (o : Ident) (t : Tag) (sd : Side) : m.hasKey o t sd = true ↔ mirrorKey m = (o, t, sd) := by
  simp [Mirror.hasKey, mirrorKey]

/-- In a list with no key twice, the mirrors with the key of one of them are that one. -/
theorem filter_key_eq {l : List Mirror} (hn : (l.map mirrorKey).Nodup) {m : Mirror} (hm : m ∈ l) :
    (l.filter fun x => decide (mirrorKey x = mirrorKey m)) = [m] := by
  induction l with
  | nil => cases hm
  | cons x l ih =>
    rw [List.map_cons, List.nodup_cons] at hn
    rcases List.mem_cons.1 hm with rfl | hml
    · have : (l.filter fun y => decide (mirrorKey y = mirrorKey m)) = [] :=
        List.filter_eq_nil_iff.2 fun y hy hk => hn.1 (List.mem_map.2 ⟨y, hy, by simpa using hk⟩)
      simp [this]
    · have hx : mirrorKey x ≠ mirrorKey m := fun h => hn.1 (List.mem_map.2 ⟨m, hml, h.symm⟩)
      simp [hx, ih hn.2 hml]

/-- A mirror used is moved to the end of the order of use, and no mirror is lost (R90). -/
theorem touch_perm {d : Directory} (hn : KeysNodup d) (o : Ident) (t : Tag) (sd : Side) :
    (d.touch o t sd).mirrors.Perm d.mirrors := by
  unfold Directory.touch
  split
  · rename_i m hm
    obtain ⟨h1, h2, h3⟩ := Directory.findMirror_key hm
    have hkey : ∀ x : Mirror, x.hasKey o t sd = decide (mirrorKey x = mirrorKey m) := fun x => by
      rw [Bool.eq_iff_iff, hasKey_iff, decide_eq_true_iff, ← h1, ← h2, ← h3]
      rfl
    have hone := filter_key_eq hn (Directory.findMirror_mem hm)
    simp only [hkey]
    rw [← hone]
    exact List.perm_append_comm.trans (List.filter_append_perm _ _)
  · exact .refl _

theorem sameSight_use {s : State} (hn : KeysNodup s.dir) (h : Hit) : SameSight s (s.use h) := by
  refine .of_rebinds (s.rebinds_use h) ?_
  unfold State.use
  split
  · exact .refl _
  · exact (touch_perm hn _ _ _).map face

theorem sameSight_useFound {s : State} (hn : KeysNodup s.dir) (f : Found) : SameSight s (s.useFound f) := by
  cases f
  case hit h => exact sameSight_use hn h
  all_goals exact .refl s

theorem sameSight_setBindings (s : State) (b : BindingTable) : SameSight s (s.setBindings b) :=
  { SameSight.refl s with }

theorem sameSight_takeContents (s : State) (i : Nat) (b : Binding) (st : BindState) (x : Bool) :
    SameSight s (s.takeContents i b st x) := by
  refine .of_rebinds (s.rebinds_takeContents i b st x) ?_
  unfold State.takeContents
  dsimp only
  split
  · rw [State.setDir_dir, movePin_face]
  · rw [State.raise_dir, State.setSlot_dir, State.setDir_dir, movePin_face]

theorem sameSight_reviewBackground (s : State) (i : Nat) (f : Found) : SameSight s (s.reviewBackground i f) := by
  unfold State.reviewBackground
  split
  · exact .refl s
  · split
    · exact .refl s
    · split
      · split
        · exact .refl s
        · exact sameSight_setBindings s _
      all_goals exact sameSight_setBindings s _

/-- A re-resolution changes nothing that another one reads (R143). -/
theorem sameSight_reResolve {s : State} (hn : KeysNodup s.dir) (i : Nat) : SameSight s (s.reResolve i) := by
  unfold State.reResolve
  split
  · exact .refl s
  · exact (sameSight_useFound hn _).trans ((sameSight_takeContents _ _ _ _ _).trans (sameSight_reviewBackground _ _ _))

theorem sameSight_startBackground (s : State) : SameSight s s.startBackground := by
  refine .of_rebinds s.rebinds_startBackground ?_
  unfold State.startBackground
  split
  · split
    · exact .refl _
    · split
      · exact .refl _
      · split
        · exact .refl _
        · split
          · exact .refl _
          · simp [State.freshQuery]
  · exact .refl _

theorem sameSight_markStale (s : State) (i : Nat) : SameSight s (s.markStale i) := by
  unfold State.markStale
  split
  · exact .refl s
  · exact sameSight_takeContents s _ _ _ _

theorem sameSight_bindingsUnsettled (s : State) : SameSight s s.bindingsUnsettled := by
  have h (l : List Nat) (s : State) : SameSight s (l.foldl State.markStale s) := by
    induction l generalizing s with
    | nil => exact .refl s
    | cons i l ih => exact (sameSight_markStale s i).trans (ih _)
  exact (sameSight_setBindings s _).trans (h slots s.abandonBackground)

theorem sameSight_foldl_reResolve (l : List Nat) {s : State} (hn : KeysNodup s.dir) :
    SameSight s (l.foldl State.reResolve s) := by
  induction l generalizing s with
  | nil => exact .refl s
  | cons i l ih =>
    have h := sameSight_reResolve hn i
    exact h.trans (ih (h.keysNodup hn))

theorem sameSight_bindingsAdopt {s : State} (hn : KeysNodup s.dir) : SameSight s s.bindingsAdopt :=
  (sameSight_setBindings s _).trans ((sameSight_foldl_reResolve slots (s := s.abandonBackground) hn).trans
    (sameSight_startBackground _))

/-! ## The same sight, the same answers -/

theorem trainSide_injective (al : Bool) {a b : Side} (h : trainSide al a = trainSide al b) : a = b := by
  revert h
  cases al <;> cases a <;> cases b <;> decide

/-- One order is as good as another in a list of at most one element. -/
theorem perm_eq_of_length_le_one {α : Type} {l m : List α} (h : l.Perm m) (hl : l.length ≤ 1) : l = m := by
  match l, hl with
  | [], _ => exact (List.nil_perm.1 h).symm
  | [a], _ => exact List.singleton_perm.1 h

/-- Of candidates with no car side twice, at most one shows a given train side. -/
theorem length_filter_trainSide {l : List Hit} (hn : (l.map fun h => h.body.side).Nodup) (al : Bool) (ts : TrainSide) :
    (l.filter fun h => decide (trainSide al h.body.side = ts)).length ≤ 1 := by
  have hs : ((l.filter fun h => decide (trainSide al h.body.side = ts)).map fun h => h.body.side).Nodup :=
    hn.sublist ((List.filter_sublist).map _)
  match hm : l.filter fun h => decide (trainSide al h.body.side = ts) with
  | [] => rw [hm]; exact Nat.zero_le _
  | [_] => rw [hm]; exact Nat.le_refl _
  | a :: b :: rest =>
    exfalso
    have ha : a ∈ l.filter fun h => decide (trainSide al h.body.side = ts) := by simp [hm]
    have hb : b ∈ l.filter fun h => decide (trainSide al h.body.side = ts) := by simp [hm]
    have hab := trainSide_injective al ((of_decide_eq_true (List.mem_filter.1 ha).2).trans
      (of_decide_eq_true (List.mem_filter.1 hb).2).symm)
    rw [hm] at hs
    simp [hab] at hs

/-- The choice against the preference order does not depend on the order of candidates with different car sides (R122). -/
theorem preferred_perm {l m : List Hit} (h : l.Perm m) (hn : (l.map fun h => h.body.side).Nodup) (al : Bool) (f : SideFilter) :
    preferred al f l = preferred al f m := by
  have hf (ts : TrainSide) : (l.filter fun h => decide (trainSide al h.body.side = ts)) =
      m.filter fun h => decide (trainSide al h.body.side = ts) :=
    perm_eq_of_length_le_one (h.filter _) (length_filter_trainSide hn al ts)
  simp only [preferred, hf]

/-- The mirrors of one car and tag, as candidates. -/
def mirrorHits (i : Nat) (o : Ident) (t : Tag) (l : List (Ident × Rec × Freshness)) : List Hit :=
  (l.filter fun p => decide (p.1 = o ∧ p.2.1.tag = t)).map fun p => ⟨.mirror, p.2.2, i, o, p.2.1⟩

theorem mirrorHits_eq (i : Nat) (o : Ident) (t : Tag) (l : List Mirror) :
    ((l.filter fun m => decide (m.owner = o ∧ m.body.tag = t)).map fun m => ⟨.mirror, m.fresh, i, o, m.body⟩) =
      mirrorHits i o t (l.map face) := by
  rw [mirrorHits, List.filter_map, List.map_map]
  rfl

theorem mirrorHits_sides {l : List Mirror} (hn : (l.map mirrorKey).Nodup) (i : Nat) (o : Ident) (t : Tag) :
    ((mirrorHits i o t (l.map face)).map fun h => h.body.side).Nodup := by
  have hs : ((l.filter fun m => decide (m.owner = o ∧ m.body.tag = t)).map mirrorKey).Nodup :=
    hn.sublist ((List.filter_sublist).map _)
  have he : (l.filter fun m => decide (m.owner = o ∧ m.body.tag = t)).map mirrorKey =
      ((l.filter fun m => decide (m.owner = o ∧ m.body.tag = t)).map fun m => m.body.side).map fun sd => (o, t, sd) := by
    rw [List.map_map]
    refine List.map_congr_left fun m hm => ?_
    obtain ⟨-, hm⟩ := List.mem_filter.1 hm
    obtain ⟨h1, h2⟩ := of_decide_eq_true hm
    simp [mirrorKey, h1, h2]
  rw [← mirrorHits_eq, List.map_map]
  exact List.Nodup.of_map _ (he ▸ hs)

/-- The record that a car offers for a tag and side filter is the same (R122). -/
theorem SameSight.matchCar {s t : State} (h : SameSight s t) (hn : KeysNodup s.dir) (i : Nat) (g : Tag) (f : SideFilter) :
    t.matchCar i g f = s.matchCar i g f := by
  unfold State.matchCar State.candidates
  rw [h.consist, ownId_congr h.ctrl, h.home]
  cases s.consist.entry i with
  | none => rfl
  | some r =>
    dsimp only
    split
    · rfl
    · rw [mirrorHits_eq, mirrorHits_eq]
      have hp : (mirrorHits i r.ident g (t.dir.mirrors.map face)).Perm (mirrorHits i r.ident g (s.dir.mirrors.map face)) :=
        (h.mirrors.filter _).map _
      rw [preferred_perm hp (mirrorHits_sides (h.keysNodup hn) i r.ident g)]

/-- A question is answered alike. -/
theorem SameSight.resolution {s t : State} (h : SameSight s t) (hn : KeysNodup s.dir) (q : Question) :
    t.resolution q = s.resolution q := by
  have hon (x : Hit) : t.resolvedOn x = s.resolvedOn x := by rw [State.resolvedOn, State.resolvedOn, h.consist]
  unfold State.resolution
  rw [h.roll, h.consist, ownId_congr h.ctrl]
  simp only [h.matchCar hn, hon]

/-- Whether a binding rests on a STALE mirror is seen alike. -/
theorem SameSight.restsOnStale {s t : State} (h : SameSight s t) (b : Binding) : t.restsOnStale b = s.restsOnStale b := by
  have he (d : Directory) : (d.mirrors.any fun m => decide (b.st.mirrorKey b.question.tag = some (m.owner, m.body.tag, m.body.side) ∧
      m.fresh = .stale)) = (d.mirrors.map face).any fun p =>
        decide (b.st.mirrorKey b.question.tag = some (p.1, p.2.1.tag, p.2.1.side) ∧ p.2.2 = .stale) := by
    rw [List.any_map]
    rfl
  rw [State.restsOnStale, State.restsOnStale, he, he, Bool.eq_iff_iff, List.any_eq_true, List.any_eq_true]
  simp only [h.mirrors.mem_iff]

/-- A binding re-resolved comes out alike. -/
theorem SameSight.rebound {s t : State} (h : SameSight s t) (hn : KeysNodup s.dir) (b : Binding) :
    t.rebound b = s.rebound b := by
  simp only [State.rebound, h.resolution hn, h.restsOnStale, h.roll]

/-! ## One re-resolution -/

/-- The state of a binding is what the search gives for its question (R136, R143). -/
theorem bindStateOf_search (s : State) (q : Question) : s.bindStateOf (s.search q) = s.resolution q := by
  have htarget : s.bindStateOf (s.searchTarget q (s.consist.target q.sel)) =
      match s.consist.target q.sel with
      | .absent => .unresolved .notPresent
      | .car i =>
        match s.matchCar i q.tag q.filter with
        | some h => s.resolvedOn h
        | none =>
          if s.roll.state = .formed ∧ (s.consist.entry i).all (fun r => decide (r.ident = s.ownId)) = false then .pending
          else .unresolved .noRecord := by
    cases s.consist.target q.sel with
    | absent => rfl
    | car i =>
      simp only [State.searchTarget]
      cases s.matchCar i q.tag q.filter with
      | some h => rfl
      | none =>
        cases s.consist.entry i with
        | none => simp [State.bindStateOf]
        | some r =>
          by_cases hr : r.ident = s.ownId <;> by_cases hf : s.roll.state = .formed <;> simp [State.bindStateOf, hr, hf]
  unfold State.search State.resolution
  split
  · rename_i hu hsel
    simp [hu, hsel, State.bindStateOf]
  · rename_i hu hsel
    have hs : q.sel ≠ .self := hsel
    simp [hu, hs, State.bindStateOf]
  · rename_i hu hsel
    have hr : s.roll.state ≠ .unformed := fun h => by simp_all
    rw [if_neg hr, if_pos (by assumption)]
    cases s.consist.nearest.findSome? fun i => s.matchCar i q.tag q.filter <;> rfl
  · rw [if_neg (by assumption), if_neg (by assumption)]
    exact htarget

end Sys2Proof.Machine.RollCallProofs
end

section
/-! The Binding Table re-resolved: what each handle holds afterwards, and when BINDING_CHANGED is raised. -/

namespace Sys2Proof.Machine.RollCallProofs

/-! ## The stale flag -/

/-- The mirror found under a key is STALE exactly when some mirror with that key is. -/
theorem findMirror_stale {d : Directory} (hn : KeysNodup d) (k : Ident × Tag × Side) :
    ((d.findMirror k.1 k.2.1 k.2.2).any fun m => decide (m.fresh = .stale)) =
      d.mirrors.any fun m => decide (some k = some (m.owner, m.body.tag, m.body.side) ∧ m.fresh = .stale) := by
  have hkey (m : Mirror) : some k = some (m.owner, m.body.tag, m.body.side) ↔ mirrorKey m = k := by
    rw [Option.some.injEq, eq_comm]
    rfl
  simp only [hkey]
  cases hf : d.findMirror k.1 k.2.1 k.2.2 with
  | none =>
    have hnone : ∀ m ∈ d.mirrors, mirrorKey m ≠ k := fun m hm h =>
      List.find?_eq_none.1 hf m hm ((hasKey_iff m _ _ _).2 h)
    symm
    simpa using fun m hm h => absurd h (hnone m hm)
  | some m =>
    have hm := Directory.findMirror_mem hf
    obtain ⟨h1, h2, h3⟩ := Directory.findMirror_key hf
    have hk : mirrorKey m = k := by rw [mirrorKey, h1, h2, h3]
    have hone {x : Mirror} (hx : x ∈ d.mirrors) (h : mirrorKey x = k) : x = m := by
      have : x ∈ d.mirrors.filter fun x => decide (mirrorKey x = mirrorKey m) := by simp [hx, h, hk]
      rw [filter_key_eq hn hm] at this
      simpa using this
    rw [Option.any_some, Bool.eq_iff_iff, List.any_eq_true]
    refine ⟨fun h => ⟨m, hm, by simpa [hk] using h⟩, fun ⟨x, hx, h⟩ => ?_⟩
    obtain ⟨hxk, hxs⟩ := of_decide_eq_true h
    rw [← hone hx hxk, hxs]
    rfl

/-- The stale flag that new contents bring (R136). -/
theorem staleOf_eq {s : State} (hn : KeysNodup s.dir) (b : Binding) (st : BindState) :
    s.staleOf b.question.tag st =
      (s.roll.state.unsettled || (decide (s.roll.state = .formed) && s.restsOnStale { b with st := st })) := by
  unfold State.staleOf State.restsOnStale
  split
  · simp [*]
  · split
    · simp [*]
    · rename_i hu hf
      rw [Bool.not_eq_true] at hu
      rw [hu, decide_eq_true (not_not.1 hf), Bool.false_or, Bool.true_and]
      dsimp only
      cases st.mirrorKey b.question.tag with
      | none => simp
      | some k =>
        dsimp only
        rw [← findMirror_stale hn k]
        cases s.dir.findMirror k.1 k.2.1 k.2.2 <;> rfl

/-! ## One handle -/

/-- What a re-resolution makes of a handle. -/
def reboundSlot (s : State) : HandleSlot → HandleSlot
  | .held b => .held (s.rebound b)
  | .reserved q => .reserved q
  | .free => .free

/-- A re-resolution finds other contents for a handle. -/
def slotChanges (s : State) : HandleSlot → Bool
  | .held b => decide ((s.rebound b).st ≠ b.st ∨ (s.rebound b).stale ≠ b.stale)
  | .reserved _ => false
  | .free => false

theorem SameSight.reboundSlot {s t : State} (h : SameSight s t) (hn : KeysNodup s.dir) :
    RollCallProofs.reboundSlot t = RollCallProofs.reboundSlot s := by
  funext x
  cases x <;> simp only [RollCallProofs.reboundSlot, h.rebound hn]

theorem SameSight.slotChanges {s t : State} (h : SameSight s t) (hn : KeysNodup s.dir) :
    RollCallProofs.slotChanges t = RollCallProofs.slotChanges s := by
  funext x
  cases x <;> simp only [RollCallProofs.slotChanges, h.rebound hn]

/-- Work that leaves the handles and the event set alone. -/
structure SameHandles (s t : State) : Prop where
  handles : t.bindings.handles = s.bindings.handles
  attn : t.attn = s.attn

theorem SameHandles.trans {s t u : State} (h : SameHandles s t) (k : SameHandles t u) : SameHandles s u :=
  ⟨k.handles.trans h.handles, k.attn.trans h.attn⟩

theorem SameHandles.slot {s t : State} (h : SameHandles s t) (i : Nat) : t.slot i = s.slot i := by
  rw [State.slot, State.slot, h.handles]

theorem sameHandles_useFound (s : State) (f : Found) : SameHandles s (s.useFound f) := by
  cases f
  case hit h =>
    change SameHandles s (s.use h)
    unfold State.use
    split <;> exact ⟨rfl, rfl⟩
  all_goals exact ⟨rfl, rfl⟩

theorem sameHandles_reviewBackground (s : State) (i : Nat) (f : Found) : SameHandles s (s.reviewBackground i f) := by
  unfold State.reviewBackground
  split
  · exact ⟨rfl, rfl⟩
  · split
    · exact ⟨rfl, rfl⟩
    · split
      · split <;> exact ⟨rfl, rfl⟩
      all_goals exact ⟨rfl, rfl⟩

theorem sameHandles_startBackground (s : State) : SameHandles s s.startBackground := by
  unfold State.startBackground
  split
  · split
    · exact ⟨rfl, rfl⟩
    · split
      · exact ⟨rfl, rfl⟩
      · split
        · exact ⟨rfl, rfl⟩
        · split
          · exact ⟨rfl, rfl⟩
          · constructor <;> simp [State.freshQuery, State.setBindings]
  · exact ⟨rfl, rfl⟩

/-- A handle that takes new contents (R150). -/
theorem takeContents_slot {s : State} {i : Nat} {b : Binding} (hi : i < Config.maxHandles) (hb : s.slot i = .held b) (st : BindState)
    (x : Bool) (j : Nat) :
    (s.takeContents i b st x).slot j =
      if i = j then .held { b with st := st, stale := x, changed := b.changed || decide (st ≠ b.st ∨ x ≠ b.stale) }
      else s.slot j := by
  unfold State.takeContents
  dsimp only
  by_cases hc : st = b.st ∧ x = b.stale
  · rw [if_pos hc]
    obtain ⟨rfl, rfl⟩ := hc
    change s.slot j = _
    split
    · subst j
      simp [hb]
    · rfl
  · rw [if_neg hc]
    have hd : decide (st ≠ b.st ∨ x ≠ b.stale) = true := decide_eq_true (not_and_or.1 hc)
    rw [hd, Bool.or_true]
    exact State.slot_setSlot _ i j _ hi

theorem takeContents_changed (s : State) (i : Nat) (b : Binding) (st : BindState) (x : Bool) :
    (s.takeContents i b st x).attn.events.bindingChanged =
      (s.attn.events.bindingChanged || decide (st ≠ b.st ∨ x ≠ b.stale)) := by
  unfold State.takeContents
  dsimp only
  by_cases hc : st = b.st ∧ x = b.stale
  · rw [if_pos hc, decide_eq_false (fun h => h.elim (· hc.1) (· hc.2)), Bool.or_false]
    rfl
  · rw [if_neg hc, decide_eq_true (not_and_or.1 hc), Bool.or_true]
    rfl

/-- One handle re-resolved: it holds its binding rebound, BINDING_CHANGED is raised where the contents differ, and no other handle is
touched (R143, R150). -/
theorem reResolve_handles {s : State} (hn : KeysNodup s.dir) {i : Nat} (hi : i < Config.maxHandles) :
    (∀ j, (s.reResolve i).slot j = if i = j then reboundSlot s (s.slot i) else s.slot j) ∧
      (s.reResolve i).attn.events.bindingChanged = (s.attn.events.bindingChanged || slotChanges s (s.slot i)) := by
  have hnone (h : s.binding i = none) (hx : reboundSlot s (s.slot i) = s.slot i) (hy : slotChanges s (s.slot i) = false) :
      (∀ j, (s.reResolve i).slot j = if i = j then reboundSlot s (s.slot i) else s.slot j) ∧
        (s.reResolve i).attn.events.bindingChanged = (s.attn.events.bindingChanged || slotChanges s (s.slot i)) := by
    have hs : s.reResolve i = s := by rw [State.reResolve, h]
    rw [hs, hx, hy, Bool.or_false]
    refine ⟨fun j => ?_, rfl⟩
    by_cases hij : i = j
    · rw [if_pos hij, hij]
    · rw [if_neg hij]
  cases hb : s.slot i with
  | free => exact hb ▸ hnone (by rw [State.binding, hb]) (by rw [hb]; rfl) (by rw [hb]; rfl)
  | reserved q => exact hb ▸ hnone (by rw [State.binding, hb]) (by rw [hb]; rfl) (by rw [hb]; rfl)
  | held b =>
    have hbind : s.binding i = some b := by rw [State.binding, hb]
    rw [State.reResolve, hbind]
    dsimp only
    have hu := sameHandles_useFound s (s.search b.question)
    have hsight := sameSight_useFound hn (s.search b.question)
    generalize hm : s.useFound (s.search b.question) = m at *
    have hr := sameHandles_reviewBackground (m.takeContents i b (s.bindStateOf (s.search b.question))
      (m.staleOf b.question.tag (s.bindStateOf (s.search b.question)))) i (s.search b.question)
    have hstale : m.staleOf b.question.tag (s.resolution b.question) = (s.rebound b).stale := by
      rw [staleOf_eq (hsight.keysNodup hn), hsight.roll, hsight.restsOnStale]
      rfl
    rw [bindStateOf_search, hstale] at hr
    rw [bindStateOf_search, hstale, hr.attn, takeContents_changed, hu.attn]
    refine ⟨fun j => ?_, rfl⟩
    rw [hr.slot, takeContents_slot hi (by rw [hu.slot, hb]), hu.slot]
    rfl

/-! ## All handles -/

theorem foldl_reResolve_handles {l : List Nat} (hl : l.Nodup) (hmax : ∀ i ∈ l, i < Config.maxHandles) {s : State}
    (hn : KeysNodup s.dir) :
    (∀ j, (l.foldl State.reResolve s).slot j = if j ∈ l then reboundSlot s (s.slot j) else s.slot j) ∧
      (l.foldl State.reResolve s).attn.events.bindingChanged =
        (s.attn.events.bindingChanged || l.any fun i => slotChanges s (s.slot i)) := by
  induction l generalizing s with
  | nil => simp
  | cons i l ih =>
    obtain ⟨hil, hl⟩ := List.nodup_cons.1 hl
    obtain ⟨hslot, hchanged⟩ := reResolve_handles hn (hmax i (List.mem_cons_self ..))
    have hsight := sameSight_reResolve hn i
    obtain ⟨ihs, ihc⟩ := ih hl (fun j hj => hmax j (List.mem_cons_of_mem _ hj)) (hsight.keysNodup hn)
    rw [hsight.reboundSlot hn] at ihs
    rw [hsight.slotChanges hn, hchanged] at ihc
    have hother : ∀ j ∈ l, (s.reResolve i).slot j = s.slot j := fun j hj => by
      rw [hslot, if_neg (by rintro rfl; exact hil hj)]
    refine ⟨fun j => ?_, ?_⟩
    · rw [List.foldl_cons, ihs]
      by_cases hj : j ∈ l
      · rw [if_pos hj, if_pos (List.mem_cons_of_mem _ hj), hother j hj]
      · rw [if_neg hj, hslot]
        by_cases hij : i = j
        · subst j; simp
        · have hmem : j ∉ i :: l := fun h => (List.mem_cons.1 h).elim (fun h => hij h.symm) hj
          rw [if_neg hij, if_neg hmem]
    · rw [List.foldl_cons, ihc, List.any_cons, Bool.or_assoc]
      congr 2
      rw [Bool.eq_iff_iff, List.any_eq_true, List.any_eq_true]
      exact exists_congr fun j => and_congr_right fun hj => by rw [hother j hj]

/-- Every binding of `s` rebound as the part stands in `t`, said handle by handle. -/
theorem rebound_all_iff (s t : State) :
    (s.Rebound t fun _ => true) ↔
      (∀ i ∈ slots, t.slot i = reboundSlot t (s.slot i)) ∧
        t.attn.events.bindingChanged = (s.attn.events.bindingChanged || slots.any fun i => slotChanges t (s.slot i)) := by
  refine and_congr (forall₂_congr fun i _ => ?_) (Eq.congr_right ?_)
  · cases s.slot i <;> rfl
  · congr 2
    funext i
    unfold State.binding
    cases s.slot i <;> rfl

/-- An adoption at the Binding Table re-resolves every binding (R144). -/
theorem rebound_bindingsAdopt {s : State} (hn : KeysNodup s.dir) : s.Rebound s.bindingsAdopt fun _ => true := by
  have hsight := sameSight_bindingsAdopt hn
  have hlt : ∀ i ∈ slots, i < Config.maxHandles := fun i hi => mem_slots.1 hi
  have hnodup : slots.Nodup := List.nodup_range
  obtain ⟨hslot, hchanged⟩ := foldl_reResolve_handles hnodup hlt (s := s.abandonBackground) hn
  have hstart := sameHandles_startBackground (slots.foldl State.reResolve s.abandonBackground)
  refine (rebound_all_iff _ _).2 ⟨fun i hi => ?_, ?_⟩
  · rw [hsight.reboundSlot hn]
    rw [State.bindingsAdopt, State.reResolveAll, hstart.slot, hslot, if_pos hi]
    rfl
  · rw [hsight.slotChanges hn]
    rw [State.bindingsAdopt, State.reResolveAll, hstart.attn, hchanged]
    rfl

end Sys2Proof.Machine.RollCallProofs
end

section
/-! An adoption with no command waiting for another car: the mirrors left, the reply memory, and the bindings. -/

namespace Sys2Proof.Machine.RollCallProofs

/-- A table is re-resolved from any state with the same handles and the same BINDING_CHANGED. -/
theorem rebound_from {s v t : State} (h : v.Rebound t fun _ => true) (hbind : v.bindings = s.bindings)
    (hraised : v.attn.events.bindingChanged = s.attn.events.bindingChanged) : s.Rebound t fun _ => true := by
  have hs (i : Nat) : v.slot i = s.slot i := by rw [State.slot, State.slot, hbind]
  rw [rebound_all_iff] at h ⊢
  simpa only [hs, hraised] using h

/-- A re-resolved table stays one with work that changes neither what the part sees nor the handles. -/
theorem rebound_to {s u t : State} (h : s.Rebound u fun _ => true) (hn : KeysNodup u.dir) (hsight : SameSight u t)
    (hbind : t.bindings = u.bindings) (hattn : t.attn = u.attn) : s.Rebound t fun _ => true := by
  have ht (i : Nat) : t.slot i = u.slot i := by rw [State.slot, State.slot, hbind]
  rw [rebound_all_iff] at h ⊢
  simpa only [ht, hsight.reboundSlot hn, hsight.slotChanges hn, hattn] using h

/-- The mirrors that an adoption leaves, before their order of use changes (R96). -/
theorem adoptQuiet_faces (s : State) (r : List RosterEntry) (x : Epoch) (f : Option (LineEnd × Frame)) :
    (adoptQuiet s r x f).dir.mirrors.map face =
      (s.dir.mirrors.filter fun m => (r.map RosterEntry.ident).contains m.owner).map fun m => (m.owner, m.body, Freshness.stale) := by
  have hdir := (sameStores_adoptHead s r x f).dir
  have hroster : (adoptHead s r x f).consist.roster.map RosterEntry.ident = r.map RosterEntry.ident := by
    rw [← (serves_adopt s r x f).train.consist, adopt_consist]
    exact steered_ident _ _ _
  have hp (m : Mirror) : decide (rosterIndex (adoptHead s r x f).consist.roster m.owner ≠ 0) =
      (r.map RosterEntry.ident).contains m.owner := by
    rw [rosterIndex_congr hroster, Bool.eq_iff_iff, decide_eq_true_iff, rosterIndex_ne_zero, List.contains_iff_mem]
  rw [adoptQuiet, State.setTraffic_dir, State.purge, State.setDir_dir]
  simp only [hp, hdir, List.map_map]
  rfl

theorem adoptQuiet_keysNodup {s : State} (r : List RosterEntry) (x : Epoch) (f : Option (LineEnd × Frame)) (hn : KeysNodup s.dir) :
    KeysNodup (adoptQuiet s r x f).dir := by
  unfold KeysNodup at *
  rw [map_mirrorKey, adoptQuiet_faces, List.map_map]
  exact hn.sublist (List.filter_sublist.map _)

/-- What the bindings find when an adoption re-resolves them after the burst. -/
theorem sameSight_burstStart (s : State) : SameSight s s.burstStart := by
  have h := (serves_burstFrom s.homeKeys s).train
  have hd : s.burstStart.dir = s.dir := (burstFrame_burstFrom _ _).dir
  exact ⟨h.roll, h.consist, h.settings.1, by rw [hd], by rw [hd]⟩

theorem sameSight_adopt {s : State} (r : List RosterEntry) (x : Epoch) (f : Option (LineEnd × Frame)) (hc : s.traffic.change = none)
    (hq : s.resolver.query = none) : SameSight (adoptQuiet s r x f).burstStart.bindingsAdopt (s.adopt r x f) := by
  rw [adopt_of_quiet r x f hc hq]
  refine ⟨eitherOrder_roll _ _ _, eitherOrder_consist _ _ _, eitherOrder_ctrl _ _ _, ?_, ?_⟩ <;> rw [eitherOrder_dir]

/-- With no command waiting, an adoption re-resolves every binding as the part then stands (R144). -/
theorem rebound_adopt {s : State} (r : List RosterEntry) (x : Epoch) (f : Option (LineEnd × Frame)) (hc : s.traffic.change = none)
    (hq : s.resolver.query = none) (hn : KeysNodup s.dir) : s.Rebound (s.adopt r x f) fun _ => true := by
  have hstores := sameStores_adoptHead s r x f
  have hburst := burstFrame_burstFrom (adoptQuiet s r x f).homeKeys (adoptQuiet s r x f)
  have hkeys := (sameSight_burstStart _).keysNodup (adoptQuiet_keysNodup r x f hn)
  have hre : s.Rebound (adoptQuiet s r x f).burstStart.bindingsAdopt fun _ => true :=
    rebound_from (rebound_bindingsAdopt hkeys) (hburst.bindings.trans hstores.bindings)
      ((congrArg (·.events.bindingChanged) hburst.attn).trans hstores.changed)
  refine rebound_to hre ((sameSight_bindingsAdopt hkeys).keysNodup hkeys) (sameSight_adopt r x f hc hq) ?_ ?_
  · rw [adopt_of_quiet r x f hc hq, eitherOrder_bindings]
  · rw [adopt_of_quiet r x f hc hq, eitherOrder_attn]

/-- With no command waiting, an adoption leaves the mirrors of the cars of its roster, all STALE (R96). -/
theorem purged_adopt {s : State} (r : List RosterEntry) (x : Epoch) (f : Option (LineEnd × Frame)) (hc : s.traffic.change = none)
    (hq : s.resolver.query = none) (hn : KeysNodup s.dir) : s.Purged (s.adopt r x f) := by
  have hkeys := (sameSight_burstStart _).keysNodup (adoptQuiet_keysNodup r x f hn)
  have hsight := (sameSight_burstStart (adoptQuiet s r x f)).trans ((sameSight_bindingsAdopt hkeys).trans (sameSight_adopt r x f hc hq))
  have hr : (s.adopt r x f).consist.roster.map RosterEntry.ident = r.map RosterEntry.ident := by
    rw [adopt_consist]
    exact steered_ident _ _ _
  have h := hsight.mirrors
  rw [adoptQuiet_faces, ← hr] at h
  exact h

/-- With no command waiting, an adoption empties the reply memory (R116). -/
theorem replies_adopt {s : State} (r : List RosterEntry) (x : Epoch) (f : Option (LineEnd × Frame)) (hc : s.traffic.change = none)
    (hq : s.resolver.query = none) : (s.adopt r x f).traffic.replies = [] := by
  have hbind {v w : State} (h : v.Rebinds w) : w.traffic.replies = v.traffic.replies := by rw [← h.traffic]
  have hburst {v w : State} (h : BurstFrame v w) : w.traffic.replies = v.traffic.replies := by rw [← h.traffic]
  rw [adopt_of_quiet r x f hc hq, eitherOrder_replies, hbind (State.rebinds_bindingsAdopt _), State.burstStart,
    hburst (burstFrame_burstFrom _ _), adoptQuiet, State.setTraffic_traffic]

end Sys2Proof.Machine.RollCallProofs
end

section
/-! A ROLL completed at a terminal. -/

namespace Sys2Proof.Machine.RollCallProofs

/-! ## The refresh window of an adoption -/

theorem createBinding_refreshT (s : State) (i : Nat) (q : Question) (st : BindState) :
    (s.createBinding i q st).dir.refreshT = s.dir.refreshT := by
  obtain ⟨-, -, -, h, -⟩ := s.dir.movePin_keeps none (st.mirrorKey q.tag)
  exact h

theorem endResolution_refreshT (s : State) (o : Outcome) : (s.endResolution o).dir.refreshT = s.dir.refreshT := by
  have hlookup : (s.completeLookup o).dir.refreshT = s.dir.refreshT := by cases o <;> rfl
  unfold State.endResolution
  split
  · split
    · cases o
      case consistChanged => exact (createBinding_refreshT _ _ _ _).trans (s.rebinds_useFound _).refreshT
      all_goals exact createBinding_refreshT s _ _ _
    all_goals exact hlookup
  · exact hlookup

theorem abandonForeground_refreshT (s : State) : s.abandonForeground.dir.refreshT = s.dir.refreshT := by
  unfold State.abandonForeground
  split
  · rfl
  · exact endResolution_refreshT s.clearForeground _

theorem trafficAdopt_dir (s : State) : s.trafficAdopt.dir = s.dir := by
  rw [State.trafficAdopt, State.setTraffic_dir, State.abandonChange]
  split <;> rfl

/-- An adoption starts the refresh window (R96, R97). -/
theorem adopt_refreshT (s : State) (r : List RosterEntry) (x : Epoch) (f : Option (LineEnd × Frame)) :
    (s.adopt r x f).dir.refreshT = .running Config.refreshMs := by
  rw [adopt_eq, eitherOrder_dir, (State.rebinds_bindingsAdopt _).refreshT, State.burstStart, (burstFrame_burstFrom _ _).dir,
    abandonForeground_refreshT, trafficAdopt_dir]
  rfl

/-! ## An adoption of a roster with the own cab end right -/

/-- The roster holds the part, with this entry. -/
structure OwnEntryIs (s : State) (r : List RosterEntry) (y : RosterEntry) : Prop where
  held : rosterIndex r s.ownId ≠ 0
  entry : r[rosterIndex r s.ownId - 1]? = some y

/-- A roster that says of the part what the part knows is adopted as it stands (R48, R49). -/
theorem adopt_consist_same {s : State} {r : List RosterEntry} {y : RosterEntry} (x : Epoch) (f : Option (LineEnd × Frame))
    (hy : OwnEntryIs s r y) (hc : y.cab = s.ownCab) :
    (s.adopt r x f).consist =
      { s.consist with
        roster := r, ea := x, ownIdx := rosterIndex r s.ownId, digest := rosterDigest r, dir := directionOf r,
        conflict := conflictOf r, view := s.consist.view + 1#16 } := by
  have he : ({ s.consist with roster := r } : ConsistTable).entry (rosterIndex r s.ownId) = some y := by
    rw [ConsistTable.entry, if_neg hy.held]
    exact hy.entry
  have hs : steered r (rosterIndex r s.ownId) s.ownCab = r := hc ▸ steered_same he
  rw [adopt_consist, adoptedTable, hs]

/-! ## The roster of a completed ROLL -/

/-- The roster that a terminal builds from a ROLL that has arrived on an end (R43). -/
def joinedRoster (s : State) (e : LineEnd) (es : List CarEntry) : List RosterEntry :=
  buildRoster (es ++ [⟨s.ownId, e.code, s.ownCab.code⟩])

/-- The ROSTER that a terminal offers of a roster (R44). -/
def offeredRoster (s : State) (x : Epoch) (r : List RosterEntry) : Frame :=
  ⟨⟨x, s.ownId, 0#8, byteOf (rosterIndex r s.ownId)⟩, .roster (r.map RosterEntry.toCar)⟩

theorem cabEnd_ofCode_code (c : CabEnd) : CabEnd.ofCode c.code = some c := by
  cases c <;> rfl

theorem joinedRoster_length (s : State) (e : LineEnd) (es : List CarEntry) : (joinedRoster s e es).length = es.length + 1 := by
  have := (buildRoster_idents (es := es ++ [⟨s.ownId, e.code, s.ownCab.code⟩]) (by simp)).length_eq
  simpa [joinedRoster] using this

/-- Of the own car, the roster of a completed ROLL says what the part knows. -/
theorem joinedRoster_own {s : State} (e : LineEnd) {es : List CarEntry} (hown : ∀ c ∈ es, c.ident ≠ s.ownId) :
    ∃ y, OwnEntryIs s (joinedRoster s e es) y ∧ y.cab = s.ownCab := by
  have hne : es ++ [⟨s.ownId, e.code, s.ownCab.code⟩] ≠ [] := by simp
  have hi : rosterIndex (joinedRoster s e es) s.ownId ≠ 0 :=
    rosterIndex_ne_zero.2 ((buildRoster_idents hne).mem_iff.2 (by simp))
  obtain ⟨y, hy, hid⟩ := rosterIndex_entry hi
  have hcab (b : Bool) (h : ∃ c ∈ es ++ [⟨s.ownId, e.code, s.ownCab.code⟩], CarEntry.toRoster b c = y) : y.cab = s.ownCab := by
    obtain ⟨c, hc, rfl⟩ := h
    rcases List.mem_append.1 hc with hc | hc
    · exact absurd hid (hown c hc)
    · rw [List.mem_singleton.1 hc, CarEntry.toRoster, cabEnd_ofCode_code]
      rfl
  refine ⟨y, ⟨hi, hy⟩, ?_⟩
  have hmem := List.mem_of_getElem? hy
  rcases buildRoster_cases hne with hb | hb <;> rw [joinedRoster, hb] at hmem
  · exact hcab false (List.mem_map.1 hmem)
  · obtain ⟨c, hc, hcy⟩ := List.mem_map.1 hmem
    exact hcab true ⟨c, List.mem_reverse.1 hc, hcy⟩

/-! ## The part that has accepted a ROLL -/

/-- The part after a ROLL has been heard on an end and accepted (R39). -/
def accepted (s : State) (e : LineEnd) (x : Epoch) : State :=
  (s.heardOn e).acceptRoll x

theorem accepted_ctrl (s : State) (e : LineEnd) (x : Epoch) : (accepted s e x).ctrl = s.ctrl := by
  rw [accepted, acceptRoll_ctrl, heardOn_ctrl]

theorem accepted_consist (s : State) (e : LineEnd) (x : Epoch) : (accepted s e x).consist = s.consist := by
  rw [accepted, acceptRoll_consist, heardOn_consist]

theorem accepted_ownId (s : State) (e : LineEnd) (x : Epoch) : (accepted s e x).ownId = s.ownId :=
  ownId_congr (accepted_ctrl s e x)

theorem accepted_ownCab (s : State) (e : LineEnd) (x : Epoch) : (accepted s e x).ownCab = s.ownCab :=
  ownCab_congr (accepted_ctrl s e x) (by rw [accepted_consist])

theorem accepted_epoch (s : State) (e : LineEnd) (x : Epoch) : (accepted s e x).roll.epoch = x := by
  rw [accepted, acceptRoll_roll]
  split <;> rfl

theorem accepted_lastOrig (s : State) (e : LineEnd) (x : Epoch) : (accepted s e x).roll.lastOrig = s.roll.lastOrig := by
  rw [accepted, acceptRoll_roll, heardOn_roll]
  split <;> rfl

theorem accepted_lineEnd (s : State) (e : LineEnd) (x : Epoch) (e' : LineEnd) :
    (accepted s e x).lineEnd e' = (s.heardOn e).lineEnd e' :=
  acceptRoll_lineEnd _ _ _

theorem settingsKept_accepted (s : State) (e : LineEnd) (x : Epoch) : SettingsKept s (accepted s e x) :=
  (settingsKept_heardOn s e).trans (settingsKept_acceptRoll _ _)

/-- The state in which a terminal leaves a completed ROLL (R43, R44). -/
def completed (s : State) (e : LineEnd) (x : Epoch) (es : List CarEntry) : State :=
  (accepted s e x).adopt (joinedRoster s e es) x (some (e, offeredRoster s x (joinedRoster s e es)))

theorem exec_roll_completes {s : State} {e : LineEnd} {h : Header} {es : List CarEntry} (hl : (s.lineEnd e).state = .locked)
    (ho : (s.lineEnd e.other).state ≠ .locked) (ha : Acceptable s h es) :
    exec (.roll e h es) s = .next (completed s e h.epoch es) := by
  have hroom : es.length ≤ 16 := Nat.le_succ_of_le ha.room
  rw [exec_roll h hroom hl, takeRoll_one (ha.heardOn e) (by simpa using hl) (by simpa using ho)]
  change Host.Outcome.next ((accepted s e h.epoch).completeRoll e es) = _
  rw [State.completeRoll, State.ownEntry, State.rollFrame, accepted_ownId, accepted_ownCab, accepted_epoch]
  rfl

theorem completed_roll (s : State) (e : LineEnd) (x : Epoch) (es : List CarEntry) :
    (completed s e x es).roll =
      { epoch := x, state := .formed, attempts := 0, timer := .stopped, lastOrig := s.roll.lastOrig } := by
  rw [completed, State.adopt_roll]
  simp only [accepted_lastOrig]

/-- The own entry is in the roster of a completed ROLL, and its cab end is right. -/
theorem accepted_own {s : State} (e : LineEnd) (x : Epoch) {es : List CarEntry} (hown : ∀ c ∈ es, c.ident ≠ s.ownId) :
    ∃ y, OwnEntryIs (accepted s e x) (joinedRoster s e es) y ∧ y.cab = (accepted s e x).ownCab := by
  obtain ⟨y, hy, hcab⟩ := joinedRoster_own (s := s) e hown
  refine ⟨y, ⟨?_, ?_⟩, by rw [accepted_ownCab, hcab]⟩ <;> rw [accepted_ownId]
  · exact hy.held
  · exact hy.entry

theorem completed_consist {s : State} (e : LineEnd) (x : Epoch) {es : List CarEntry} (hown : ∀ c ∈ es, c.ident ≠ s.ownId) :
    (completed s e x es).consist =
      { s.consist with
        roster := joinedRoster s e es, ea := x, ownIdx := rosterIndex (joinedRoster s e es) s.ownId,
        digest := rosterDigest (joinedRoster s e es), dir := directionOf (joinedRoster s e es),
        conflict := conflictOf (joinedRoster s e es), view := s.consist.view + 1#16 } := by
  obtain ⟨y, hy, hcab⟩ := accepted_own e x hown
  rw [completed, adopt_consist_same _ _ hy hcab, accepted_ownId, accepted_consist]

/-- Of a completed ROLL the arrival end is offered the ROSTER alone (R44). -/
theorem completed_ctrlQ {s : State} {e : LineEnd} (x : Epoch) {es : List CarEntry} (hl : (s.lineEnd e).state = .locked)
    (hown : ∀ c ∈ es, c.ident ≠ s.ownId) :
    ((completed s e x es).lineEnd e).ctrlQ = pushCtrl (s.lineEnd e).ctrlQ (offeredRoster s x (joinedRoster s e es)) := by
  obtain ⟨y, hy, hcab⟩ := accepted_own e x hown
  have hlm : ((accepted s e x).lineEnd e).state = .locked := by rw [accepted_lineEnd, heardOn_state, hl]
  rw [completed, adopt_ctrlQ_same _ _ hy.held hy.entry hcab, State.offerCtrlIf, offerCtrl_ctrlQ hlm, accepted_lineEnd, heardOn_ctrlQ]

theorem settingsKept_completed (s : State) (e : LineEnd) (x : Epoch) (es : List CarEntry) : SettingsKept s (completed s e x es) := by
  rw [completed]
  exact (settingsKept_accepted s e x).trans (settingsKept_adopt _ _ _ _)

/-! ## With no command waiting for another car -/

theorem enterRolling_of_quiet {s : State} (hc : s.traffic.change = none) (hq : s.resolver.query = none) :
    s.enterRolling =
      ((((s.setRoll { s.roll with state := .rolling, attempts := 0, timer := .running Config.rollFastMs }).raise
        (Events.raiseUnsettled .rolling)).setRemainder []).bindingsUnsettled) :=
  reportUnsettled_of_quiet hc hq

/-- With no command waiting, a ROLL accepted leaves none waiting, the mirrors as they were but for pins and order, and the handles in use
those that were. -/
structure AcceptFrame (s t : State) : Prop where
  change : t.traffic.change = none
  query : t.resolver.query = none
  mirrors : (t.dir.mirrors.map face).Perm (s.dir.mirrors.map face)
  noBindings : NoBindings s → NoBindings t

theorem acceptFrame_accepted {s : State} (e : LineEnd) (x : Epoch) (hc : s.traffic.change = none) (hq : s.resolver.query = none) :
    AcceptFrame s (accepted s e x) := by
  by_cases hf : (s.heardOn e).roll.state = .formed
  · rw [accepted, acceptRoll_of_formed _ hf, enterRolling_of_quiet (by rw [State.setRoll_traffic, heardOn_traffic, hc])
      (by rw [State.setRoll_resolver, heardOn_resolver, hq])]
    generalize hu : ((State.raise _ _).setRemainder []) = u
    have hbase : u.traffic.change = none ∧ u.resolver.query = none ∧ u.dir = s.dir ∧ u.bindings = s.bindings := by
      rw [← hu]
      refine ⟨?_, ?_, ?_, ?_⟩
      · exact (congrArg Traffic.change (heardOn_traffic s e)).trans hc
      · exact (congrArg Resolver.query (heardOn_resolver s e)).trans hq
      · exact heardOn_dir s e
      · exact heardOn_bindings s e
    obtain ⟨hchange, hquery, hdir, hbind⟩ := hbase
    have hre := u.rebinds_bindingsUnsettled
    have hmirrors := (sameSight_bindingsUnsettled u).mirrors
    rw [hdir] at hmirrors
    refine ⟨?_, by rw [hre.resolver, hquery], hmirrors, fun hb => ?_⟩
    · rw [← hchange, ← hre.traffic]
    · have hbu : NoBindings u := fun i hi => by rw [State.slot, hbind]; exact hb i hi
      rw [bindingsUnsettled_of_noBindings hbu]
      exact hbu
  · rw [accepted, acceptRoll_of_not_formed _ hf]
    refine ⟨by rw [State.setRoll_traffic, heardOn_traffic, hc], by rw [State.setRoll_resolver, heardOn_resolver, hq],
      by rw [State.setRoll_dir, heardOn_dir], fun hb i hi => ?_⟩
    rw [State.slot, State.setRoll_bindings, heardOn_bindings]
    exact hb i hi

/-- What an adoption leaves of the mirrors depends on the mirrors up to their order. -/
theorem purged_congr {s v t : State} (h : v.Purged t) (hm : (v.dir.mirrors.map face).Perm (s.dir.mirrors.map face)) : s.Purged t := by
  have hface (d : Directory) :
      ((d.mirrors.filter fun m => (t.consist.roster.map RosterEntry.ident).contains m.owner).map fun m =>
        (m.owner, m.body, Freshness.stale)) =
      (((d.mirrors.map face).filter fun p => (t.consist.roster.map RosterEntry.ident).contains p.1).map fun p =>
        (p.1, p.2.1, Freshness.stale)) := by
    rw [List.filter_map, List.map_map]
    rfl
  unfold State.Purged at *
  rw [hface] at *
  exact h.trans ((hm.filter _).map _)

/-- The frames of a new epoch in the directory queues are the same before and after a ROLL is accepted. -/
theorem withTrimmedQs_accepted (t s : State) (e : LineEnd) (x : Epoch) :
    withTrimmedQs t (accepted s e x) x = withTrimmedQs t s x := by
  have hq (e' : LineEnd) : ((accepted s e x).lineEnd e').dirQ = (s.lineEnd e').dirQ := by rw [accepted_lineEnd, heardOn_dirQ]
  have ha : (accepted s e x).lineA.dirQ = s.lineA.dirQ := hq .a
  have hb : (accepted s e x).lineB.dirQ = s.lineB.dirQ := hq .b
  rw [withTrimmedQs, withTrimmedQs, ha, hb]

/-- Settles O42: the terminal adopts the roster of the ROLL with its own entry behind it, in which its own cab end is right. -/
theorem rollCompletedAtATerminal : Obligations.RollCompletedAtATerminal := by
  refine ⟨fun s e h es hl ho _ hok hne hroom hown hx => ?_, fun s e h es ⟨hq, hc, _⟩ hn hl ho _ hok hne hroom hown hx => ?_,
    fun s e h es ⟨hq, hc, _⟩ hb hl ho _ hok hne hroom hown hx => ?_⟩
  · have ht := completed_consist e h.epoch hown
    refine ⟨_, exec_roll_completes hl ho ⟨hok, hne, hroom, hown, hx⟩, completed_roll _ _ _ _, by rw [ht]; rfl, by rw [ht],
      by rw [ht]; rfl, by rw [ht]; rfl, by rw [ht]; rfl, by rw [ht]; rfl, ?_, by rw [ht], ?_, ?_, ?_,
      (settingsKept_completed s e h.epoch es).keeps⟩
    · obtain ⟨y, hy, -⟩ := joinedRoster_own (s := s) e hown
      rw [ht]
      exact hy.held
    · rw [completed]
      exact adopt_refreshT _ _ _ _
    · rw [completed_ctrlQ _ hl hown, ht]
      rfl
    · rw [← joinedRoster_length s e es, completed, adopt_view]
  · have hf := acceptFrame_accepted (s := s) e h.epoch hc hq
    have hkeys : KeysNodup (accepted s e h.epoch).dir := by
      unfold KeysNodup
      rw [map_mirrorKey, (hf.mirrors.map _).nodup_iff, ← map_mirrorKey]
      exact hn
    refine ⟨_, exec_roll_completes hl ho ⟨hok, hne, hroom, hown, hx⟩, ?_, ?_, fun hnf => ?_⟩ <;> rw [completed]
    · exact purged_congr (purged_adopt _ _ _ hf.change hf.query hkeys) hf.mirrors
    · exact replies_adopt _ _ _ hf.change hf.query
    · have hm : accepted s e h.epoch = (s.heardOn e).setRoll { (s.heardOn e).roll with epoch := h.epoch } :=
        acceptRoll_of_not_formed _ (by rwa [heardOn_roll])
      refine rebound_from (rebound_adopt _ _ _ hf.change hf.query hkeys) ?_ ?_
      · rw [hm, State.setRoll_bindings, heardOn_bindings]
      · rw [hm, State.setRoll_attn, heardOn_attn]
  · have hf := acceptFrame_accepted (s := s) e h.epoch hc hq
    have hkeys : (accepted s e h.epoch).homeKeys = s.homeKeys := by
      rw [State.homeKeys, State.homeKeys, (settingsKept_accepted s e h.epoch).keeps.2.1]
    refine ⟨_, exec_roll_completes hl ho ⟨hok, hne, hroom, hown, hx⟩, ?_⟩
    have hburst := burstRan_adopt (joinedRoster s e es) h.epoch (some (e, offeredRoster s h.epoch (joinedRoster s e es))) hf.change hf.query
      (hf.noBindings hb)
    rw [← completed, withTrimmedQs_accepted, hkeys] at hburst
    exact hburst

end Sys2Proof.Machine.RollCallProofs
end

section
/-! A ROSTER received. -/

namespace Sys2Proof.Machine.RollCallProofs

/-! ## The consistency check -/

/-- The roster that a received ROSTER says (R45). -/
def receivedRoster (es : List CarEntry) : List RosterEntry :=
  es.map (CarEntry.toRoster false)

theorem rosterIndex_of_getElem {r : List RosterEntry} (hn : (r.map RosterEntry.ident).Nodup) {i : Nat} {y : RosterEntry}
    (hy : r[i]? = some y) : rosterIndex r y.ident = i + 1 := by
  induction r generalizing i with
  | nil => simp at hy
  | cons x r ih =>
    rw [List.map_cons, List.nodup_cons] at hn
    cases i with
    | zero =>
      have hx : x = y := by simpa using hy
      simp [rosterIndex, hx]
    | succ i =>
      have hy' : r[i]? = some y := by simpa using hy
      have hx : x.ident ≠ y.ident := fun h => hn.1 (h ▸ List.mem_map.2 ⟨y, List.mem_of_getElem? hy', rfl⟩)
      simp [rosterIndex, hx, ih hn.2 hy']

theorem lineEnd_ofCode_code (e : LineEnd) : LineEnd.ofCode e.code = some e := by
  cases e <;> rfl

theorem lineEnd_code_ofCode : ∀ b : Byte, b ≤ 1#8 → ((LineEnd.ofCode b).getD .a).code = b := by
  decide

theorem cabEnd_code_ofCode : ∀ b : Byte, b ≤ 2#8 → ((CabEnd.ofCode b).getD .none).code = b := by
  decide

/-- The facing that a ROSTER arrived on an end must say of the part (R46). -/
theorem faces_iff (p : Prop) [Decidable p] (e face : LineEnd) :
    (if p then decide (e = face) else decide (e ≠ face)) = true ↔ face = if p then e else e.other := by
  split <;> cases e <;> cases face <;> decide

/-- The consistency check, test by test (R46). -/
theorem rosterOk_tests (s : State) (e : LineEnd) (h : Header) (es : List CarEntry) :
    s.rosterOk e ⟨h, .roster es⟩ es = true ↔
      EntriesOk es ∧ rosterIndex (receivedRoster es) s.ownId ≠ 0 ∧ 1 ≤ h.srcIdx.toNat ∧
        h.srcIdx.toNat ≠ rosterIndex (receivedRoster es) s.ownId ∧
        (es[h.srcIdx.toNat - 1]?).map CarEntry.ident = some h.src ∧
        ∃ y, (receivedRoster es)[rosterIndex (receivedRoster es) s.ownId - 1]? = some y ∧
          y.facing = if h.srcIdx.toNat < rosterIndex (receivedRoster es) s.ownId then e else e.other := by
  unfold State.rosterOk
  dsimp only
  rw [← receivedRoster]
  generalize rosterIndex (receivedRoster es) s.ownId = own
  cases hsrc : es[h.srcIdx.toNat - 1]? with
  | none => simp
  | some c =>
    cases hown : (receivedRoster es)[own - 1]? with
    | none => simp
    | some y =>
      dsimp only
      rw [Bool.and_eq_true, faces_iff, Bool.and_eq_true, Bool.and_eq_true, Bool.and_eq_true, Bool.and_eq_true, entriesOk_iff]
      simp only [decide_eq_true_eq, Option.map_some, Option.some.injEq, exists_eq_left']
      tauto

/-- What a fitting ROSTER says of the part. -/
theorem fits_entry {s : State} {e : LineEnd} {h : Header} {es : List CarEntry} {own : Nat} {cab : Byte}
    (hf : s.RosterFits e h es own cab) :
    (receivedRoster es)[own - 1]? =
      some ⟨s.ownId, if h.srcIdx.toNat < own then e else e.other, (CabEnd.ofCode cab).getD .none⟩ := by
  obtain ⟨-, -, -, -, -, hown⟩ := hf
  rw [receivedRoster, List.getElem?_map, hown]
  split <;> simp [CarEntry.toRoster, lineEnd_ofCode_code]

/-- The own roster index of a fitting ROSTER. -/
theorem fits_own {s : State} {e : LineEnd} {h : Header} {es : List CarEntry} {own : Nat} {cab : Byte}
    (hf : s.RosterFits e h es own cab) : rosterIndex (receivedRoster es) s.ownId = own := by
  have he := fits_entry hf
  obtain ⟨⟨-, hn⟩, h1, -⟩ := hf
  have hi := rosterIndex_of_getElem (by rw [receivedRoster, toRoster_idents]; exact hn) he
  rw [Nat.sub_add_cancel h1] at hi
  exact hi

theorem fits_ownEntry {s : State} {e : LineEnd} {h : Header} {es : List CarEntry} {own : Nat} {cab : Byte}
    (hf : s.RosterFits e h es own cab) :
    OwnEntryIs s (receivedRoster es) ⟨s.ownId, if h.srcIdx.toNat < own then e else e.other, (CabEnd.ofCode cab).getD .none⟩ := by
  have he := fits_entry hf
  have ho := fits_own hf
  obtain ⟨-, h1, -⟩ := hf
  exact ⟨by omega, by rw [ho]; exact he⟩

theorem rosterOk_of_fits {s : State} {e : LineEnd} {h : Header} {es : List CarEntry} {own : Nat} {cab : Byte}
    (hf : s.RosterFits e h es own cab) : s.rosterOk e ⟨h, .roster es⟩ es = true := by
  have he := fits_entry hf
  have ho := fits_own hf
  obtain ⟨hok, h1, hs1, hso, hsrc, -⟩ := hf
  rw [rosterOk_tests, ho]
  exact ⟨hok, by omega, hs1, hso, hsrc, _, he, rfl⟩

/-- A ROSTER that passes the check fits the part at its place (R46). -/
theorem fits_of_rosterOk {s : State} {e : LineEnd} {h : Header} {es : List CarEntry}
    (hok : s.rosterOk e ⟨h, .roster es⟩ es = true) :
    ∃ c ∈ es, rosterIndex (receivedRoster es) s.ownId ≤ es.length ∧
      s.RosterFits e h es (rosterIndex (receivedRoster es) s.ownId) c.cab := by
  obtain ⟨hes, hown, hs1, hso, hsrc, y, hy, hface⟩ := (rosterOk_tests s e h es).1 hok
  obtain ⟨y', hy', hid⟩ := rosterIndex_entry hown
  obtain rfl : y = y' := Option.some.inj (hy.symm.trans hy')
  rw [receivedRoster, List.getElem?_map, ← receivedRoster, Option.map_eq_some_iff] at hy
  obtain ⟨c, hc, rfl⟩ := hy
  have hlt := (List.getElem?_eq_some_iff.1 hc).1
  refine ⟨c, List.mem_of_getElem? hc, by omega, hes, by omega, hs1, hso, hsrc, ?_⟩
  obtain ⟨-, -, hle, -⟩ := hes.1 c (List.mem_of_getElem? hc)
  have hcode : c.face = if h.srcIdx.toNat < rosterIndex (receivedRoster es) s.ownId then e.code else e.other.code := by
    rw [← lineEnd_code_ofCode c.face hle]
    change (CarEntry.toRoster false c).facing.code = _
    rw [hface]
    split <;> rfl
  rw [hc, ← hcode, ← hid]
  rfl

/-! ## What the part does with it -/

theorem exec_roster {s : State} {e : LineEnd} (h : Header) {es : List CarEntry} (hlen : 1 ≤ es.length ∧ es.length ≤ 16)
    (hl : (s.lineEnd e).state = .locked) :
    exec (.roster e h es) s = .next ((s.heardOn e).takeRoster e ⟨h, .roster es⟩ es) := by
  have hv : Frame.valid ⟨h, .roster es⟩ = true := by simpa [Frame.valid, Payload.valid] using hlen
  have hr : exec (.roster e h es) s = .next (s.receiveFrame e ⟨h, .roster es⟩) := rfl
  rw [hr, State.receiveFrame, if_pos hv]
  dsimp only
  rw [State.receive, hl]
  rfl

theorem takeRoster_old {s : State} (e : LineEnd) {f : Frame} (es : List CarEntry) (h : f.hdr.epoch < s.roll.epoch) :
    s.takeRoster e f es = s := by
  rw [State.takeRoster, if_pos h]

theorem takeRoster_bad {s : State} {e : LineEnd} {f : Frame} {es : List CarEntry} (hx : s.roll.epoch ≤ f.hdr.epoch)
    (hok : s.rosterOk e f es = false) : s.takeRoster e f es = s.trigger := by
  rw [State.takeRoster, if_neg (BitVec.not_lt.2 hx), hok]
  rfl

/-- In FORMED at Ea a good ROSTER is compared with the roster held (R47). -/
theorem takeRoster_compare {s : State} {e : LineEnd} {f : Frame} {es : List CarEntry} (hx : s.roll.epoch ≤ f.hdr.epoch)
    (hok : s.rosterOk e f es = true) (hs : s.roll.state = .formed ∧ f.hdr.epoch = s.consist.ea) :
    s.takeRoster e f es = if rosterDigest (receivedRoster es) = s.consist.digest then s else s.trigger := by
  rw [State.takeRoster, if_neg (BitVec.not_lt.2 hx), hok, if_neg (by simp), if_pos hs]
  rfl

/-- The frame that an adopted ROSTER is handed on as: to the other end, if it is joined (R48). -/
def handedOn (s : State) (e : LineEnd) (f : Frame) : Option (LineEnd × Frame) :=
  if s.joined e.other then some (e.other, f) else none

theorem takeRoster_adopt {s : State} {e : LineEnd} {f : Frame} {es : List CarEntry} (hx : s.roll.epoch ≤ f.hdr.epoch)
    (hok : s.rosterOk e f es = true) (hs : ¬(s.roll.state = .formed ∧ f.hdr.epoch = s.consist.ea)) :
    s.takeRoster e f es = s.adopt (receivedRoster es) f.hdr.epoch (handedOn s e f) := by
  rw [State.takeRoster, if_neg (BitVec.not_lt.2 hx), hok, if_neg (by simp), if_neg hs]
  rfl

/-- A frame handed on is placed behind the other end's queue, if that end is joined. -/
theorem offerCtrlIf_handedOn (s : State) (e : LineEnd) (f : Frame) : s.offerCtrlIf (handedOn s e f) = s.offerCtrl e.other f := by
  unfold handedOn State.joined
  by_cases h : (s.lineEnd e.other).state = .locked
  · rw [decide_eq_true h]
    rfl
  · rw [decide_eq_false h, offerCtrl_of_not_locked h]
    rfl

theorem handedOn_ctrlQ_other (s : State) (e : LineEnd) (f : Frame) :
    ((s.offerCtrlIf (handedOn s e f)).lineEnd e.other).ctrlQ =
      if (s.lineEnd e.other).state = .locked then pushCtrl (s.lineEnd e.other).ctrlQ f else (s.lineEnd e.other).ctrlQ := by
  rw [offerCtrlIf_handedOn, offerCtrl_lineEnd, if_pos rfl, lineEndSt_offerCtrl_ctrlQ]

theorem handedOn_lineEnd (s : State) (e : LineEnd) (f : Frame) : (s.offerCtrlIf (handedOn s e f)).lineEnd e = s.lineEnd e := by
  rw [offerCtrlIf_handedOn, offerCtrl_other_lineEnd]

/-- A frame offered to both ends is placed behind the queue of each joined one. -/
theorem offerBoth_ctrlQ (s : State) (f : Frame) (e : LineEnd) :
    (((s.offerCtrl .a f).offerCtrl .b f).lineEnd e).ctrlQ =
      if (s.lineEnd e).state = .locked then pushCtrl (s.lineEnd e).ctrlQ f else (s.lineEnd e).ctrlQ := by
  cases e <;> exact lineEndSt_offerCtrl_ctrlQ _ _

/-! ## The part that has heard a ROSTER -/

theorem called_heardOn {s t : State} {e : LineEnd} (h : (s.heardOn e).Called t) : s.Called t := by
  obtain ⟨hr, hc, ha, hb⟩ := h
  have hqa : (s.heardOn e).lineA.ctrlQ = s.lineA.ctrlQ := heardOn_ctrlQ s e .a
  have hqb : (s.heardOn e).lineB.ctrlQ = s.lineB.ctrlQ := heardOn_ctrlQ s e .b
  rw [heardOn_roll] at hr
  rw [heardOn_consist] at hc
  rw [hqa, heardOn_roll, heardOn_ownId] at ha
  rw [hqb, heardOn_roll, heardOn_ownId] at hb
  exact ⟨hr, hc, ha, hb⟩

theorem originated_heardOn {s t : State} {e e' : LineEnd} (h : (s.heardOn e).Originated t e') : s.Originated t e' := by
  simpa only [State.Originated, heardOn_roll, heardOn_consist, heardOn_ctrlQ, heardOn_ownId, heardOn_ownCab] using h

/-- A trigger taken by a part that has heard a frame on a joined end (R34). -/
theorem trigger_heardOn {s : State} {e : LineEnd} (hl : (s.lineEnd e).state = .locked) :
    ((s.lineEnd e.other).state = .locked → s.Called (s.heardOn e).trigger) ∧
      ((s.lineEnd e.other).state ≠ .locked → s.Originated (s.heardOn e).trigger e) ∧ s.KeepsSettings (s.heardOn e).trigger := by
  have hl' : ((s.heardOn e).lineEnd e).state = .locked := by rwa [heardOn_state]
  refine ⟨fun ho => called_heardOn (e := e) ?_, fun ho => originated_heardOn (originated_trigger hl' (by rwa [heardOn_state])),
    ((settingsKept_heardOn s e).trans (settingsKept_trigger _)).keeps⟩
  have ho' : ((s.heardOn e).lineEnd e.other).state = .locked := by rwa [heardOn_state]
  cases e
  · exact called_trigger hl' ho'
  · exact called_trigger ho' hl'

end Sys2Proof.Machine.RollCallProofs
end

section
/-! A ROSTER adopted and handed on. -/

namespace Sys2Proof.Machine.RollCallProofs

/-- The state in which a part that adopts a ROSTER is left (R48, R49). -/
def rosterAdopted (s : State) (e : LineEnd) (h : Header) (es : List CarEntry) : State :=
  (s.heardOn e).adopt (receivedRoster es) h.epoch (handedOn (s.heardOn e) e ⟨h, .roster es⟩)

section
variable {s : State} {e : LineEnd} {h : Header} {es : List CarEntry} {own : Nat} {cab : Byte}

theorem fits_heardOn : (s.heardOn e).RosterFits e h es own cab ↔ s.RosterFits e h es own cab := by
  rw [State.RosterFits, heardOn_ownId]

theorem fits_length (hf : s.RosterFits e h es own cab) : 1 ≤ es.length := by
  obtain ⟨-, -, -, -, -, hown⟩ := hf
  have := (List.getElem?_eq_some_iff.1 hown).1
  omega

theorem exec_roster_adopts (hlen : es.length ≤ 16) (hl : (s.lineEnd e).state = .locked) (hf : s.RosterFits e h es own cab)
    (hx : s.roll.epoch ≤ h.epoch) (hs : ¬(s.roll.state = .formed ∧ h.epoch = s.consist.ea)) :
    exec (.roster e h es) s = .next (rosterAdopted s e h es) := by
  rw [exec_roster h ⟨fits_length hf, hlen⟩ hl, takeRoster_adopt (by rwa [heardOn_roll]) (rosterOk_of_fits (fits_heardOn.2 hf))
    (by rwa [heardOn_roll, heardOn_consist])]
  rfl

/-- The table of a part that has adopted a ROSTER: the cars as it says them, but for the own cab end (R48, R49, R63). -/
theorem rosterAdopted_consist (hf : s.RosterFits e h es own cab) :
    (rosterAdopted s e h es).consist =
      { s.consist with
        roster := steered (receivedRoster es) own s.ownCab, ea := h.epoch, ownIdx := own,
        digest := rosterDigest (receivedRoster es), dir := directionOf (steered (receivedRoster es) own s.ownCab),
        conflict := conflictOf (steered (receivedRoster es) own s.ownCab), view := s.consist.view + 1#16 } := by
  rw [rosterAdopted, adopt_consist, adoptedTable, heardOn_ownId, fits_own hf, heardOn_ownCab, heardOn_consist]

theorem rosterAdopted_state (e' : LineEnd) : ((rosterAdopted s e h es).lineEnd e').state = (s.lineEnd e').state := by
  rw [rosterAdopted, (sameEnds_adopt _ _ _ _).state, heardOn_state]

theorem settingsKept_rosterAdopted : SettingsKept s (rosterAdopted s e h es) := by
  rw [rosterAdopted]
  exact (settingsKept_heardOn s e).trans (settingsKept_adopt _ _ _ _)

/-- The own cab end is right in a ROSTER exactly if its code is that of the own cab end. -/
theorem fits_cab_iff (hf : s.RosterFits e h es own cab) : (CabEnd.ofCode cab).getD .none = s.ownCab ↔ cab = s.ownCab.code := by
  obtain ⟨⟨hok, -⟩, -, -, -, -, hown⟩ := hf
  obtain ⟨-, -, -, hle⟩ := hok _ (List.mem_of_getElem? hown)
  constructor
  · intro hc
    rw [← hc, cabEnd_code_ofCode cab hle]
  · rintro rfl
    rw [cabEnd_ofCode_code]
    rfl

/-- With the own cab end right, the ROSTER is handed on and nothing else is sent (R48, R63). -/
theorem rosterAdopted_ctrlQ_same (hf : s.RosterFits e h es own cab) (hc : cab = s.ownCab.code) (e' : LineEnd) :
    ((rosterAdopted s e h es).lineEnd e').ctrlQ =
      (((s.heardOn e).offerCtrlIf (handedOn (s.heardOn e) e ⟨h, .roster es⟩)).lineEnd e').ctrlQ := by
  have hy := fits_ownEntry (fits_heardOn.2 hf)
  rw [rosterAdopted, adopt_ctrlQ_same _ _ hy.held hy.entry (by rw [heardOn_ownCab]; exact (fits_cab_iff hf).2 hc)]

/-- With the own cab end wrong, a STEER goes behind the ROSTER on each joined end (R48, R63). -/
theorem rosterAdopted_ctrlQ_steer (hf : s.RosterFits e h es own cab) (hc : cab ≠ s.ownCab.code) (e' : LineEnd) :
    ((rosterAdopted s e h es).lineEnd e').ctrlQ =
      if (s.lineEnd e').state = .locked then
        pushCtrl (((s.heardOn e).offerCtrlIf (handedOn (s.heardOn e) e ⟨h, .roster es⟩)).lineEnd e').ctrlQ
          ⟨⟨h.epoch, s.ownId, 0#8, byteOf own⟩, .steer s.ownCab.code⟩
      else (((s.heardOn e).offerCtrlIf (handedOn (s.heardOn e) e ⟨h, .roster es⟩)).lineEnd e').ctrlQ := by
  have hy := fits_ownEntry (fits_heardOn.2 hf)
  have hsteer : adoptSteer (s.heardOn e) (receivedRoster es) h.epoch =
      ⟨⟨h.epoch, s.ownId, 0#8, byteOf own⟩, .steer s.ownCab.code⟩ := by
    rw [adoptSteer, heardOn_ownId, fits_own hf, heardOn_ownCab]
  rw [rosterAdopted, adopt_ctrlQ_steer _ _ hy.held hy.entry (by rw [heardOn_ownCab]; exact fun h => hc ((fits_cab_iff hf).1 h)),
    offerBoth_ctrlQ, hsteer, (sameEnds_offerCtrlIf _ _).state, heardOn_state]

end

/-- Settles O44: below E nothing, a ROSTER that does not fit a trigger, a known one compared, and every other one adopted. -/
theorem rosterReceived : Obligations.RosterReceived := by
  refine ⟨fun s e h es h1 hlen hl hx => ?_, fun s e h es h1 hlen hl hx _ hbad => ?_, fun s e h es own cab hlen hl hf hx hs hea => ?_,
    fun s e h es own cab hlen hl hf hx hs => ?_, fun s e h es own cab ⟨hq, hc, _⟩ hn hlen hl hf hx hs => ?_,
    fun s e h es own cab ⟨hq, hc, _⟩ hb hlen hl hf hx hs => ?_⟩
  · rw [exec_roster h ⟨h1, hlen⟩ hl, takeRoster_old e es (by rwa [heardOn_roll])]
  · have hok : (s.heardOn e).rosterOk e ⟨h, .roster es⟩ es = false := by
      rw [← Bool.not_eq_true]
      intro hok
      obtain ⟨c, hc, hle, hf⟩ := fits_of_rosterOk hok
      exact hbad _ (List.mem_range.2 (by omega)) c hc (fits_heardOn.1 hf)
    refine ⟨(s.heardOn e).trigger, ?_, trigger_heardOn hl⟩
    rw [exec_roster h ⟨h1, hlen⟩ hl, takeRoster_bad (by rwa [heardOn_roll]) hok]
  · refine ⟨_, exec_roster h ⟨fits_length hf, hlen⟩ hl, ?_⟩
    rw [takeRoster_compare (by rwa [heardOn_roll]) (rosterOk_of_fits (fits_heardOn.2 hf))
      (by rw [heardOn_roll, heardOn_consist]; exact ⟨hs, hea⟩), heardOn_consist]
    refine ⟨fun hd => if_pos hd, fun hd => ?_⟩
    have hn : ¬rosterDigest (receivedRoster es) = s.consist.digest := hd
    rw [if_neg hn]
    exact trigger_heardOn hl
  · have ht := rosterAdopted_consist hf
    have hown : own ≠ 0 := by
      obtain ⟨-, h1, -⟩ := hf
      omega
    refine ⟨_, exec_roster_adopts hlen hl hf hx hs, ?_, ?_, by rw [ht], by rw [ht], by rw [ht]; rfl, by rw [ht], by rw [ht], ?_,
      settingsKept_rosterAdopted.keeps, fun hcab => ⟨?_, ?_⟩, fun hcab => ⟨?_, ?_⟩⟩
    · rw [rosterAdopted, State.adopt_roll, heardOn_roll]
    · rw [ht]
      exact if_neg hown
    · rw [rosterAdopted_state, hl]
    · rw [rosterAdopted_ctrlQ_same hf hcab, handedOn_lineEnd, heardOn_ctrlQ]
    · rw [rosterAdopted_ctrlQ_same hf hcab, handedOn_ctrlQ_other, heardOn_state, heardOn_ctrlQ]
    · rw [rosterAdopted_ctrlQ_steer hf hcab, if_pos hl, handedOn_lineEnd, heardOn_ctrlQ]
    · rw [rosterAdopted_ctrlQ_steer hf hcab, handedOn_ctrlQ_other, heardOn_state, heardOn_ctrlQ]
      split <;> rfl
  · have hkeys : KeysNodup (s.heardOn e).dir := by rw [heardOn_dir]; exact hn
    have hc' : (s.heardOn e).traffic.change = none := by rw [heardOn_traffic, hc]
    have hq' : (s.heardOn e).resolver.query = none := by rw [heardOn_resolver, hq]
    refine ⟨_, exec_roster_adopts hlen hl hf hx hs, ?_, ?_, ?_⟩ <;> rw [rosterAdopted]
    · exact purged_congr (purged_adopt _ _ _ hc' hq' hkeys) (by rw [heardOn_dir])
    · exact rebound_from (rebound_adopt _ _ _ hc' hq' hkeys) (heardOn_bindings s e) (by rw [heardOn_attn])
    · exact replies_adopt _ _ _ hc' hq'
  · have hc' : (s.heardOn e).traffic.change = none := by rw [heardOn_traffic, hc]
    have hq' : (s.heardOn e).resolver.query = none := by rw [heardOn_resolver, hq]
    have hb' : NoBindings (s.heardOn e) := fun i hi => by
      rw [State.slot, heardOn_bindings]
      exact hb i hi
    refine ⟨_, exec_roster_adopts hlen hl hf hx hs, ?_⟩
    have hburst := burstRan_adopt (receivedRoster es) h.epoch (handedOn (s.heardOn e) e ⟨h, .roster es⟩) hc' hq' hb'
    have hqa : (s.heardOn e).lineA.dirQ = s.lineA.dirQ := heardOn_dirQ s e .a
    have hqb : (s.heardOn e).lineB.dirQ = s.lineB.dirQ := heardOn_dirQ s e .b
    rw [← rosterAdopted, withTrimmedQs, hqa, hqb, State.homeKeys, heardOn_dir] at hburst
    exact hburst

end Sys2Proof.Machine.RollCallProofs
end

section
/-! Train positions, sides, forwarding ends and the nearest order: what the arithmetic of the Consist Table gives for each D. -/

namespace Sys2Proof.Machine.TrainProofs

/-! ## Positions -/

theorem position_ref {c : ConsistTable} (h : c.dir = .ref) (i : Nat) : c.position i = i := by
  rw [ConsistTable.position, h]

theorem position_far {c : ConsistTable} (h : c.dir = .far) (i : Nat) : c.position i = c.n + 1 - i := by
  rw [ConsistTable.position, h]

/-- The roster index at a position is read by the same arithmetic as the position of a roster index (R67). -/
theorem indexAt_eq_position (c : ConsistTable) (p : Nat) : c.indexAt p = c.position p :=
  rfl

/-- Settles O16: in FAR the positions count the roster from its other end, and counting twice gives the roster index back. -/
theorem trainPositions : Obligations.TrainPositions := by
  intro c i h1 hn
  simp only [indexAt_eq_position]
  refine ⟨fun hd => ⟨position_ref hd i, position_ref hd i⟩, fun hd => ⟨position_far hd i, position_far hd i⟩, ?_⟩
  cases hd : c.dir with
  | ref =>
    simp only [position_ref hd]
    exact ⟨h1, hn, trivial, trivial, by omega, fun _ => rfl⟩
  | far =>
    simp only [position_far hd]
    exact ⟨by omega, by omega, by omega, by omega, by omega, fun _ => rfl⟩

/-! ## Sides -/

theorem alignedFacing_iff (d : Direction) (f : LineEnd) :
    alignedFacing d f = true ↔ (f = .a ∧ d = .ref) ∨ (f = .b ∧ d = .far) := by
  cases d <;> cases f <;> decide

theorem aligned_of_entry {c : ConsistTable} {i : Nat} {r : RosterEntry} (h : c.entry i = some r) :
    c.aligned i = alignedFacing c.dir r.facing := by
  rw [ConsistTable.aligned, h]

/-- LEFT is the train side of one car side alone (R68). -/
theorem trainSide_left_iff (al : Bool) (x : Side) : trainSide al x = .left ↔ x = if al then .s1 else .s2 := by
  cases al <;> cases x <;> decide

/-- RIGHT is the train side of one car side alone (R68). -/
theorem trainSide_right_iff (al : Bool) (x : Side) : trainSide al x = .right ↔ x = if al then .s2 else .s1 := by
  cases al <;> cases x <;> decide

/-- Settles O17: the table of R68, read forwards and backwards. -/
theorem alignmentAndSides : Obligations.AlignmentAndSides := by
  refine ⟨fun c i r h => ?_, fun al x => ?_, fun f => ?_⟩
  · rw [aligned_of_entry h, alignedFacing_iff]
  · exact ⟨rfl, rfl, rfl, rfl, rfl, rfl, trainSide_left_iff al x, trainSide_right_iff al x⟩
  · cases f <;> rfl

/-! ## Forwarding ends -/

/-- A roster index that names a car lies in 1 to N. -/
theorem entry_range {c : ConsistTable} {i : Nat} {r : RosterEntry} (h : c.entry i = some r) : 1 ≤ i ∧ i ≤ c.n := by
  unfold ConsistTable.entry at h
  split at h
  · cases h
  · obtain ⟨hlt, -⟩ := List.getElem?_eq_some_iff.1 h
    rw [ConsistTable.n]
    omega

theorem forwardEnd_none {c : ConsistTable} {t : Nat} (h : t = 0 ∨ c.n < t ∨ t = c.ownIdx) : c.forwardEnd t = none :=
  if_pos h

theorem forwardEnd_below {c : ConsistTable} {t : Nat} (h1 : 1 ≤ t) (hn : t ≤ c.n) (h : t < c.ownIdx) :
    c.forwardEnd t = c.facing := by
  rw [ConsistTable.forwardEnd, if_neg (by omega), if_pos h]

theorem forwardEnd_above {c : ConsistTable} {t : Nat} (hn : t ≤ c.n) (h : c.ownIdx < t) :
    c.forwardEnd t = c.facing.map LineEnd.other := by
  rw [ConsistTable.forwardEnd, if_neg (by omega), if_neg (by omega)]

/-- The forwarding ends of two tables with the same size, own index and own facing. -/
theorem forwardEnd_congr {c c' : ConsistTable} (hn : c'.n = c.n) (ho : c'.ownIdx = c.ownIdx) (hf : c'.facing = c.facing) (t : Nat) :
    c'.forwardEnd t = c.forwardEnd t := by
  rw [ConsistTable.forwardEnd, ConsistTable.forwardEnd, hn, ho, hf]

theorem setCab_n (c : ConsistTable) (i : Nat) (cab : CabEnd) : (c.setCab i cab).n = c.n := by
  rw [RollCallProofs.setCab_eq]
  exact RollCallProofs.steered_length _ _ _

theorem setCab_ownIdx (c : ConsistTable) (i : Nat) (cab : CabEnd) : (c.setCab i cab).ownIdx = c.ownIdx := by
  rw [RollCallProofs.setCab_eq]

theorem setCab_facing (c : ConsistTable) (i : Nat) (cab : CabEnd) : (c.setCab i cab).facing = c.facing := by
  rw [ConsistTable.facing, ConsistTable.facing, setCab_ownIdx]
  unfold ConsistTable.entry ConsistTable.setCab
  split
  · rfl
  · split
    · rfl
    · rw [List.getElem?_modify]
      split <;> simp [Function.comp_def]

/-- Settles O18: the three ranges of R69, and what the forwarding end does not depend on. -/
theorem forwardingEnds : Obligations.ForwardingEnds := by
  intro c t r h
  have hf : c.facing = some r.facing := by rw [ConsistTable.facing, h]; rfl
  obtain ⟨-, hown⟩ := entry_range h
  refine ⟨fun h1 hlt => ?_, fun hlt hn => ?_, fun ht => forwardEnd_none (.inr (.inr ht)), fun ht => forwardEnd_none (.inl ht),
    fun ht => forwardEnd_none (.inr (.inl ht)), fun d => forwardEnd_congr rfl rfl rfl t, fun i cab => ?_⟩
  · rw [forwardEnd_below h1 (by omega) hlt, hf]
  · rw [forwardEnd_above hn hlt, hf]
    rfl
  · exact forwardEnd_congr (setCab_n c i cab) (setCab_ownIdx c i cab) (setCab_facing c i cab) t

/-! ## The nearest order -/

/-- A car comes before another in the nearest order: fewer hops, or as many and the lower train position (R70). -/
def Nearer (c : ConsistTable) (i j : Nat) : Prop :=
  c.hops i < c.hops j ∨ (c.hops i = c.hops j ∧ c.position i < c.position j)

theorem Nearer.ne {c : ConsistTable} {i j : Nat} (h : Nearer c i j) : i ≠ j := by
  rintro rfl
  simp [Nearer] at h

theorem atHops_zero (c : ConsistTable) : c.atHops 0 = [c.ownIdx] :=
  rfl

theorem atHops_ref {c : ConsistTable} (hd : c.dir = .ref) {h : Nat} (h0 : h ≠ 0) :
    c.atHops h = [c.ownIdx - h, c.ownIdx + h].filter fun i => decide (1 ≤ i ∧ i ≤ c.n) := by
  rw [ConsistTable.atHops, if_neg h0, hd]

theorem atHops_far {c : ConsistTable} (hd : c.dir = .far) {h : Nat} (h0 : h ≠ 0) :
    c.atHops h = [c.ownIdx + h, c.ownIdx - h].filter fun i => decide (1 ≤ i ∧ i ≤ c.n) := by
  rw [ConsistTable.atHops, if_neg h0, hd]

/-- The cars listed at a hop count are the cars of the roster at that hop count. -/
theorem mem_atHops {c : ConsistTable} (h1 : 1 ≤ c.ownIdx) (hn : c.ownIdx ≤ c.n) {h i : Nat} :
    i ∈ c.atHops h ↔ 1 ≤ i ∧ i ≤ c.n ∧ c.hops i = h := by
  rw [ConsistTable.hops]
  by_cases h0 : h = 0
  · subst h
    rw [atHops_zero, List.mem_singleton]
    omega
  · cases hd : c.dir with
    | ref =>
      simp only [atHops_ref hd h0, List.mem_filter, List.mem_pair, decide_eq_true_iff]
      omega
    | far =>
      simp only [atHops_far hd h0, List.mem_filter, List.mem_pair, decide_eq_true_iff]
      omega

/-- The two cars at one hop count stand with the lower train position first (R70). -/
theorem pairwise_atHops (c : ConsistTable) (h : Nat) : (c.atHops h).Pairwise (Nearer c) := by
  by_cases h0 : h = 0
  · subst h
    exact List.pairwise_singleton _ _
  · cases hd : c.dir with
    | ref =>
      rw [atHops_ref hd h0, List.pairwise_filter, List.pairwise_pair]
      simp only [Nearer, ConsistTable.hops, position_ref hd, decide_eq_true_iff]
      omega
    | far =>
      rw [atHops_far hd h0, List.pairwise_filter, List.pairwise_pair]
      simp only [Nearer, ConsistTable.hops, position_far hd, decide_eq_true_iff]
      omega

theorem mem_nearest {c : ConsistTable} (h1 : 1 ≤ c.ownIdx) (hn : c.ownIdx ≤ c.n) {i : Nat} :
    i ∈ c.nearest ↔ 1 ≤ i ∧ i ≤ c.n := by
  simp only [ConsistTable.nearest, List.mem_flatMap, List.mem_range, mem_atHops h1 hn]
  constructor
  · rintro ⟨h, -, hi1, hin, -⟩
    exact ⟨hi1, hin⟩
  · rintro ⟨hi1, hin⟩
    refine ⟨c.hops i, ?_, hi1, hin, rfl⟩
    rw [ConsistTable.hops]
    omega

theorem pairwise_nearest {c : ConsistTable} (h1 : 1 ≤ c.ownIdx) (hn : c.ownIdx ≤ c.n) : c.nearest.Pairwise (Nearer c) := by
  rw [ConsistTable.nearest, List.pairwise_flatMap]
  refine ⟨fun h _ => pairwise_atHops c h, List.pairwise_lt_range.imp fun hlt i hi j hj => .inl ?_⟩
  obtain ⟨-, -, rfl⟩ := (mem_atHops h1 hn).1 hi
  obtain ⟨-, -, rfl⟩ := (mem_atHops h1 hn).1 hj
  exact hlt

theorem nodup_nearest {c : ConsistTable} (h1 : 1 ≤ c.ownIdx) (hn : c.ownIdx ≤ c.n) : c.nearest.Nodup :=
  (pairwise_nearest h1 hn).imp Nearer.ne

/-- The nearest order names each car of the roster once. -/
theorem perm_nearest {c : ConsistTable} (h1 : 1 ≤ c.ownIdx) (hn : c.ownIdx ≤ c.n) :
    c.nearest.Perm ((List.range c.n).map (· + 1)) := by
  refine (List.perm_ext_iff_of_nodup (nodup_nearest h1 hn) ?_).2 fun i => ?_
  · exact List.nodup_range.map fun _ _ h => Nat.succ_injective h
  · rw [mem_nearest h1 hn, List.mem_map]
    constructor
    · rintro ⟨hi1, hin⟩
      exact ⟨i - 1, List.mem_range.2 (by omega), by omega⟩
    · rintro ⟨j, hj, rfl⟩
      have := List.mem_range.1 hj
      omega

/-- The own car, at no hops, is the nearest. -/
theorem head_nearest {c : ConsistTable} (h1 : 1 ≤ c.ownIdx) (hn : c.ownIdx ≤ c.n) : c.nearest.head? = some c.ownIdx := by
  obtain ⟨m, hm⟩ := Nat.exists_eq_succ_of_ne_zero (by omega : c.n ≠ 0)
  rw [ConsistTable.nearest, hm, List.range_succ_eq_map]
  rfl

/-- Settles O19: the order is by hops and then by position, which is strict, so each car stands in it once. -/
theorem nearestOrder : Obligations.NearestOrder := by
  intro c h1 hn
  refine ⟨perm_nearest h1 hn, pairwise_nearest h1 hn, head_nearest h1 hn, ?_, fun t => ?_, fun h16 t ht1 htn => ?_⟩
  · simp [ConsistTable.hops]
  · rw [ConsistTable.hops, Int.abs_eq_natAbs]
    omega
  · rw [ConsistTable.hops]
    omega

end Sys2Proof.Machine.TrainProofs
end

section
/-! An active cab end written into the roster: D and the cab conflict flag with it, the view number and the bindings where D changes. The
debounced cab input and a received STEER are the two ways to it. -/

namespace Sys2Proof.Machine.TrainProofs

open RollCallProofs

/-! ## A cab end written -/

/-- The part with the active cab end of one entry written and D recomputed (R58, R62, R65). -/
def cabWritten (s : State) (i : Nat) (cab : CabEnd) : State :=
  (s.setConsist (s.consist.setCab i cab)).recomputeDirection

/-- A recomputation steps the view and re-resolves the bindings exactly when D changes (R57, R58). -/
theorem recomputeDirection_cases (s : State) :
    (directionOf s.consist.roster = s.consist.dir ∧ s.recomputeDirection = s.recomputeCabs) ∨
      (directionOf s.consist.roster ≠ s.consist.dir ∧ s.recomputeDirection = s.recomputeCabs.stepView.reResolveAll) := by
  have hd : s.recomputeCabs.consist.dir = directionOf s.consist.roster := by rw [recomputeCabs_consist]
  unfold State.recomputeDirection
  dsimp only
  rw [hd]
  by_cases h : directionOf s.consist.roster = s.consist.dir
  · exact .inl ⟨h, if_pos h⟩
  · exact .inr ⟨h, if_neg h⟩

theorem recomputeDirection_consist (s : State) :
    s.recomputeDirection.consist =
      { s.consist with
        dir := directionOf s.consist.roster
        conflict := conflictOf s.consist.roster
        view := if directionOf s.consist.roster = s.consist.dir then s.consist.view else s.consist.view + 1#16 } := by
  rcases recomputeDirection_cases s with ⟨h, he⟩ | ⟨h, he⟩
  · rw [he, recomputeCabs_consist, if_pos h]
  · rw [he, (State.rebinds_reResolveAll _).consist, State.stepView, State.raiseView, State.raise_consist, State.setConsist_consist,
      recomputeCabs_consist, if_neg h]

/-- The Consist Table with a cab end written (R57 to R59). -/
theorem cabWritten_consist (s : State) (i : Nat) (cab : CabEnd) :
    (cabWritten s i cab).consist =
      { s.consist with
        roster := (s.consist.setCab i cab).roster
        dir := directionOf (s.consist.setCab i cab).roster
        conflict := conflictOf (s.consist.setCab i cab).roster
        view := if directionOf (s.consist.setCab i cab).roster = s.consist.dir then s.consist.view else s.consist.view + 1#16 } := by
  rw [cabWritten, recomputeDirection_consist, State.setConsist_consist, setCab_eq]

/-! ## What a cab end written leaves alone -/

/-- Work on the Consist Table, with its reports to the attention unit and the Binding Table: it leaves the roll call, the port, the
host's settings and the control queues alone. -/
structure TableWork (s t : State) : Prop where
  roll : t.roll = s.roll
  port : t.port = s.port
  settings : SettingsKept s t
  ctrlQs : SameCtrl s t

theorem TableWork.trans {s t u : State} (h : TableWork s t) (k : TableWork t u) : TableWork s u :=
  ⟨k.roll.trans h.roll, k.port.trans h.port, h.settings.trans k.settings, h.ctrlQs.trans k.ctrlQs⟩

/-- Work that leaves the stores of the other blocks and the line ends alone. -/
theorem TableWork.of_sameStores {s t : State} (h : SameStores s t) (hr : t.roll = s.roll) (he : ∀ e, t.lineEnd e = s.lineEnd e) :
    TableWork s t :=
  ⟨hr, h.port, h.settingsKept, .of_eq he⟩

theorem TableWork.ctrl {s t : State} (h : TableWork s t) : t.ctrl = s.ctrl :=
  h.settings.keeps.1

theorem tableWork_setConsist (s : State) (x : ConsistTable) : TableWork s (s.setConsist x) :=
  .of_sameStores (sameStores_setConsist s x) rfl fun e => State.setConsist_lineEnd s x e

theorem tableWork_recomputeCabs (s : State) : TableWork s s.recomputeCabs :=
  .of_sameStores (sameStores_recomputeCabs s) (State.recomputeCabs_roll s) (recomputeCabs_lineEnd s)

theorem tableWork_stepView (s : State) : TableWork s s.stepView :=
  .of_sameStores (sameStores_stepView s) rfl fun e => by cases e <;> rfl

theorem serves_reResolveAll (s : State) : Serves s s.reResolveAll :=
  (Serves.foldl serves_reResolve slots s).trans (serves_startBackground _)

theorem tableWork_reResolveAll (s : State) : TableWork s s.reResolveAll :=
  have h := serves_reResolveAll s
  ⟨h.train.roll, s.rebinds_reResolveAll.port, h.settingsKept, h.sameCtrl⟩

theorem tableWork_recomputeDirection (s : State) : TableWork s s.recomputeDirection := by
  rcases recomputeDirection_cases s with ⟨-, he⟩ | ⟨-, he⟩ <;> rw [he]
  · exact tableWork_recomputeCabs s
  · exact (tableWork_recomputeCabs s).trans ((tableWork_stepView _).trans (tableWork_reResolveAll _))

theorem tableWork_cabWritten (s : State) (i : Nat) (cab : CabEnd) : TableWork s (cabWritten s i cab) :=
  (tableWork_setConsist s _).trans (tableWork_recomputeDirection _)

/-! ## The debounced cab input -/

/-- The part once its debounce timer has expired, before it compares its own cab (R60). -/
def debounced (s : State) : State :=
  s.setConsist { s.consist with cabLevel := s.consist.cabInput, debounceT := .stopped }

theorem exec_debounce {s : State} (h : s.consist.debounceT.isRunning = true) :
    exec .debounceTimerExpiry s =
      .next (if (debounced s).ownCab = s.ownCab then debounced s else (debounced s).ownCabChanged) := by
  have hr : exec .debounceTimerExpiry s = execDebounceTimerExpiry s := rfl
  rw [hr, execDebounceTimerExpiry, if_pos h]
  rfl

theorem ownCabChanged_of_formed {s : State} (h : s.roll.state = .formed) :
    s.ownCabChanged = (cabWritten s s.consist.ownIdx s.ownCab).sendSteer := by
  rw [State.ownCabChanged, h]
  rfl

theorem ownCabChanged_of_not_formed {s : State} (h : s.roll.state ≠ .formed) : s.ownCabChanged = s := by
  unfold State.ownCabChanged
  split
  · rename_i hs
    exact absurd hs h
  all_goals rfl

/-- A STEER is placed in the control queue of each joined end (R64). -/
theorem sendSteer_ctrlQ (s : State) (e : LineEnd) :
    (s.sendSteer.lineEnd e).ctrlQ =
      if (s.lineEnd e).state = .locked then
        pushCtrl (s.lineEnd e).ctrlQ ⟨⟨s.consist.ea, s.ownId, 0#8, byteOf s.consist.ownIdx⟩, .steer s.ownCab.code⟩
      else (s.lineEnd e).ctrlQ :=
  offerBoth_ctrlQ s s.steerFrame e

theorem sameStores_sendSteer (s : State) : SameStores s s.sendSteer :=
  (sameStores_offerCtrl s _ _).trans (sameStores_offerCtrl _ _ _)

/-- The STEER that follows a change of the own cab announces it with the epoch, identity and roster index of the part (R62, R64). -/
theorem ownCabSent_ctrlQ (s : State) (e : LineEnd) :
    ((cabWritten s s.consist.ownIdx s.ownCab).sendSteer.lineEnd e).ctrlQ =
      if (s.lineEnd e).state = .locked then
        pushCtrl (s.lineEnd e).ctrlQ ⟨⟨s.consist.ea, s.ownId, 0#8, byteOf s.consist.ownIdx⟩, .steer s.ownCab.code⟩
      else (s.lineEnd e).ctrlQ := by
  have hw := tableWork_cabWritten s s.consist.ownIdx s.ownCab
  have hc := cabWritten_consist s s.consist.ownIdx s.ownCab
  obtain ⟨hst, hq⟩ := hw.ctrlQs e
  rw [sendSteer_ctrlQ, hst, hq, ownId_congr hw.ctrl, ownCab_congr hw.ctrl (by rw [hc]), hc]

/-- Settles O29: the input moves the timer alone; its debounced level moves the own entry in FORMED, and a STEER announces it. -/
theorem cabInputAndDebounce : Obligations.CabInputAndDebounce := by
  refine ⟨fun s active h => ?_, fun s hrun h => ?_, fun s hrun hf hne => ?_⟩
  · have hr : exec (.cabInputChange active) s = execCabInputChange active s := rfl
    rw [hr, execCabInputChange, if_neg h]
    rfl
  · rw [exec_debounce hrun]
    rcases h with hf | hsame
    · rw [ownCabChanged_of_not_formed (s := debounced s) hf, ite_self]
      rfl
    · rw [if_pos (show (debounced s).ownCab = s.ownCab from hsame)]
      rfl
  · have hne' : (debounced s).ownCab ≠ s.ownCab := hne
    have hw := tableWork_cabWritten (debounced s) s.consist.ownIdx (debounced s).ownCab
    have hstores := sameStores_sendSteer (cabWritten (debounced s) s.consist.ownIdx (debounced s).ownCab)
    have hcab : ((debounced s).consist.setCab s.consist.ownIdx (debounced s).ownCab).roster =
        (s.consist.setCab s.consist.ownIdx (debounced s).ownCab).roster := by
      rw [setCab_eq, setCab_eq]
      rfl
    have hc := cabWritten_consist (debounced s) s.consist.ownIdx (debounced s).ownCab
    rw [hcab, ← sendSteer_consist] at hc
    refine ⟨(cabWritten (debounced s) s.consist.ownIdx (debounced s).ownCab).sendSteer, ?_, by rw [hc]; rfl, by rw [hc]; rfl,
      by rw [hc]; rfl, by rw [hc]; rfl, by rw [hc]; rfl, by rw [hc]; rfl, by rw [hc]; rfl, by rw [hc]; rfl, by rw [hc]; rfl, ?_,
      (hw.settings.trans hstores.settingsKept).keeps, ownCabSent_ctrlQ (debounced s) .a, ownCabSent_ctrlQ (debounced s) .b, ?_⟩
    · rw [exec_debounce hrun, if_neg hne', ownCabChanged_of_formed (s := debounced s) hf]
      rfl
    · rw [State.sendSteer_roll, hw.roll]
      rfl
    · rw [hstores.port, hw.port]
      rfl

end Sys2Proof.Machine.TrainProofs
end

section
/-! A STEER received. -/

namespace Sys2Proof.Machine.TrainProofs

open RollCallProofs

/-! ## Acceptance -/

theorem exec_steer {s : State} {e : LineEnd} (h : Header) (cab : Byte) (hl : (s.lineEnd e).state = .locked) :
    exec (.steer e h cab) s = .next ((s.heardOn e).takeSteer e ⟨h, .steer cab⟩ cab) := by
  have hr : exec (.steer e h cab) s = .next (s.receive e fun s => s.takeSteer e ⟨h, .steer cab⟩ cab) := rfl
  rw [hr, State.receive, hl]
  rfl

/-- The tests of R65, one by one; a source index that names a car needs no separate test that a roster is held. -/
theorem steerOk_iff {s : State} {e : LineEnd} {f : Frame} {cab : Byte} :
    s.steerOk e f cab = true ↔
      f.hdr.epoch = s.consist.ea ∧ f.hdr.src ≠ s.ownId ∧
        (s.consist.entry f.hdr.srcIdx.toNat).map RosterEntry.ident = some f.hdr.src ∧ cab ≤ 2#8 ∧
        s.consist.forwardEnd f.hdr.srcIdx.toNat = some e := by
  unfold State.steerOk
  dsimp only
  cases hy : s.consist.entry f.hdr.srcIdx.toNat with
  | none => simp
  | some y =>
    have hn : s.consist.n ≠ 0 := by
      have := entry_range hy
      omega
    simp [hn, cabEnd_ofCode_isSome, and_assoc]

/-- A STEER that fails a test has no effect (R66). -/
theorem takeSteer_discard {s : State} {e : LineEnd} {f : Frame} {cab : Byte}
    (h : ¬(f.hdr.epoch = s.consist.ea ∧ f.hdr.src ≠ s.ownId ∧
        (s.consist.entry f.hdr.srcIdx.toNat).map RosterEntry.ident = some f.hdr.src ∧ cab ≤ 2#8 ∧
        s.consist.forwardEnd f.hdr.srcIdx.toNat = some e)) : s.takeSteer e f cab = s :=
  if_neg (mt steerOk_iff.1 h)

/-- A STEER that passes the tests of R65 on end `e`, its cab code apart. -/
structure SteerFits (s : State) (e : LineEnd) (h : Header) : Prop where
  epoch : h.epoch = s.consist.ea
  other : h.src ≠ s.ownId
  source : (s.consist.entry h.srcIdx.toNat).map RosterEntry.ident = some h.src
  toward : s.consist.forwardEnd h.srcIdx.toNat = some e

theorem cabEnd_code_le (c : CabEnd) : c.code ≤ 2#8 := by
  cases c <;> decide

/-- An accepted STEER: its cab end is written, and it goes on out of the other end (R65). -/
theorem takeSteer_accept {s : State} {e : LineEnd} {h : Header} (hf : SteerFits s e h) (c : CabEnd) :
    s.takeSteer e ⟨h, .steer c.code⟩ c.code = (cabWritten s h.srcIdx.toNat c).offerCtrl e.other ⟨h, .steer c.code⟩ := by
  have hok : s.steerOk e ⟨h, .steer c.code⟩ c.code = true :=
    steerOk_iff.2 ⟨hf.epoch, hf.other, hf.source, cabEnd_code_le c, hf.toward⟩
  rw [State.takeSteer, if_pos hok, cabEnd_ofCode_code]
  change (if (cabWritten s h.srcIdx.toNat c).joined e.other then _ else _) = _
  split
  · rfl
  · rename_i hj
    exact (offerCtrl_of_not_locked (fun hl => hj (decide_eq_true hl)) _).symm

/-- The part that has accepted a STEER. -/
def steerTaken (s : State) (e : LineEnd) (h : Header) (c : CabEnd) : State :=
  (cabWritten (s.heardOn e) h.srcIdx.toNat c).offerCtrl e.other ⟨h, .steer c.code⟩

theorem exec_steer_accepts {s : State} {e : LineEnd} {h : Header} (hl : (s.lineEnd e).state = .locked) (hf : SteerFits s e h)
    (c : CabEnd) : exec (.steer e h c.code) s = .next (steerTaken s e h c) := by
  have hf' : SteerFits (s.heardOn e) e h := by
    constructor
    · rw [heardOn_consist, hf.epoch]
    · rw [heardOn_ownId]
      exact hf.other
    · rw [heardOn_consist, hf.source]
    · rw [heardOn_consist, hf.toward]
  rw [exec_steer h c.code hl, takeSteer_accept hf']
  rfl

/-! ## The part that has accepted a STEER -/

theorem steerTaken_consist (s : State) (e : LineEnd) (h : Header) (c : CabEnd) :
    (steerTaken s e h c).consist = (cabWritten (s.heardOn e) h.srcIdx.toNat c).consist :=
  State.offerCtrl_consist _ _ _

theorem heardOn_port (s : State) (e : LineEnd) : (s.heardOn e).port = s.port :=
  State.setEnd_port s e _

theorem tableWork_heardOn (s : State) (e : LineEnd) : TableWork s (s.heardOn e) :=
  ⟨heardOn_roll s e, heardOn_port s e, settingsKept_heardOn s e, fun e' => ⟨heardOn_state s e e', heardOn_ctrlQ s e e'⟩⟩

theorem tableWork_steer (s : State) (e : LineEnd) (i : Nat) (c : CabEnd) : TableWork s (cabWritten (s.heardOn e) i c) :=
  (tableWork_heardOn s e).trans (tableWork_cabWritten _ i c)

/-! ## The bindings -/

/-- A re-resolution of every binding, as the part stands and in whatever consist state (R143, R144). -/
theorem sameSight_reResolveAll {s : State} (hn : KeysNodup s.dir) : SameSight s s.reResolveAll :=
  (sameSight_foldl_reResolve slots hn).trans (sameSight_startBackground _)

theorem rebound_reResolveAll {s : State} (hn : KeysNodup s.dir) : s.Rebound s.reResolveAll fun _ => true := by
  have hsight := sameSight_reResolveAll hn
  obtain ⟨hslot, hchanged⟩ := foldl_reResolve_handles (l := slots) List.nodup_range (fun i hi => mem_slots.1 hi) hn
  have hstart := sameHandles_startBackground (slots.foldl State.reResolve s)
  refine (rebound_all_iff _ _).2 ⟨fun i hi => ?_, ?_⟩
  · rw [hsight.reboundSlot hn, State.reResolveAll, hstart.slot, hslot, if_pos hi]
  · rw [hsight.slotChanges hn, State.reResolveAll, hstart.attn, hchanged]

theorem cabWritten_of_same_dir {s : State} {i : Nat} {c : CabEnd} (h : (cabWritten s i c).consist.dir = s.consist.dir) :
    SameStores s (cabWritten s i c) := by
  have hset := sameStores_setConsist s (s.consist.setCab i c)
  rcases recomputeDirection_cases (s.setConsist (s.consist.setCab i c)) with ⟨-, he⟩ | ⟨hd, -⟩
  · rw [cabWritten, he]
    exact hset.trans (sameStores_recomputeCabs _)
  · rw [cabWritten_consist] at h
    rw [State.setConsist_consist, setCab_eq s.consist] at hd
    exact absurd (by rw [← h, setCab_eq]) hd

/-- A cab end that changes D has every binding re-resolved. -/
theorem rebound_cabWritten {s : State} {i : Nat} {c : CabEnd} (hn : KeysNodup s.dir)
    (h : (cabWritten s i c).consist.dir ≠ s.consist.dir) :
    KeysNodup (cabWritten s i c).dir ∧ s.Rebound (cabWritten s i c) fun _ => true := by
  have hset := sameStores_setConsist s (s.consist.setCab i c)
  rcases recomputeDirection_cases (s.setConsist (s.consist.setCab i c)) with ⟨hd, -⟩ | ⟨-, he⟩
  · rw [cabWritten_consist] at h
    rw [State.setConsist_consist, setCab_eq s.consist] at hd
    exact absurd (by rw [← hd, setCab_eq]) h
  · have hv := hset.trans ((sameStores_recomputeCabs _).trans (sameStores_stepView _))
    have hkeys := hv.dir ▸ hn
    rw [cabWritten, he]
    exact ⟨(sameSight_reResolveAll hkeys).keysNodup hkeys, rebound_from (rebound_reResolveAll hkeys) hv.bindings hv.changed⟩

theorem sameSight_offerCtrl (s : State) (e : LineEnd) (f : Frame) : SameSight s (s.offerCtrl e f) :=
  ⟨State.offerCtrl_roll s e f, State.offerCtrl_consist s e f, State.offerCtrl_ctrl s e f, by rw [State.offerCtrl_dir],
    by rw [State.offerCtrl_dir]⟩

/-- Settles O45: a STEER that fits is a cab end written and a frame forwarded; any other leaves the part as it heard it. -/
theorem steerReceived : Obligations.SteerReceived := by
  refine ⟨fun s e h c hl h1 h2 h3 h4 => ?_, fun s e h cab hl hbad => ?_, fun s e h c hn hl h1 h2 h3 h4 => ?_⟩
  · have hw := tableWork_steer s e h.srcIdx.toNat c
    have hoffer := sameStores_offerCtrl (cabWritten (s.heardOn e) h.srcIdx.toNat c) e.other ⟨h, .steer c.code⟩
    have hc := steerTaken_consist s e h c
    rw [cabWritten_consist, heardOn_consist] at hc
    refine ⟨steerTaken s e h c, exec_steer_accepts hl ⟨h1, h2, h3, h4⟩ c, by rw [hc], by rw [hc], by rw [hc], by rw [hc],
      by rw [hc], by rw [hc], by rw [hc], ?_, hoffer.port.trans hw.port, (hw.settings.trans hoffer.settingsKept).keeps, ?_, ?_⟩
    · exact (State.offerCtrl_roll _ _ _).trans hw.roll
    · rw [steerTaken, offerCtrl_other_lineEnd]
      exact (hw.ctrlQs e).2
    · obtain ⟨hst, hq⟩ := hw.ctrlQs e.other
      rw [steerTaken, State.offerCtrl_lineEnd_same, lineEndSt_offerCtrl_ctrlQ, hst, hq]
  · have hdiscard : (s.heardOn e).takeSteer e ⟨h, .steer cab⟩ cab = s.heardOn e := by
      refine takeSteer_discard ?_
      rw [heardOn_consist, heardOn_ownId]
      rintro ⟨h1, h2, h3, hcab, h4⟩
      rcases hbad with hx | hx | hx | hx | hx
      · exact hx h1
      · exact h2 hx
      · exact hx h3
      · exact BitVec.not_lt.2 hcab hx
      · exact hx h4
    rw [exec_steer h cab hl, hdiscard]
  · have hkeys : KeysNodup (s.heardOn e).dir := by rw [heardOn_dir]; exact hn
    have hoffer := sameStores_offerCtrl (cabWritten (s.heardOn e) h.srcIdx.toNat c) e.other ⟨h, .steer c.code⟩
    refine ⟨steerTaken s e h c, exec_steer_accepts hl ⟨h1, h2, h3, h4⟩ c, fun hd => ?_, fun hd => ?_⟩ <;>
      rw [steerTaken_consist, ← heardOn_consist s e] at hd
    · obtain ⟨hk, hr⟩ := rebound_cabWritten hkeys hd
      have hs := rebound_from hr (heardOn_bindings s e) (by rw [heardOn_attn])
      exact rebound_to hs hk (sameSight_offerCtrl _ _ _) hoffer.bindings (State.offerCtrl_attn _ _ _)
    · have hs := (cabWritten_of_same_dir hd).trans hoffer
      exact ⟨hs.bindings.trans (heardOn_bindings s e), hs.dir.trans (heardOn_dir s e)⟩

end Sys2Proof.Machine.TrainProofs
end

section
/-! The parameters of REQUEST_STATE and LOOKUP read back from their bytes, and a unicast offered or lost. -/

namespace Sys2Proof.Machine.TrainProofs

open RollCallProofs

/-! ## Parameters -/

/-- The four bytes of a field spell the field (Conventions). -/
theorem word_be32 (w : Word) : word ((w >>> 24).setWidth 8) ((w >>> 16).setWidth 8) ((w >>> 8).setWidth 8) (w.setWidth 8) = w := by
  apply BitVec.eq_of_getLsbD_eq
  intro i hi
  simp only [word, BitVec.getLsbD_append, BitVec.getLsbD_setWidth, BitVec.getLsbD_ushiftRight]
  by_cases h1 : i < 8
  · simp [h1]
  · by_cases h2 : i - 8 < 8
    · simp [h1, h2, show 8 + (i - 8) = i by omega]
    · by_cases h3 : i - 8 - 8 < 8
      · simp [h1, h2, h3, show 16 + (i - 8 - 8) = i by omega]
      · simp [h1, h2, h3, show 24 + (i - 8 - 8 - 8) = i by omega, show i - 8 - 8 - 8 < 8 by omega]

theorem length_tagBytes {g : Tag} (hg : TagOk g) : (tagBytes g).length ≤ 17 := by
  obtain ⟨-, h16, -⟩ := hg
  simp only [tagBytes, List.length_cons]
  omega

theorem length_be32 (w : Word) : (be32 w).length = 4 :=
  rfl

/-- The parameters of REQUEST_STATE as the host writes them (R110). -/
def requestBytes (owner : Ident) (g : Tag) (sd : Side) (d : RecState) : List Byte :=
  be32 owner ++ tagBytes g ++ [sd.code, d.code]

theorem length_requestBytes (owner : Ident) {g : Tag} (hg : TagOk g) (sd : Side) (d : RecState) :
    (requestBytes owner g sd d).length ≤ Config.maxParams := by
  have := length_tagBytes hg
  simp only [requestBytes, List.length_append, length_be32, List.length_cons, List.length_nil, Config.maxParams]
  omega

theorem paramRequest_requestBytes {owner : Ident} {g : Tag} (hg : TagOk g) (h0 : owner ≠ 0#32) (h1 : owner ≠ 0xFFFFFFFF#32)
    (sd : Side) (d : RecState) : paramRequest (requestBytes owner g sd d) = some (owner, g, sd, d) := by
  have hid : identOk owner = true := (identOk_iff owner).2 ⟨h0, h1⟩
  have htag : paramTag (tagBytes g ++ [sd.code, d.code]) = some (g, [sd.code, d.code]) := paramTag_eq_some.2 ⟨hg, rfl⟩
  simp only [requestBytes, be32, List.cons_append, List.nil_append, paramRequest, htag,
    (Side.ofCode_eq_some _ sd).2 rfl, (RecState.ofCode_eq_some _ d).2 rfl, word_be32, hid, if_true]

/-- A selector is read from its code and value (R118). -/
theorem paramSelector_data {sel : Selector} (h : sel.ok = true) : paramSelector sel.data = some sel := by
  cases sel with
  | front k =>
    have hk : 1 ≤ k ∧ k ≤ 16 := of_decide_eq_true h
    have hb : (byteOf k).toNat = k := by simp only [byteOf, BitVec.toNat_ofNat]; omega
    simp only [Selector.data, paramSelector, hb, if_pos hk]
    rfl
  | rear k =>
    have hk : 1 ≤ k ∧ k ≤ 16 := of_decide_eq_true h
    have hb : (byteOf k).toNat = k := by simp only [byteOf, BitVec.toNat_ofNat]; omega
    simp only [Selector.data, paramSelector, hb, if_pos hk]
    rfl
  | self => rfl
  | car id =>
    have hid : identOk id = true := (identOk_iff id).2 (of_decide_eq_true h)
    simp only [Selector.data, be32, paramSelector, word_be32, hid]
    rfl
  | nearest => rfl

/-- The parameters of LOOKUP as the host writes them (R118). -/
def questionBytes (q : Question) : List Byte :=
  tagBytes q.tag ++ [q.filter.code] ++ q.sel.data

theorem length_selectorData (sel : Selector) : sel.data.length ≤ 5 := by
  cases sel <;> simp [Selector.data, be32]

theorem length_questionBytes {q : Question} (hg : TagOk q.tag) : (questionBytes q).length ≤ Config.maxParams := by
  have := length_tagBytes hg
  have := length_selectorData q.sel
  simp only [questionBytes, List.length_append, List.length_cons, List.length_nil, Config.maxParams]
  omega

theorem paramQuestion_questionBytes {q : Question} (hg : TagOk q.tag) (hs : q.sel.ok = true) :
    paramQuestion (questionBytes q) = some q := by
  have htag : paramTag (questionBytes q) = some (q.tag, q.filter.code :: q.sel.data) :=
    paramTag_eq_some.2 ⟨hg, by simp [questionBytes]⟩
  simp only [paramQuestion, htag, (SideFilter.ofCode_eq_some _ q.filter).2 rfl, paramSelector_data hs]

/-! ## Frames offered -/

/-- A directory frame the part originates toward a roster index (R103). -/
def unicast (s : State) (t : Nat) (p : Payload) : Frame :=
  ⟨⟨s.consist.ea, s.ownId, byteOf t, byteOf s.consist.ownIdx⟩, p⟩

theorem offerDir_eq (l : LineEndSt) (f : Frame) :
    l.offerDir f = { l with dirQ := if l.state = .locked then pushDir l.dirQ f else l.dirQ } := by
  rcases l.offerDir_cases f with ⟨hl, h⟩ | ⟨hl, h⟩ <;> rw [h]
  · rw [if_pos hl]
  · rw [if_neg hl]

/-- A unicast toward a car that the forwarding end reaches is queued there. -/
theorem sendUnicast_reaches {s : State} {t : Nat} {out : LineEnd} (h : s.Reaches t out) (p : Payload) :
    s.sendUnicast t p = s.queuedDir out (unicast s t p) := by
  obtain ⟨hf, hl⟩ := h
  rw [State.sendUnicast, hf]
  change s.setEnd out ((s.lineEnd out).offerDir (unicast s t p)) = _
  rw [offerDir_eq, if_pos hl]
  rfl

/-- A unicast whose forwarding end is not joined is lost (R17). -/
theorem sendUnicast_lost {s : State} {t : Nat} (h : ∀ out ∈ s.consist.forwardEnd t, (s.lineEnd out).state ≠ .locked) (p : Payload) :
    s.sendUnicast t p = s := by
  unfold State.sendUnicast
  split
  · rename_i out hf
    change s.setEnd out ((s.lineEnd out).offerDir (unicast s t p)) = _
    rw [offerDir_eq, if_neg (h out hf)]
    cases out <;> rfl
  · rfl

/-- A command in flight does not bear on a unicast. -/
theorem sendUnicast_waiting (s : State) (c : Cmd) (tag : Byte) (t : Nat) (p : Payload) :
    (s.waiting c tag).sendUnicast t p = (s.sendUnicast t p).waiting c tag := by
  have hf : (s.waiting c tag).consist.forwardEnd t = s.consist.forwardEnd t := rfl
  rw [State.sendUnicast, State.sendUnicast, hf]
  cases s.consist.forwardEnd t with
  | none => rfl
  | some e => cases e <;> rfl

/-- Nor does the foreground query. -/
theorem sendUnicast_setResolver (s : State) (x : Resolver) (t : Nat) (p : Payload) :
    (s.setResolver x).sendUnicast t p = (s.sendUnicast t p).setResolver x := by
  rw [State.sendUnicast, State.sendUnicast, State.setResolver_consist]
  cases s.consist.forwardEnd t with
  | none => rfl
  | some e => cases e <;> rfl

/-- A PUBLISH or WITHDRAW is queued on every joined end (R103). -/
theorem broadcast_eq (s : State) (p : Payload) :
    s.broadcast p = s.queuedJoined ⟨⟨s.consist.ea, s.ownId, 0#8, byteOf s.consist.ownIdx⟩, p⟩ := by
  have h : s.broadcast p =
      { s with lineA := s.lineA.offerDir (s.dirFrame 0#8 p), lineB := s.lineB.offerDir (s.dirFrame 0#8 p) } := rfl
  rw [h, offerDir_eq, offerDir_eq]
  rfl

end Sys2Proof.Machine.TrainProofs
end

section
/-! REQUEST_STATE: decided at once for the own car, sent to another. -/

namespace Sys2Proof.Machine.TrainProofs

open RollCallProofs

/-! ## The four ways of REQUEST_STATE -/

theorem exec_requestState {s : State} {tag : Byte} {owner : Ident} {g : Tag} (sd : Side) (d : RecState) (hs : s.CanTake tag)
    (hg : TagOk g) :
    exec (.requestState tag (requestBytes owner g sd d)) s =
      .next ((s.waiting .requestState tag).cmdRequestState (requestBytes owner g sd d)) := by
  have hr : exec (.requestState tag (requestBytes owner g sd d)) s =
      .next (s.hostCommand .requestState tag (requestBytes owner g sd d)) := rfl
  rw [hr, hostCommand_waiting .requestState hs (length_requestBytes owner hg sd d)]
  rfl

section
variable {s : State} {ps : List Byte} {owner : Ident} {g : Tag} {sd : Side} {d : RecState}
  (hp : paramRequest ps = some (owner, g, sd, d))
include hp

theorem cmdRequestState_not_formed (hf : s.roll.state ≠ .formed) : s.cmdRequestState ps = s.done .noConsist := by
  rw [State.cmdRequestState, hp]
  exact if_pos hf

theorem cmdRequestState_not_present (hf : s.roll.state = .formed) (hi : rosterIndex s.consist.roster owner = 0) :
    s.cmdRequestState ps = s.done .notPresent := by
  rw [State.cmdRequestState, hp]
  dsimp only
  rw [if_neg (not_not_intro hf), if_pos hi]

theorem cmdRequestState_own (hf : s.roll.state = .formed) (hi : rosterIndex s.consist.roster owner ≠ 0) (ho : owner = s.ownId) :
    s.cmdRequestState ps =
      (s.decideChange g sd d).1.complete (s.decideChange g sd d).2.1.status (be16 (s.decideChange g sd d).2.2) false := by
  rw [State.cmdRequestState, hp]
  dsimp only
  rw [if_neg (not_not_intro hf), if_neg hi, if_pos ho]

theorem cmdRequestState_other (hf : s.roll.state = .formed) (hi : rosterIndex s.consist.roster owner ≠ 0) (ho : owner ≠ s.ownId) :
    s.cmdRequestState ps = s.sendRequest owner (rosterIndex s.consist.roster owner) g sd d := by
  rw [State.cmdRequestState, hp]
  dsimp only
  rw [if_neg (not_not_intro hf), if_neg hi, if_neg ho]

end

/-! ## Another car -/

/-- The change request of a REQUEST_STATE at its first attempt (R112). -/
def firstRequest (s : State) (owner : Ident) (i : Nat) (g : Tag) (sd : Side) (d : RecState) : ChangeRequest :=
  ⟨s.traffic.reqId + 1#8, owner, i, g, sd, d, 1⟩

/-- The part with that change request outstanding, its timer running and nothing sent yet. -/
def requestRecorded (s : State) (c : ChangeRequest) : State :=
  s.setTraffic { s.traffic with reqId := c.id, change := some c, changeT := .running Config.changeMs }

theorem sendRequest_eq (s : State) (owner : Ident) (i : Nat) (g : Tag) (sd : Side) (d : RecState) :
    s.sendRequest owner i g sd d =
      (requestRecorded s (firstRequest s owner i g sd d)).sendUnicast i
        (.changeReq (s.traffic.reqId + 1#8) g sd.code d.code) :=
  rfl

theorem rosterIndex_of_entry {c : ConsistTable} {i : Nat} {r : RosterEntry} (he : c.entry i = some r)
    (hn : (c.roster.map RosterEntry.ident).Nodup) : rosterIndex c.roster r.ident = i := by
  obtain ⟨h1, -⟩ := entry_range he
  rw [ConsistTable.entry, if_neg (by omega)] at he
  rw [rosterIndex_of_getElem hn he]
  omega

/-- A REQUEST_STATE for another car of the roster is a change request recorded and a CHANGE_REQ offered toward its owner (R112). -/
theorem exec_requestState_other {s : State} {tag : Byte} {g : Tag} {i : Nat} {r : RosterEntry} (sd : Side) (d : RecState)
    (hs : s.CanTake tag) (hg : TagOk g) (h0 : r.ident ≠ 0#32) (h1 : r.ident ≠ 0xFFFFFFFF#32) (hf : s.roll.state = .formed)
    (ho : r.ident ≠ s.ownId) (he : s.consist.entry i = some r) (hn : (s.consist.roster.map RosterEntry.ident).Nodup) :
    exec (.requestState tag (requestBytes r.ident g sd d)) s =
      .next (((requestRecorded s (firstRequest s r.ident i g sd d)).sendUnicast i
        (.changeReq (s.traffic.reqId + 1#8) g sd.code d.code)).waiting .requestState tag) := by
  have hi := rosterIndex_of_entry he hn
  have hi0 : rosterIndex s.consist.roster r.ident ≠ 0 := by
    have := entry_range he
    omega
  rw [exec_requestState sd d hs hg, cmdRequestState_other (s := s.waiting .requestState tag)
    (paramRequest_requestBytes hg h0 h1 sd d) hf hi0 ho, sendRequest_eq,
    show rosterIndex (s.waiting .requestState tag).consist.roster r.ident = i from hi, ← sendUnicast_waiting]
  rfl

/-! ## The own car -/

theorem findHome_key {d : Directory} {g : Tag} {sd : Side} {x : Rec} (h : d.findHome g sd = some x) : x.tag = g ∧ x.side = sd := by
  simpa using List.find?_some h

/-- The home records with those of one key replaced (R81). -/
def homeReplaced (s : State) (g : Tag) (sd : Side) (r : Rec) : State :=
  s.setDir { s.dir with home := s.dir.home.map fun y => if y.tag = g ∧ y.side = sd then r else y }

/-- A record replaced by one of its key is the one that is found (R81). -/
theorem findHome_replaced {s : State} {g : Tag} {sd : Side} {x r : Rec} (h : s.dir.findHome g sd = some x) (ht : r.tag = g)
    (hsd : r.side = sd) : (homeReplaced s g sd r).dir.findHome g sd = some r := by
  have hkey := findHome_key h
  have hp : ((fun y : Rec => decide (y.tag = g ∧ y.side = sd)) ∘ fun y => if y.tag = g ∧ y.side = sd then r else y) =
      fun y : Rec => decide (y.tag = g ∧ y.side = sd) := by
    funext y
    by_cases hy : y.tag = g ∧ y.side = sd
    · simp [hy, ht, hsd]
    · rw [Function.comp_apply, if_neg hy]
  rw [Directory.findHome] at h
  change (s.dir.home.map _).find? _ = _
  rw [List.find?_map, hp, h]
  exact congrArg some (if_pos hkey)

theorem homeRevision_of_found {s : State} {g : Tag} {sd : Side} {x : Rec} (h : s.dir.findHome g sd = some x) :
    s.homeRevision g sd = x.rev := by
  rw [State.homeRevision, h]
  rfl

/-- No report about a record of a tag that no binding names moves a binding, and with none PENDING no query starts (R145, R147). -/
theorem recordChanged_unbound {s : State} {g : Tag} (h : s.Unbound g) : s.recordChanged g = s := by
  obtain ⟨hnames, hpending⟩ := h
  have hfix : ∀ i ∈ slots, State.reResolveIf g s i = s := fun i hi => by
    have hi' := List.any_eq_false.1 hnames i hi
    unfold State.reResolveIf
    split
    · rename_i b hb
      rw [hb] at hi'
      exact if_neg (by simpa using hi')
    · rfl
  rw [State.recordChanged, foldl_of_fixed hfix, State.startBackground]
  split
  · rw [hpending]
  · rfl

theorem publishChange_bindings (c : HomeChange) (s : State) : (s.publishChange c).bindings = s.bindings := by
  unfold State.publishChange
  split
  · rfl
  · cases c <;> dsimp only <;> split <;> simp

theorem unbound_congr {s t : State} {g : Tag} (h : t.bindings = s.bindings) (hs : s.Unbound g) : t.Unbound g := by
  have hslot : t.slot = s.slot := by
    funext i
    rw [State.slot, State.slot, h]
  unfold State.Unbound State.namesTag State.firstSlot State.binding at *
  rwa [hslot]

/-- A home change of a tag that no binding names is its publication alone (R77). -/
theorem homeChanged_unbound {s : State} {c : HomeChange} (h : s.Unbound c.tag) : s.homeChanged c = s.publishChange c := by
  have hg : (s.publishChange c).recordChanged c.tag = s.publishChange c :=
    recordChanged_unbound (unbound_congr (publishChange_bindings c s) h)
  rw [State.homeChanged, eitherOrder_of_comm] <;> rw [recordChanged_unbound h]
  exact hg

/-- An updated home record is published in FORMED, unless the republish burst still has it before it (R104). -/
theorem publishChange_updated {s : State} (hf : s.roll.state = .formed) (r : Rec) :
    State.publishChange (.updated r) s =
      if s.traffic.burst = true ∧ (r.tag, r.side) ∈ s.traffic.remainder then s
      else s.queuedJoined ⟨⟨s.consist.ea, s.ownId, 0#8, byteOf s.consist.ownIdx⟩, .publish r.toBody⟩ := by
  rw [State.publishChange, if_neg (not_not_intro hf), ← broadcast_eq]
  simp only [Bool.and_eq_true, List.contains_iff_mem]

/-- The record a change of state leaves: the desired state, and its revision stepped (R81). -/
def restated (x : Rec) (d : RecState) : Rec :=
  { x with state := d, rev := stepRevision x.rev }

/-- The part once the home record `x` of this key has taken the desired state: published, unless the republish burst still has it before
it (R81, R104). -/
def stateChanged (s : State) (g : Tag) (sd : Side) (x : Rec) (d : RecState) : State :=
  if s.traffic.burst = true ∧ (g, sd) ∈ s.traffic.remainder then homeReplaced s g sd (restated x d)
  else (homeReplaced s g sd (restated x d)).queuedJoined
    ⟨⟨s.consist.ea, s.ownId, 0#8, byteOf s.consist.ownIdx⟩, .publish (restated x d).toBody⟩

theorem stateChanged_dir (s : State) (g : Tag) (sd : Side) (x : Rec) (d : RecState) :
    (stateChanged s g sd x d).dir = (homeReplaced s g sd (restated x d)).dir := by
  unfold stateChanged
  split <;> rfl

/-- A command in flight does not bear on the change. -/
theorem stateChanged_waiting (s : State) (c : Cmd) (tag : Byte) (g : Tag) (sd : Side) (x : Rec) (d : RecState) :
    stateChanged (s.waiting c tag) g sd x d = (stateChanged s g sd x d).waiting c tag := by
  unfold stateChanged
  rw [apply_ite (fun t => State.waiting t c tag)]
  rfl

theorem decideChange_none {s : State} {g : Tag} {sd : Side} (d : RecState) (h : s.dir.findHome g sd = none) :
    s.decideChange g sd d = (s, .noRecord, 0#16) := by
  rw [State.decideChange, h]

theorem decideChange_denied {s : State} {g : Tag} {sd : Side} {x : Rec} (d : RecState) (h : s.dir.findHome g sd = some x)
    (hp : x.perm = .denied) : s.decideChange g sd d = (s, .refused, x.rev) := by
  rw [State.decideChange, h]
  dsimp only
  rw [hp]

theorem decideChange_allowed {s : State} {g : Tag} {sd : Side} {x : Rec} (d : RecState) (h : s.dir.findHome g sd = some x)
    (hp : x.perm = .allowed) :
    s.decideChange g sd d =
      (s.changeHome x { x with state := d }, .accepted, (s.changeHome x { x with state := d }).homeRevision g sd) := by
  rw [State.decideChange, h]
  dsimp only
  rw [hp]

theorem changeHome_same (s : State) (x : Rec) : s.changeHome x { x with state := x.state } = s :=
  if_pos rfl

/-- A record that takes another state, no binding naming its tag (R81, R104). -/
theorem changeHome_restated {s : State} {g : Tag} {sd : Side} {x : Rec} {d : RecState} (hu : s.Unbound g)
    (hf : s.roll.state = .formed) (h : s.dir.findHome g sd = some x) (hd : x.state ≠ d) :
    s.changeHome x { x with state := d } = stateChanged s g sd x d := by
  obtain ⟨rfl, rfl⟩ := findHome_key h
  have hne : ({ x with state := d, rev := x.rev } : Rec) ≠ x := fun he => hd (congrArg Rec.state he).symm
  have hc : s.changeHome x { x with state := d } =
      (homeReplaced s x.tag x.side (restated x d)).homeChanged (.updated (restated x d)) := if_neg hne
  have hub : (homeReplaced s x.tag x.side (restated x d)).Unbound x.tag := unbound_congr rfl hu
  rw [hc, homeChanged_unbound (c := .updated (restated x d)) hub,
    publishChange_updated (s := homeReplaced s x.tag x.side (restated x d)) hf]
  rfl

theorem homeRevision_restated {s : State} {g : Tag} {sd : Side} {x : Rec} {d : RecState} (hu : s.Unbound g)
    (hf : s.roll.state = .formed) (h : s.dir.findHome g sd = some x) (hd : x.state ≠ d) :
    (s.changeHome x { x with state := d }).homeRevision g sd = stepRevision x.rev := by
  obtain ⟨ht, hsd⟩ := findHome_key h
  have hfound := findHome_replaced (r := restated x d) h ht hsd
  rw [← stateChanged_dir, ← changeHome_restated hu hf h hd] at hfound
  exact homeRevision_of_found hfound

/-- A REQUEST_STATE for the own car is decided on the home records (R111). -/
theorem exec_requestState_own {s : State} {tag : Byte} {owner : Ident} {g : Tag} (sd : Side) (d : RecState) (hs : s.CanTake tag)
    (hg : TagOk g) (h0 : owner ≠ 0#32) (h1 : owner ≠ 0xFFFFFFFF#32) (hf : s.roll.state = .formed) (ho : owner = s.ownId)
    (hr : ∃ r ∈ s.consist.roster, r.ident = owner) :
    exec (.requestState tag (requestBytes owner g sd d)) s =
      .next (((s.waiting .requestState tag).decideChange g sd d).1.complete
        ((s.waiting .requestState tag).decideChange g sd d).2.1.status
        (be16 ((s.waiting .requestState tag).decideChange g sd d).2.2) false) := by
  have hi : rosterIndex s.consist.roster owner ≠ 0 := rosterIndex_ne_zero.2 (List.mem_map.2 hr)
  rw [exec_requestState sd d hs hg,
    cmdRequestState_own (s := s.waiting .requestState tag) (paramRequest_requestBytes hg h0 h1 sd d) hf hi ho]

end Sys2Proof.Machine.TrainProofs
end

section
/-! LOOKUP: answered from the directory at once, or by a QUERY to the car it asks about. -/

namespace Sys2Proof.Machine.TrainProofs

open RollCallProofs

/-! ## The search -/

theorem search_unformed {s : State} (q : Question) (h : s.roll.state = .unformed) :
    s.search q = if q.sel = .self then .noRecord none else .noConsist := by
  unfold State.search
  rw [h]
  cases q.sel <;> rfl

theorem search_fixed {s : State} {q : Question} (h : s.roll.state ≠ .unformed) (hn : q.sel ≠ .nearest) :
    s.search q = s.searchTarget q (s.consist.target q.sel) := by
  unfold State.search
  cases hs : s.roll.state with
  | unformed => exact absurd hs h
  | _ =>
    cases hq : q.sel with
    | nearest => exact absurd hq hn
    | _ => rfl

/-- What NEAREST finds: the match of the first car in the nearest order that has one (R125). -/
theorem search_nearest {s : State} {q : Question} (h : s.roll.state ≠ .unformed) (hn : q.sel = .nearest) :
    s.search q = (s.consist.nearest.findSome? fun i => s.matchCar i q.tag q.filter).elim (.noRecord none) .hit := by
  unfold State.search
  rw [hn]
  cases hs : s.roll.state with
  | unformed => exact absurd hs h
  | _ => cases s.consist.nearest.findSome? fun i => s.matchCar i q.tag q.filter <;> rfl

theorem searchTarget_hit {s : State} {q : Question} {i : Nat} {h : Hit} (hm : s.matchCar i q.tag q.filter = some h) :
    s.searchTarget q (.car i) = .hit h := by
  simp only [State.searchTarget, hm]

theorem searchTarget_noRecord {s : State} {q : Question} {i : Nat} {r : RosterEntry}
    (hm : s.matchCar i q.tag q.filter = none) (he : s.consist.entry i = some r) (h : r.ident = s.ownId ∨ s.roll.state ≠ .formed) :
    s.searchTarget q (.car i) = .noRecord (some i) := by
  simp only [State.searchTarget, hm, he]
  exact if_neg fun ⟨ho, hf⟩ => h.elim ho (· hf)

theorem searchTarget_ask {s : State} {q : Question} {i : Nat} {r : RosterEntry}
    (hm : s.matchCar i q.tag q.filter = none) (he : s.consist.entry i = some r) (ho : r.ident ≠ s.ownId)
    (hf : s.roll.state = .formed) : s.searchTarget q (.car i) = .ask i r.ident := by
  simp only [State.searchTarget, hm, he]
  exact if_pos ⟨ho, hf⟩

/-- The first value in a list is that of the first element that has one. -/
theorem findSome?_of_find? {α β : Type} {f : α → Option β} {l : List α} {a : α} {b : β}
    (h : l.find? (fun x => (f x).isSome) = some a) (hb : f a = some b) : l.findSome? f = some b := by
  obtain ⟨-, before, after, rfl, hnone⟩ := List.find?_eq_some_iff_append.1 h
  exact List.findSome?_eq_some_iff.2 ⟨before, a, after, rfl, hb, fun x hx => by simpa using hnone x hx⟩

theorem findSome?_of_find?_none {α β : Type} {f : α → Option β} {l : List α} (h : l.find? (fun x => (f x).isSome) = none) :
    l.findSome? f = none :=
  List.findSome?_eq_none_iff.2 fun x hx => by simpa using List.find?_eq_none.1 h x hx

/-! ## The answer of a LOOKUP -/

theorem endResolution_lookup {s : State} (h : s.firstSlot HandleSlot.isReserved = none) (o : Outcome) :
    s.endResolution o = s.completeLookup o := by
  rw [State.endResolution, h]

/-- A LOOKUP that the port takes is its question resolved, with the command in flight. -/
theorem exec_lookup {s : State} {tag : Byte} {q : Question} (hs : s.CanTake tag) (hg : TagOk q.tag) (hq : q.sel.ok = true) :
    exec (.lookup tag (questionBytes q)) s = .next ((s.waiting .lookup tag).resolve q) := by
  have hr : exec (.lookup tag (questionBytes q)) s = .next (s.hostCommand .lookup tag (questionBytes q)) := rfl
  rw [hr, hostCommand_waiting .lookup hs (length_questionBytes hg)]
  change Host.Outcome.next ((s.waiting .lookup tag).cmdLookup _) = _
  rw [State.cmdLookup, paramQuestion_questionBytes hg hq]

/-- A LOOKUP, no handle reserved, that its search completes without a record (R133). -/
theorem resolve_unfound {s : State} {tag : Byte} {q : Question} (hr : s.firstSlot HandleSlot.isReserved = none) :
    (s.search q = .notPresent →
      (s.waiting .lookup tag).resolve q = s.answered tag .notPresent [] s.roll.state.unsettled) ∧
    (s.search q = .noConsist →
      (s.waiting .lookup tag).resolve q = s.answered tag .noConsist [] s.roll.state.unsettled) ∧
    ∀ t, s.search q = .noRecord t →
      (s.waiting .lookup tag).resolve q = s.answered tag .noRecord (s.noRecordData t) s.roll.state.unsettled := by
  have hw : (s.waiting .lookup tag).firstSlot HandleSlot.isReserved = none := hr
  have hsearch : (s.waiting .lookup tag).search q = s.search q := rfl
  refine ⟨fun h => ?_, fun h => ?_, fun t h => ?_⟩ <;>
    rw [State.resolve, hsearch, h] <;> exact endResolution_lookup hw _

/-- A LOOKUP, no handle reserved, that its search completes with a record: the mirror used moves in the use order (R90, R132). -/
theorem resolve_hit {s : State} {tag : Byte} {q : Question} {h : Hit} (hr : s.firstSlot HandleSlot.isReserved = none)
    (hh : s.search q = .hit h) :
    (s.waiting .lookup tag).resolve q =
      (s.use h).answered tag .found (s.foundData h) (s.roll.state.unsettled || decide (h.fresh = .stale)) := by
  have hsearch : (s.waiting .lookup tag).search q = .hit h := hh
  have hw : ((s.waiting .lookup tag).use h).firstSlot HandleSlot.isReserved = none := by
    rw [← hr]
    unfold State.use
    split <;> rfl
  rw [State.resolve, hsearch]
  dsimp only
  rw [endResolution_lookup hw]
  unfold State.use
  split <;> rfl

/-- A mirror touched is moved behind the others, and one that is not held changes nothing (R85, R90). -/
theorem touch_eq {d : Directory} (hn : KeysNodup d) (o : Ident) (t : Tag) (sd : Side) :
    d.touch o t sd =
      { d with
        mirrors := d.mirrors.filter (fun (m : Mirror) => ¬(m.owner = o ∧ m.body.tag = t ∧ m.body.side = sd)) ++
          d.mirrors.filter (fun (m : Mirror) => m.owner = o ∧ m.body.tag = t ∧ m.body.side = sd) } := by
  unfold Directory.touch
  split
  · rename_i m hm
    obtain ⟨rfl, rfl, rfl⟩ := Directory.findMirror_key hm
    have hone : (d.mirrors.filter fun x =>
        x.owner = m.owner ∧ x.body.tag = m.body.tag ∧ x.body.side = m.body.side) = [m] := by
      rw [← filter_key_eq hn (Directory.findMirror_mem hm)]
      simp only [mirrorKey, Prod.mk.injEq]
    rw [hone]
    simp only [Mirror.hasKey, decide_not]
  · rename_i hnone
    have hkey : ∀ x ∈ d.mirrors, ¬(x.owner = o ∧ x.body.tag = t ∧ x.body.side = sd) := fun x hx => by
      simpa [Mirror.hasKey] using List.find?_eq_none.1 hnone x hx
    rw [List.filter_eq_self.2 fun x hx => decide_eq_true (hkey x hx),
      List.filter_eq_nil_iff.2 fun x hx => by simpa using hkey x hx, List.append_nil]

/-- The part once a record found has been given as an answer (R85, R90). -/
def usedState (s : State) (h : Hit) : State :=
  match h.source with
  | .home => s
  | .mirror => s.setDir { s.dir with
      mirrors := s.dir.mirrors.filter (fun (m : Mirror) => ¬(m.owner = h.owner ∧ m.body.tag = h.body.tag ∧ m.body.side = h.body.side)) ++
        s.dir.mirrors.filter (fun (m : Mirror) => m.owner = h.owner ∧ m.body.tag = h.body.tag ∧ m.body.side = h.body.side) }

theorem use_eq {s : State} (hn : KeysNodup s.dir) (h : Hit) : s.use h = usedState s h := by
  unfold State.use usedState
  cases h.source with
  | home => rfl
  | mirror => exact congrArg s.setDir (touch_eq hn _ _ _)

/-! ## A LOOKUP that asks another car -/

/-- The part with a foreground query of this id at its first attempt, nothing sent yet (R126). -/
def queryRecorded (s : State) (q : Question) (i : Nat) (o : Ident) (id : Byte) : State :=
  (s.setTraffic { s.traffic with queryId := id }).setResolver ⟨some ⟨id, o, i, q.tag, q.filter, 1⟩, .running Config.queryMs⟩

/-- The query id that a foreground query takes next (R107). -/
def nextForegroundId (s : State) : Byte :=
  nextQueryId s.traffic.queryId (s.bindings.query.map BackgroundQuery.id)

theorem startForeground_eq (s : State) (q : Question) (i : Nat) (o : Ident) :
    s.startForeground q i o =
      (queryRecorded s q i o (nextForegroundId s)).sendUnicast i (.query (nextForegroundId s) q.tag) := by
  rw [State.startForeground, State.freshQuery, queryRecorded, sendUnicast_setResolver]
  dsimp only
  rw [State.sendUnicast_traffic]
  rfl

/-- A LOOKUP that asks another car has its foreground query recorded and a QUERY offered toward that car (R126). -/
theorem resolve_ask {s : State} {q : Question} {i : Nat} {o : Ident} (tag : Byte) (h : s.search q = .ask i o) :
    (s.waiting .lookup tag).resolve q =
      ((queryRecorded s q i o (nextForegroundId s)).sendUnicast i (.query (nextForegroundId s) q.tag)).waiting .lookup tag := by
  have hsearch : (s.waiting .lookup tag).search q = .ask i o := h
  rw [State.resolve, hsearch, ← sendUnicast_waiting]
  exact startForeground_eq _ q i o

/-- The data of FOUND byte by byte (R132). -/
theorem foundData_eq (s : State) (h : Hit) :
    s.foundData h =
      [h.source.code, h.fresh.code] ++ be32 h.owner ++ [byteOf h.index, byteOf (s.consist.position h.index),
        byteOf (s.consist.hops h.index), h.body.side.code, (trainSide (s.consist.aligned h.index) h.body.side).code,
        h.body.state.code] ++ be16 h.body.addr ++ be16 h.body.rev ++ [h.body.perm.code, byteOf h.body.attrs.length] ++
        h.body.attrs :=
  rfl

theorem noRecordData_of_entry {s : State} {i : Nat} {r : RosterEntry} (h : s.consist.entry i = some r) :
    s.noRecordData (some i) = be32 r.ident ++ [byteOf i, byteOf (s.consist.position i)] := by
  rw [State.noRecordData, h]

theorem questionBytes_nearest (g : Tag) (f : SideFilter) :
    tagBytes g ++ [f.code, 4#8] = questionBytes ⟨g, f, .nearest⟩ := by
  simp [questionBytes, Selector.data]

/-- Settles O58: each clause is one outcome of the owner's decision on a REQUEST_STATE, or of the search for a LOOKUP. -/
theorem remoteCommandsOfTheHost : Obligations.RemoteCommandsOfTheHost := by
  refine ⟨?noConsist, ?notPresent, ?sent, ?ownNone, ?ownDenied, ?unformed, ?absent, ?found, ?unfound, ?asked, ?nearest, ?nearestNone,
    ?ownSame, ?ownChanged, ?lost, ?askLost⟩
  case noConsist =>
    intro s tag owner g sd d hs hg h0 h1 hf
    rw [← requestBytes, exec_requestState sd d hs hg, cmdRequestState_not_formed (s := s.waiting .requestState tag)
      (paramRequest_requestBytes hg h0 h1 sd d) hf]
    rfl
  case notPresent =>
    intro s tag owner g sd d hs hg h0 h1 hf hr
    have hi : rosterIndex s.consist.roster owner = 0 := by
      by_contra hne
      obtain ⟨r, hm, he⟩ := List.mem_map.1 (rosterIndex_ne_zero.1 hne)
      exact hr r hm he
    rw [← requestBytes, exec_requestState sd d hs hg, cmdRequestState_not_present (s := s.waiting .requestState tag)
      (paramRequest_requestBytes hg h0 h1 sd d) hf hi]
    rfl
  case sent =>
    rintro s tag _ g sd d i r out hs hg h0 h1 hf ho he rfl hn hout
    rw [← requestBytes, exec_requestState_other sd d hs hg h0 h1 hf ho he hn,
      sendUnicast_reaches (s := requestRecorded s (firstRequest s r.ident i g sd d)) hout]
    rfl
  case ownNone =>
    intro s tag owner g sd d hs hg h0 h1 hf ho hr hx
    have hzero : be16 0#16 = [0#8, 0#8] := by decide
    rw [← requestBytes, exec_requestState_own sd d hs hg h0 h1 hf ho hr, decideChange_none (s := s.waiting .requestState tag) d hx,
      ← hzero]
    rfl
  case ownDenied =>
    intro s tag owner g sd d x hs hg h0 h1 hf ho hr hx hp
    rw [← requestBytes, exec_requestState_own sd d hs hg h0 h1 hf ho hr,
      decideChange_denied (s := s.waiting .requestState tag) d hx hp]
    rfl
  case unformed =>
    intro s tag q hs hg hq hquiet hf
    obtain ⟨-, -, hr⟩ := hquiet
    obtain ⟨-, hconsist, hrecord⟩ := resolve_unfound (tag := tag) (q := q) hr
    have hsearch := search_unformed q hf
    rw [hf] at hconsist hrecord
    rw [← questionBytes, exec_lookup hs hg hq]
    by_cases hself : q.sel = .self
    · rw [if_pos hself] at hsearch ⊢
      rw [hrecord none hsearch]
      rfl
    · rw [if_neg hself] at hsearch ⊢
      rw [hconsist hsearch]
      rfl
  case absent =>
    intro s tag q hs hg hq hquiet hf hn ht
    obtain ⟨-, -, hr⟩ := hquiet
    have hsearch : s.search q = .notPresent := by rw [search_fixed hf hn, ht, State.searchTarget]
    rw [← questionBytes, exec_lookup hs hg hq, (resolve_unfound hr).1 hsearch]
  case found =>
    intro s tag q i h hs hg hq hquiet hf hn ht hm hkeys
    obtain ⟨-, -, hr⟩ := hquiet
    have hsearch : s.search q = .hit h := by rw [search_fixed hf hn, ht, searchTarget_hit hm]
    rw [← questionBytes, exec_lookup hs hg hq, resolve_hit hr hsearch, foundData_eq, use_eq hkeys]
    rfl
  case unfound =>
    intro s tag q i r hs hg hq hquiet hf hn ht he hm hor
    obtain ⟨-, -, hr⟩ := hquiet
    have hsearch : s.search q = .noRecord (some i) := by rw [search_fixed hf hn, ht, searchTarget_noRecord hm he hor]
    rw [← questionBytes, exec_lookup hs hg hq, (resolve_unfound hr).2.2 _ hsearch, noRecordData_of_entry he]
  case asked =>
    rintro s tag q i r id out hs hg hq - hf hn ht he hm ho hout rfl
    have hsearch : s.search q = .ask i r.ident := by rw [search_fixed (by simp [hf]) hn, ht, searchTarget_ask hm he ho hf]
    rw [← questionBytes, exec_lookup hs hg hq, resolve_ask tag hsearch,
      sendUnicast_reaches (s := queryRecorded s q i r.ident (nextForegroundId s)) hout]
    rfl
  case nearest =>
    intro s tag g f i h hs hg hquiet hf hfind hm hkeys
    obtain ⟨-, -, hr⟩ := hquiet
    have hsearch : s.search ⟨g, f, .nearest⟩ = .hit h := by
      rw [search_nearest hf rfl, findSome?_of_find? hfind hm]
      rfl
    rw [questionBytes_nearest, exec_lookup (q := ⟨g, f, .nearest⟩) hs hg rfl, resolve_hit hr hsearch, foundData_eq, use_eq hkeys]
    rfl
  case nearestNone =>
    intro s tag g f hs hg hquiet hf hfind
    obtain ⟨-, -, hr⟩ := hquiet
    have hsearch : s.search ⟨g, f, .nearest⟩ = .noRecord none := by
      rw [search_nearest hf rfl, findSome?_of_find?_none hfind]
      rfl
    rw [questionBytes_nearest, exec_lookup (q := ⟨g, f, .nearest⟩) hs hg rfl, (resolve_unfound hr).2.2 _ hsearch]
    rfl
  case ownSame =>
    rintro s tag owner g sd _ x hs hg h0 h1 hf ho hr hx hp rfl
    rw [← requestBytes, exec_requestState_own sd x.state hs hg h0 h1 hf ho hr,
      decideChange_allowed (s := s.waiting .requestState tag) x.state hx hp]
    dsimp only
    rw [changeHome_same, homeRevision_of_found (s := s.waiting .requestState tag) hx]
    rfl
  case ownChanged =>
    intro s tag owner g sd d x hs hg h0 h1 hu hf ho hr hx hp hd
    rw [← requestBytes, exec_requestState_own sd d hs hg h0 h1 hf ho hr,
      decideChange_allowed (s := s.waiting .requestState tag) d hx hp]
    dsimp only
    rw [homeRevision_restated (s := s.waiting .requestState tag) hu hf hx hd,
      changeHome_restated (s := s.waiting .requestState tag) hu hf hx hd, stateChanged_waiting]
    rfl
  case lost =>
    rintro s tag _ g sd d i r hs hg h0 h1 hf ho he rfl hn hout
    rw [← requestBytes, exec_requestState_other sd d hs hg h0 h1 hf ho he hn,
      sendUnicast_lost (s := requestRecorded s (firstRequest s r.ident i g sd d)) hout]
    rfl
  case askLost =>
    rintro s tag q i r id hs hg hq - hf hn ht he hm ho hout rfl
    have hsearch : s.search q = .ask i r.ident := by rw [search_fixed (by simp [hf]) hn, ht, searchTarget_ask hm he ho hf]
    rw [← questionBytes, exec_lookup hs hg hq, resolve_ask tag hsearch,
      sendUnicast_lost (s := queryRecorded s q i r.ident (nextForegroundId s)) hout]
    rfl

end Sys2Proof.Machine.TrainProofs
end

section
/-! The ledger of the records: the directory, the handles and the question of the foreground query, with what the host has set. What a step may
do to it is a chain of moves, and each move keeps the limits and keys of the directory, the promise of a reserved handle and the pins. -/

namespace Sys2Proof.Machine.RecordProofs

open RollCallProofs

/-! ## The ledger -/

/-- What the host alone sets, the home records apart (R95, R166, R173, R175). -/
structure HostSettings where
  identity : Option Ident
  cabCfg : CabEnd
  startCause : Cause
  mask : BitVec 9
  disp : Dispositions

/-- The parts of a state that the records, the bindings and the foreground query share. Two fields are of the proof alone: `loose` are the places
whose bindings may rest on a mirror that has just been removed, and `due` is the tag of a question whose outcome is still owed. -/
structure Ledger where
  dir : Directory
  slot : Nat → HandleSlot
  asked : Option Tag
  host : HostSettings
  loose : Nat → Prop
  due : Option Tag

/-- No binding rests on a mirror that is gone. -/
def allFast : Nat → Prop :=
  fun _ => False

def hostSettings (s : State) : HostSettings :=
  ⟨s.ctrl.identity, s.ctrl.cabCfg, s.ctrl.startCause, s.attn.mask, s.attn.disp⟩

def ledger (s : State) (loose : Nat → Prop) (due : Option Tag) : Ledger :=
  ⟨s.dir, s.slot, s.resolver.query.map ForegroundQuery.tag, hostSettings s, loose, due⟩

/-- The host's settings with those of the home records (R74, R95). -/
def Ledger.kept (l : Ledger) :
    HostSettings × Vector Bool 64 × Bool × List (Tag × Side × Half × Permission × List Byte) :=
  (l.host, l.dir.interest, l.dir.allMode, l.dir.home.map fun r => (r.tag, r.side, r.addr, r.perm, r.attrs))

/-- The key of the mirror that a slot's binding rests on (R136). -/
def restKey : HandleSlot → Option (Ident × Tag × Side)
  | .held b => b.st.mirrorKey b.question.tag
  | .reserved _ => none
  | .free => none

theorem restsOn_eq (k : Ident × Tag × Side) (x : HandleSlot) : x.restsOn k = decide (restKey x = some k) := by
  cases x <;> rfl

/-- A mirror with this key is held. -/
def Holds (d : Directory) (k : Ident × Tag × Side) : Prop :=
  ∃ m ∈ d.mirrors, mirrorKey m = k

theorem holds_iff (d : Directory) (k : Ident × Tag × Side) : Holds d k ↔ (d.findMirror k.1 k.2.1 k.2.2).isSome = true := by
  simp only [Holds, Directory.findMirror, List.find?_isSome, hasKey_iff]

theorem not_holds_iff (d : Directory) (k : Ident × Tag × Side) : ¬Holds d k ↔ d.findMirror k.1 k.2.1 k.2.2 = none := by
  rw [holds_iff, Bool.not_eq_true, Option.isSome_eq_false_iff, Option.isNone_iff_eq_none]

/-! ## What is kept -/

/-- The limits, keys and revisions of a directory (R74, R75, R81). -/
structure DirOk (d : Directory) : Prop where
  homeMax : d.home.length ≤ Config.maxHome
  allMax : d.home.length + d.mirrors.length ≤ Config.maxRecords
  homeKeys : (d.home.map fun r => (r.tag, r.side)).Nodup
  keys : KeysNodup d
  homeRev : ∀ r ∈ d.home, r.rev ≠ 0#16
  rev : ∀ m ∈ d.mirrors, m.body.rev ≠ 0#16

theorem dirInv_iff (s : State) : s.DirInv ↔ DirOk s.dir :=
  ⟨fun ⟨h1, h2, h3, h4, h5, h6⟩ => ⟨h1, h2, h3, h4, h5, h6⟩, fun ⟨h1, h2, h3, h4, h5, h6⟩ => ⟨h1, h2, h3, h4, h5, h6⟩⟩

/-- A reserved handle keeps a question of the tag asked or owed, and there is one at most (R126, R139). -/
structure Ledger.Promised (l : Ledger) : Prop where
  tag : ∀ i ∈ slots, ∀ q, l.slot i = .reserved q → l.asked = some q.tag ∨ l.due = some q.tag
  one : ∀ i ∈ slots, ∀ j ∈ slots, (l.slot i).isReserved = true → (l.slot j).isReserved = true → i = j

theorem Ledger.Promised.of_none {l : Ledger} (h : ∀ i ∈ slots, (l.slot i).isReserved = false) : l.Promised where
  tag i hi q hq := by
    have := h i hi
    rw [hq] at this
    cases this
  one i hi j _ hr _ := by
    rw [h i hi] at hr
    cases hr

/-- The pins count the bindings, and a binding that is not loose rests on a mirror that is held (R93, R151). -/
structure Ledger.Pinned (l : Ledger) : Prop where
  count : ∀ m ∈ l.dir.mirrors, m.pins = slots.countP fun i => (l.slot i).restsOn (mirrorKey m)
  held : ∀ i ∈ slots, ¬l.loose i → ∀ k, restKey (l.slot i) = some k → Holds l.dir k

/-- Which of the invariants are watched, and whether the command is one of the host. -/
structure Watch where
  dir : Prop
  port : Prop
  pins : Prop
  host : Prop

/-- The invariants that are watched; the pins only beside the other two. -/
structure Good (w : Watch) (l : Ledger) : Prop where
  dir : w.dir → DirOk l.dir
  port : w.port → l.Promised
  pins : w.dir → w.port → w.pins → l.Pinned

/-- From one ledger to another, the watched invariants are kept, and so are the host's settings unless the host commands it. -/
structure Acts (w : Watch) (l l' : Ledger) : Prop where
  good : Good w l → Good w l'
  kept : Good w l → w.dir → ¬w.host → l'.kept = l.kept

variable {w : Watch} {l l' l'' : Ledger}

theorem Acts.refl (l : Ledger) : Acts w l l :=
  ⟨id, fun _ _ _ => rfl⟩

theorem Acts.trans (h : Acts w l l') (k : Acts w l' l'') : Acts w l l'' :=
  ⟨fun g => k.good (h.good g), fun g d n => (k.kept (h.good g) d n).trans (h.kept g d n)⟩

theorem Acts.of_eq (h : l' = l) : Acts w l l' :=
  h ▸ .refl _

/-- The invariants that are watched may be used on the way. -/
theorem Acts.under (h : Good w l → Acts w l l') : Acts w l l' :=
  ⟨fun g => (h g).good g, fun g d n => (h g).kept g d n⟩

/-! ## Slots and counts -/

theorem slots_nodup : slots.Nodup :=
  List.nodup_range

/-- A slot replaced counts for what it holds now instead of what it held. -/
theorem countP_update {i : Nat} (hi : i ∈ slots) (f : Nat → HandleSlot) (x : HandleSlot) (p : HandleSlot → Bool) :
    (slots.countP fun j => p (Function.update f i x j)) + (if p (f i) then 1 else 0) =
      (slots.countP fun j => p (f j)) + (if p x then 1 else 0) := by
  have hsplit (g : Nat → HandleSlot) : (slots.countP fun j => p (g j)) =
      ((slots.erase i).countP fun j => p (g j)) + (if p (g i) then 1 else 0) := by
    rw [(List.perm_cons_erase hi).countP_eq, List.countP_cons]
  have hrest : ((slots.erase i).countP fun j => p (Function.update f i x j)) = (slots.erase i).countP fun j => p (f j) :=
    List.countP_congr fun j hj => by
      rw [Function.update_of_ne ((slots_nodup.mem_erase_iff.1 hj).1)]
  rw [hsplit, hsplit f, hrest, Function.update_self]
  omega

theorem update_slot {s : State} {i : Nat} (hi : i ∈ slots) (x : HandleSlot) : (s.setSlot i x).slot = Function.update s.slot i x := by
  funext j
  rw [State.slot_setSlot s i j x (mem_slots.1 hi)]
  by_cases h : i = j
  · subst h; simp
  · rw [if_neg h, Function.update_of_ne (Ne.symm h)]

/-! ## Pins moved -/

/-- What a moved pin makes of one mirror's count (R151). -/
def movedPins (x y : Option (Ident × Tag × Side)) (m : Mirror) : Nat :=
  if x = y then m.pins
  else (if x = some (mirrorKey m) then m.pins - 1 else m.pins) + if y = some (mirrorKey m) then 1 else 0

theorem mirrorKey_pins (m : Mirror) (n : Nat) : mirrorKey { m with pins := n } = mirrorKey m :=
  rfl

theorem repin_eq (d : Directory) (k : Ident × Tag × Side) (f : Nat → Nat) :
    (d.repin k f).mirrors = d.mirrors.map fun m => { m with pins := if some k = some (mirrorKey m) then f m.pins else m.pins } := by
  refine List.map_congr_left fun m _ => ?_
  have h : m.hasKey k.1 k.2.1 k.2.2 = true ↔ some k = some (mirrorKey m) := by
    rw [hasKey_iff, Option.some.injEq, eq_comm]
  by_cases hk : m.hasKey k.1 k.2.1 k.2.2 = true
  · rw [if_pos hk, if_pos (h.1 hk)]
  · rw [if_neg hk, if_neg (mt h.2 hk)]

theorem movePin_mirrors (d : Directory) (x y : Option (Ident × Tag × Side)) :
    (d.movePin x y).mirrors = d.mirrors.map fun m => { m with pins := movedPins x y m } := by
  unfold Directory.movePin movedPins
  by_cases h : x = y
  · simp [h]
  · rw [if_neg h]
    have hsome (k : Ident × Tag × Side) (m : Mirror) : some k = some (mirrorKey m) ↔ k = mirrorKey m := by simp
    cases x <;> cases y <;> simp only [repin_eq, List.map_map, hsome, reduceCtorEq, if_false]
    · simp
    · refine List.map_congr_left fun m _ => ?_
      split <;> rfl
    · rfl
    · rename_i j k
      refine List.map_congr_left fun m _ => ?_
      simp only [Function.comp_apply, mirrorKey_pins, if_neg h]
      by_cases hk : k = mirrorKey m <;> simp [hk]

theorem movePin_holds (d : Directory) (x y : Option (Ident × Tag × Side)) (k : Ident × Tag × Side) :
    Holds (d.movePin x y) k ↔ Holds d k := by
  simp only [Holds, movePin_mirrors, List.mem_map, exists_exists_and_eq_and]
  rfl

/-! ## The directory kept in order -/

/-- The limits and keys do not depend on the pins and the order of use. -/
theorem DirOk.of_faces {d d' : Directory} (h : DirOk d) (hh : d'.home = d.home)
    (hm : (d'.mirrors.map face).Perm (d.mirrors.map face)) : DirOk d' := by
  have hlen : d'.mirrors.length = d.mirrors.length := by simpa using hm.length_eq
  refine ⟨hh ▸ h.homeMax, by rw [hh, hlen]; exact h.allMax, hh ▸ h.homeKeys, ?_, hh ▸ h.homeRev, fun m hx => ?_⟩
  · have hk := h.keys
    unfold KeysNodup at *
    rw [map_mirrorKey] at *
    exact (hm.map _).nodup_iff.2 hk
  · obtain ⟨n, hn, he⟩ := List.mem_map.1 (hm.mem_iff.1 (List.mem_map_of_mem hx))
    have hb : n.body = m.body := congrArg (fun p => p.2.1) he
    exact hb ▸ h.rev n hn

/-- A mirror without its freshness, as the keys, the revisions and the pins know it. -/
def core (m : Mirror) : Ident × Rec × Nat :=
  (m.owner, m.body, m.pins)

theorem map_mirrorKey_core (l : List Mirror) : l.map mirrorKey = (l.map core).map fun p => (p.1, p.2.1.tag, p.2.1.side) := by
  rw [List.map_map]
  rfl

/-- Fewer mirrors keep the directory in order. -/
theorem DirOk.of_sublist {d d' : Directory} (h : DirOk d) (hh : d'.home = d.home)
    (hm : (d'.mirrors.map core).Sublist (d.mirrors.map core)) : DirOk d' := by
  have hlen : d'.mirrors.length ≤ d.mirrors.length := by simpa using hm.length_le
  refine ⟨hh ▸ h.homeMax, by rw [hh]; exact Nat.le_trans (Nat.add_le_add_left hlen _) h.allMax, hh ▸ h.homeKeys, ?_,
    hh ▸ h.homeRev, fun m hx => ?_⟩
  · have hk := h.keys
    unfold KeysNodup at *
    rw [map_mirrorKey_core] at *
    exact hk.sublist (hm.map _)
  · obtain ⟨n, hn, he⟩ := List.mem_map.1 (hm.subset (List.mem_map_of_mem hx))
    have hb : n.body = m.body := congrArg (fun p => p.2.1) he
    exact hb ▸ h.rev n hn

/-! ## Moves of the mirrors -/

/-- A mirror used (R90). -/
theorem Acts.touched (l : Ledger) (o : Ident) (t : Tag) (sd : Side) : Acts w l { l with dir := l.dir.touch o t sd } := by
  have hhome : (l.dir.touch o t sd).home = l.dir.home ∧ (l.dir.touch o t sd).interest = l.dir.interest ∧
      (l.dir.touch o t sd).allMode = l.dir.allMode := by
    unfold Directory.touch
    split <;> exact ⟨rfl, rfl, rfl⟩
  obtain ⟨hh, hi, ha⟩ := hhome
  refine ⟨fun g => ⟨fun x => (g.dir x).of_faces hh ((touch_perm (g.dir x).keys o t sd).map face), fun x => ?_, fun x y z => ?_⟩,
    fun _ _ _ => by simp only [Ledger.kept, hh, hi, ha]⟩
  · exact ⟨(g.port x).tag, (g.port x).one⟩
  · have hp := touch_perm (g.dir x).keys o t sd
    refine ⟨fun m hm => (g.pins x y z).count m (hp.mem_iff.1 hm), fun i his hl k hk => ?_⟩
    obtain ⟨m, hm, he⟩ := (g.pins x y z).held i his hl k hk
    exact ⟨m, hp.mem_iff.2 hm, he⟩

/-- A slot replaced, with the pin moved from the mirror it rested on to the one it rests on now (R151). -/
theorem Ledger.Pinned.update {i : Nat} {x : HandleSlot} {loose : Nat → Prop} (p : l.Pinned) (hi : i ∈ slots)
    (hl : ∀ j ∈ slots, j ≠ i → ¬loose j → ¬l.loose j) (hk : ¬loose i → ∀ k, restKey x = some k → Holds l.dir k) :
    Ledger.Pinned { l with
      dir := l.dir.movePin (restKey (l.slot i)) (restKey x), slot := Function.update l.slot i x, loose := loose } := by
  refine ⟨fun m hm => ?_, fun j hj hlj k hjk => ?_⟩
  · simp only [movePin_mirrors, List.mem_map] at hm
    obtain ⟨n, hn, rfl⟩ := hm
    have hc := countP_update hi l.slot x fun y => y.restsOn (mirrorKey n)
    have hn' := p.count n hn
    change movedPins _ _ n = slots.countP fun j => (Function.update l.slot i x j).restsOn (mirrorKey n)
    simp only [restsOn_eq, decide_eq_true_eq] at hc hn' ⊢
    unfold movedPins
    split
    · rename_i he
      rw [he] at hc
      omega
    · rename_i he
      split at hc <;> split at hc
      · rename_i h1 h2
        exact absurd (h1.trans h2.symm) he
      all_goals
        rename_i h1 h2
        simp only [h1, h2, if_true, if_false]
        omega
  · rw [movePin_holds]
    by_cases h : j = i
    · subst h
      exact hk hlj k (by simpa using hjk)
    · exact p.held j hj (hl j hj h hlj) k (by simpa [Function.update_of_ne h] using hjk)

theorem DirOk.movePin {d : Directory} (h : DirOk d) (x y : Option (Ident × Tag × Side)) : DirOk (d.movePin x y) :=
  h.of_faces (d.movePin_keeps x y).1 (by rw [movePin_face])

/-- A slot's binding replaced by another or by none, its pin moved with its answer (R140, R151). The binding may be taken from the loose ones
when its answer is none or held. -/
theorem Acts.rewritten {i : Nat} {x : HandleSlot} {loose : Nat → Prop} (hi : i ∈ slots) (hs : (l.slot i).isReserved = false)
    (hx : x.isReserved = false) (hl : ∀ j ∈ slots, j ≠ i → ¬loose j → ¬l.loose j)
    (hk : w.dir → w.port → w.pins → l.Pinned → ¬loose i → ∀ k, restKey x = some k → Holds l.dir k) :
    Acts w l { l with
      dir := l.dir.movePin (restKey (l.slot i)) (restKey x), slot := Function.update l.slot i x, loose := loose } := by
  obtain ⟨hh, hint, ha, -⟩ := l.dir.movePin_keeps (restKey (l.slot i)) (restKey x)
  have hres (j : Nat) : (Function.update l.slot i x j).isReserved = (l.slot j).isReserved := by
    by_cases h : j = i
    · subst h; rw [Function.update_self, hs, hx]
    · rw [Function.update_of_ne h]
  refine ⟨fun g => ⟨fun y => (g.dir y).movePin _ _, fun y => ⟨fun j hj q hq => ?_, fun j hj k hk => ?_⟩,
    fun y z v => (g.pins y z v).update hi hl (hk y z v (g.pins y z v))⟩, fun _ _ _ => by simp only [Ledger.kept, hh, hint, ha]⟩
  · by_cases h : j = i
    · subst h
      change Function.update l.slot j x j = _ at hq
      rw [Function.update_self] at hq
      rw [hq] at hx; cases hx
    · exact (g.port y).tag j hj q (by simpa [Function.update_of_ne h] using hq)
  · simp only [hres]
    exact (g.port y).one j hj k hk

/-- The reserved handle given its binding, or freed: no question is owed any more (R139, R161). -/
theorem Acts.bound {i : Nat} {x : HandleSlot} (hi : i ∈ slots) (hs : (l.slot i).isReserved = true) (hx : x.isReserved = false)
    (hk : w.dir → w.port → w.pins → l.Pinned → ∀ k, restKey x = some k → Holds l.dir k) :
    Acts w l { l with dir := l.dir.movePin none (restKey x), slot := Function.update l.slot i x, due := none } := by
  obtain ⟨hh, hint, ha, -⟩ := l.dir.movePin_keeps none (restKey x)
  have hnone : restKey (l.slot i) = none := by
    cases h : l.slot i <;> simp_all [HandleSlot.isReserved, restKey]
  have hres (g : Good w l) (y : w.port) (j : Nat) (hj : j ∈ slots) : (Function.update l.slot i x j).isReserved = false := by
    by_cases h : j = i
    · subst h; rw [Function.update_self, hx]
    · rw [Function.update_of_ne h, ← Bool.not_eq_true]
      exact fun hr => h ((g.port y).one j hj i hi hr hs)
  refine ⟨fun g => ⟨fun y => (g.dir y).movePin _ _, fun y => .of_none (hres g y), fun y z v => ?_⟩,
    fun _ _ _ => by simp only [Ledger.kept, hh, hint, ha]⟩
  have h := (g.pins y z v).update (x := x) (loose := l.loose) hi (fun _ _ _ h => h) fun _ => hk y z v (g.pins y z v)
  rw [hnone] at h
  exact ⟨h.count, h.held⟩

/-- Fewer bindings trusted, or more of those that rest on no mirror. -/
theorem Acts.trusted {loose : Nat → Prop} (h : ∀ i ∈ slots, ¬loose i → l.loose i → restKey (l.slot i) = none) :
    Acts w l { l with loose := loose } := by
  refine ⟨fun g => ⟨g.dir, fun x => ⟨(g.port x).tag, (g.port x).one⟩, fun x y z => ⟨(g.pins x y z).count, fun i hi hl k hk => ?_⟩⟩,
    fun _ _ _ => rfl⟩
  by_cases hli : l.loose i
  · rw [show l.slot i = _ from rfl] at hk
    rw [h i hi hl hli] at hk
    cases hk
  · exact (g.pins x y z).held i hi hli k hk

/-- Mirrors removed or aged; the bindings that may have rested on a removed one are loose (R91, R92, R96, R97). -/
theorem Acts.culled {d : Directory} {loose : Nat → Prop} (hh : d.home = l.dir.home) (hint : d.interest = l.dir.interest)
    (ha : d.allMode = l.dir.allMode) (hm : (d.mirrors.map core).Sublist (l.dir.mirrors.map core))
    (hl : ∀ i ∈ slots, ¬loose i → ¬l.loose i ∧ ∀ k, restKey (l.slot i) = some k → Holds l.dir k → Holds d k) :
    Acts w l { l with dir := d, loose := loose } := by
  refine ⟨fun g => ⟨fun x => (g.dir x).of_sublist hh hm, fun x => ⟨(g.port x).tag, (g.port x).one⟩, fun x y z =>
    ⟨fun m hx => ?_, fun i hi hli k hk => ?_⟩⟩, fun _ _ _ => by simp only [Ledger.kept, hh, hint, ha]⟩
  · obtain ⟨n, hn, he⟩ := List.mem_map.1 (hm.subset (List.mem_map_of_mem hx))
    have h := (g.pins x y z).count n hn
    simp only [core, Prod.mk.injEq] at he
    obtain ⟨h1, h2, h3⟩ := he
    rw [← h3, h, mirrorKey, h1, h2]
    rfl
  · obtain ⟨h1, h2⟩ := hl i hi hli
    exact h2 k hk ((g.pins x y z).held i hi h1 k hk)

theorem removeMirror_mem {d : Directory} {o : Ident} {t : Tag} {sd : Side} {m : Mirror} :
    m ∈ (d.removeMirror o t sd).mirrors ↔ m ∈ d.mirrors ∧ mirrorKey m ≠ (o, t, sd) := by
  rw [Directory.removeMirror, List.mem_filter, ne_eq, ← hasKey_iff]
  simp

/-- With no key twice, the mirrors are one of them and those with other keys. -/
theorem perm_removeMirror {d : Directory} (hn : KeysNodup d) {o : Ident} {t : Tag} {sd : Side} {m : Mirror}
    (hm : d.findMirror o t sd = some m) : ((d.removeMirror o t sd).mirrors ++ [m]).Perm d.mirrors := by
  have h := touch_perm hn o t sd
  rwa [Directory.touch, hm] at h

/-- A mirror updated by a body of its key (R87). -/
theorem Acts.updated {m : Mirror} {r : Rec} (hm : l.dir.findMirror m.owner r.tag r.side = some m) (hr : w.dir → r.rev ≠ 0#16) :
    Acts w l { l with dir := { l.dir.removeMirror m.owner r.tag r.side with
      mirrors := (l.dir.removeMirror m.owner r.tag r.side).mirrors ++ [⟨m.owner, r, .current, m.pins⟩] } } := by
  obtain ⟨-, ht, hs⟩ := Directory.findMirror_key hm
  have hkey : mirrorKey ⟨m.owner, r, .current, m.pins⟩ = mirrorKey m := by simp [mirrorKey, ht, hs]
  refine ⟨fun g => ⟨fun x => ?_, fun x => ⟨(g.port x).tag, (g.port x).one⟩, fun x y z => ?_⟩, fun _ _ _ => rfl⟩
  · have hp := perm_removeMirror (g.dir x).keys hm
    have hd := g.dir x
    refine ⟨hd.homeMax, ?_, hd.homeKeys, ?_, hd.homeRev, fun n hn => ?_⟩
    · have hlen := hp.length_eq
      have hmax := hd.allMax
      simp only [List.length_append, List.length_singleton] at hlen ⊢
      change l.dir.home.length + _ ≤ _
      omega
    · have hk := hd.keys
      unfold KeysNodup at *
      rw [List.map_append, List.map_singleton, hkey, ← List.map_singleton, ← List.map_append]
      exact (hp.map _).nodup_iff.2 hk
    · rcases List.mem_append.1 hn with hn | hn
      · exact hd.rev n (removeMirror_mem.1 hn).1
      · rw [List.mem_singleton.1 hn]; exact hr x
  · have hp := perm_removeMirror (g.dir x).keys hm
    refine ⟨fun n hn => ?_, fun i hi hl k hk => ?_⟩
    · rcases List.mem_append.1 hn with hn | hn
      · exact (g.pins x y z).count n (removeMirror_mem.1 hn).1
      · rw [List.mem_singleton.1 hn, hkey]
        exact (g.pins x y z).count m (Directory.findMirror_mem hm)
    · obtain ⟨n, hn, he⟩ := (g.pins x y z).held i hi hl k hk
      rcases List.mem_append.1 (hp.mem_iff.2 hn) with hn | hn
      · exact ⟨n, List.mem_append_left _ hn, he⟩
      · exact ⟨_, List.mem_append_right _ (List.mem_singleton.2 rfl), by rw [hkey, ← List.mem_singleton.1 hn, he]⟩

/-- A new mirror, which no binding rests on yet (R88). -/
theorem Acts.added {o : Ident} {r : Rec} (hfree : w.dir → l.dir.home.length + l.dir.mirrors.length < Config.maxRecords)
    (hnew : w.dir → ¬Holds l.dir (o, r.tag, r.side)) (hr : w.dir → r.rev ≠ 0#16) (hl : ∀ i ∈ slots, ¬l.loose i) :
    Acts w l { l with dir := { l.dir with mirrors := l.dir.mirrors ++ [⟨o, r, .current, 0⟩] } } := by
  refine ⟨fun g => ⟨fun x => ?_, fun x => ⟨(g.port x).tag, (g.port x).one⟩, fun x y z => ⟨fun m hm => ?_, fun i hi _ k hk => ?_⟩⟩,
    fun _ _ _ => rfl⟩
  · have hd := g.dir x
    refine ⟨hd.homeMax, ?_, hd.homeKeys, ?_, hd.homeRev, fun n hn => ?_⟩
    · have := hfree x
      simp only [List.length_append, List.length_singleton]
      omega
    · have hk := hd.keys
      unfold KeysNodup at *
      rw [List.map_append, List.map_singleton, List.nodup_append_comm, List.singleton_append, List.nodup_cons]
      refine ⟨fun h => ?_, hk⟩
      obtain ⟨n, hn, he⟩ := List.mem_map.1 h
      exact hnew x ⟨n, hn, he⟩
    · rcases List.mem_append.1 hn with hn | hn
      · exact hd.rev n hn
      · rw [List.mem_singleton.1 hn]; exact hr x
  · rcases List.mem_append.1 hm with hm | hm
    · exact (g.pins x y z).count m hm
    · rw [List.mem_singleton.1 hm, eq_comm, List.countP_eq_zero]
      intro i hi h
      rw [restsOn_eq, decide_eq_true_eq] at h
      exact hnew x ((g.pins x y z).held i hi (hl i hi) _ h)
  · obtain ⟨n, hn, he⟩ := (g.pins x y z).held i hi (hl i hi) k hk
    exact ⟨n, List.mem_append_left _ hn, he⟩

/-! ## Moves of the question in flight -/

/-- With no handle reserved, an outcome owes nothing (R138). -/
theorem Acts.settled (h : ∀ i ∈ slots, (l.slot i).isReserved = false) : Acts w l { l with due := none } :=
  ⟨fun g => ⟨g.dir, fun _ => .of_none h, fun x y z => ⟨(g.pins x y z).count, (g.pins x y z).held⟩⟩, fun _ _ _ => rfl⟩

/-- The foreground query cleared: its outcome is owed (R128, R129). -/
theorem Acts.cleared (h : l.due = none) : Acts w l { l with asked := none, due := l.asked } :=
  ⟨fun g => ⟨g.dir, fun x => ⟨fun i hi q hq => .inr (((g.port x).tag i hi q hq).resolve_right (by simp [h])), (g.port x).one⟩,
    fun x y z => ⟨(g.pins x y z).count, (g.pins x y z).held⟩⟩, fun _ _ _ => rfl⟩

/-- The foreground query started (R126). -/
theorem Acts.posed {t : Tag} (h : w.port → l.asked = none ∧ (l.due = none ∨ l.due = some t)) :
    Acts w l { l with asked := some t, due := none } := by
  refine ⟨fun g => ⟨g.dir, fun x => ⟨fun i hi q hq => .inl ?_, (g.port x).one⟩,
    fun x y z => ⟨(g.pins x y z).count, (g.pins x y z).held⟩⟩, fun _ _ _ => rfl⟩
  obtain ⟨ha, hd⟩ := h x
  have hq' := ((g.port x).tag i hi q hq).resolve_left (by simp [ha])
  rcases hd with hd | hd
  · rw [hd] at hq'; cases hq'
  · rw [← hd]; exact hq'

/-- A free handle reserved for a BIND (R137). -/
theorem Acts.reserved {i : Nat} {q : Question} (hi : i ∈ slots) (hs : l.slot i = .free) (h : w.port → l.asked = none ∧ l.due = none) :
    Acts w l { l with slot := Function.update l.slot i (.reserved q), due := some q.tag } := by
  refine ⟨fun g => ⟨g.dir, fun y => ?_, fun y z v => ?_⟩, fun _ _ _ => rfl⟩
  · obtain ⟨ha, hd⟩ := h y
    have hfree (j : Nat) (hj : j ∈ slots) (hr : (Function.update l.slot i (.reserved q) j).isReserved = true) : j = i := by
      by_contra hne
      rw [Function.update_of_ne hne] at hr
      cases hq : l.slot j with
      | reserved p =>
        have := (g.port y).tag j hj p hq
        rw [ha, hd] at this
        simp at this
      | free => rw [hq] at hr; cases hr
      | held b => rw [hq] at hr; cases hr
    refine ⟨fun j hj p hp => .inr ?_, fun j hj k hk hrj hrk => (hfree j hj hrj).trans (hfree k hk hrk).symm⟩
    have hp' : Function.update l.slot i (.reserved q) j = .reserved p := hp
    have hj' := hfree j hj (by rw [hp']; rfl)
    subst hj'
    rw [Function.update_self] at hp'
    cases hp'
    rfl
  · have h := (g.pins y z v).update (x := .reserved q) (loose := l.loose) hi (fun _ _ _ h => h) fun _ k hk => by cases hk
    rw [hs] at h
    exact ⟨h.count, h.held⟩

/-! ## Moves of the home records and of the settings -/

/-- A home record given other values and another revision, in place (R81). -/
theorem Acts.restated {old r : Rec} (hold : old ∈ l.dir.home) (hk : (r.tag, r.side) = (old.tag, old.side)) (hr : r.rev ≠ 0#16)
    (hh : ¬w.host → (r.addr, r.perm, r.attrs) = (old.addr, old.perm, old.attrs)) :
    Acts w l { l with dir := { l.dir with
      home := l.dir.home.map fun x => if x.tag = old.tag ∧ x.side = old.side then r else x } } := by
  simp only [Prod.mk.injEq] at hk
  obtain ⟨ht, hs⟩ := hk
  have hkeys : ((l.dir.home.map fun x => if x.tag = old.tag ∧ x.side = old.side then r else x).map fun r => (r.tag, r.side)) =
      l.dir.home.map fun r => (r.tag, r.side) := by
    rw [List.map_map]
    refine List.map_congr_left fun x _ => ?_
    simp only [Function.comp_apply]
    split
    · rename_i hx; rw [ht, hs, hx.1, hx.2]
    · rfl
  refine ⟨fun g => ⟨fun x => ?_, fun x => ⟨(g.port x).tag, (g.port x).one⟩, fun x y z => ⟨(g.pins x y z).count, (g.pins x y z).held⟩⟩,
    fun g x n => ?_⟩
  · have hd := g.dir x
    refine ⟨by simpa using hd.homeMax, by simpa using hd.allMax, by rw [hkeys]; exact hd.homeKeys, hd.keys, fun y hy => ?_, hd.rev⟩
    obtain ⟨z, hz, rfl⟩ := List.mem_map.1 hy
    split
    · exact hr
    · exact hd.homeRev z hz
  · have hn := (g.dir x).homeKeys
    have hone : ∀ y ∈ l.dir.home, y.tag = old.tag → y.side = old.side → y = old := fun y hy h1 h2 =>
      List.inj_on_of_nodup_map hn hy hold (by rw [h1, h2])
    have hhome := hh n
    simp only [Prod.mk.injEq] at hhome
    simp only [Ledger.kept, List.map_map]
    refine congrArg (fun h => (l.host, l.dir.interest, l.dir.allMode, h)) (List.map_congr_left fun y hy => ?_)
    simp only [Function.comp_apply]
    split
    · rename_i hk
      rw [hone y hy hk.1 hk.2, ht, hs, hhome.1, hhome.2.1, hhome.2.2]
    · rfl

/-- A home record offered (R80). -/
theorem Acts.offered {r : Rec} (hw : w.host) (h : w.dir → l.dir.home.length < Config.maxHome ∧
    l.dir.home.length + l.dir.mirrors.length < Config.maxRecords ∧ l.dir.findHome r.tag r.side = none ∧ r.rev ≠ 0#16) :
    Acts w l { l with dir := l.dir.addHome r } := by
  refine ⟨fun g => ⟨fun x => ?_, fun x => ⟨(g.port x).tag, (g.port x).one⟩, fun x y z => ⟨(g.pins x y z).count, (g.pins x y z).held⟩⟩,
    fun _ _ n => absurd hw n⟩
  obtain ⟨h1, h2, h3, h4⟩ := h x
  have hd := g.dir x
  refine ⟨by simpa [Directory.addHome] using h1, ?_, ?_, hd.keys, fun y hy => ?_, hd.rev⟩
  · simp only [Directory.addHome, List.length_append, List.length_singleton]
    omega
  · rw [Directory.addHome, List.map_append, List.map_singleton, List.nodup_append_comm, List.singleton_append, List.nodup_cons]
    refine ⟨fun hm => ?_, hd.homeKeys⟩
    obtain ⟨y, hy, he⟩ := List.mem_map.1 hm
    simp only [Prod.mk.injEq] at he
    exact List.find?_eq_none.1 h3 y hy (by simp [he.1, he.2])
  · rcases List.mem_append.1 hy with hy | hy
    · exact hd.homeRev y hy
    · rw [List.mem_singleton.1 hy]; exact h4

/-- A home record withdrawn (R83). -/
theorem Acts.withdrawn (hw : w.host) (t : Tag) (sd : Side) : Acts w l { l with dir := l.dir.removeHome t sd } := by
  refine ⟨fun g => ⟨fun x => ?_, fun x => ⟨(g.port x).tag, (g.port x).one⟩, fun x y z => ⟨(g.pins x y z).count, (g.pins x y z).held⟩⟩,
    fun _ _ n => absurd hw n⟩
  have hd := g.dir x
  have hsub : (l.dir.removeHome t sd).home.Sublist l.dir.home := List.filter_sublist
  exact ⟨Nat.le_trans hsub.length_le hd.homeMax, Nat.le_trans (Nat.add_le_add_right hsub.length_le _) hd.allMax,
    hd.homeKeys.sublist (hsub.map _), hd.keys, fun y hy => hd.homeRev y (hsub.subset hy), hd.rev⟩

/-- The host sets what it may set (R94, R95, R166, R173, R177). -/
theorem Acts.configured (hw : w.host) (h : HostSettings) (interest : Vector Bool 64) (all : Bool) :
    Acts w l { l with host := h, dir := { l.dir with interest := interest, allMode := all } } :=
  ⟨fun g => ⟨fun x => ⟨(g.dir x).homeMax, (g.dir x).allMax, (g.dir x).homeKeys, (g.dir x).keys, (g.dir x).homeRev, (g.dir x).rev⟩,
    fun x => ⟨(g.port x).tag, (g.port x).one⟩, fun x y z => ⟨(g.pins x y z).count, (g.pins x y z).held⟩⟩,
    fun _ _ n => absurd hw n⟩

/-- A reset: no record, no handle in use (R78, R135). -/
theorem Acts.reset (hw : w.host) (hh : l'.dir.home = []) (hm : l'.dir.mirrors = []) (hs : ∀ i, l'.slot i = .free) : Acts w l l' := by
  refine ⟨fun _ => ⟨fun _ => ⟨?_, ?_, ?_, ?_, ?_, ?_⟩, fun _ => ⟨fun i _ q hq => ?_, fun i _ _ _ hr => ?_⟩,
    fun _ _ _ => ⟨fun m hx => ?_, fun i _ _ k hk => ?_⟩⟩, fun _ _ n => absurd hw n⟩
  all_goals simp_all [KeysNodup, HandleSlot.isReserved, restKey]

end Sys2Proof.Machine.RecordProofs
end

section
/-! What the operations of the model do to the ledger: the Binding Table, the mirrors, the home records. -/

namespace Sys2Proof.Machine.RecordProofs

open RollCallProofs

/-! ## Work that leaves the ledger alone -/

/-- The ledger is left alone. -/
def SameLedger (s t : State) : Prop :=
  ∀ loose due, ledger t loose due = ledger s loose due

theorem SameLedger.refl (s : State) : SameLedger s s :=
  fun _ _ => rfl

theorem SameLedger.trans {s t u : State} (h : SameLedger s t) (k : SameLedger t u) : SameLedger s u :=
  fun loose due => (k loose due).trans (h loose due)

theorem SameLedger.slot {s t : State} (h : SameLedger s t) : t.slot = s.slot :=
  congrArg Ledger.slot (h allFast none)

theorem SameLedger.dir {s t : State} (h : SameLedger s t) : t.dir = s.dir :=
  congrArg Ledger.dir (h allFast none)

theorem SameLedger.of_fields {s t : State} (hd : t.dir = s.dir) (hb : t.bindings.handles = s.bindings.handles)
    (hr : t.resolver.query = s.resolver.query) (hc : hostSettings t = hostSettings s) : SameLedger s t := by
  intro loose due
  have hs : t.slot = s.slot := by funext i; rw [State.slot, State.slot, hb]
  rw [ledger, ledger, hd, hs, hr, hc]

theorem sameLedger_of_sameStores {s t : State} (h : SameStores s t) : SameLedger s t :=
  .of_fields h.dir (by rw [h.bindings]) (by rw [h.resolver]) (by rw [hostSettings, hostSettings, h.ctrl, h.mask, h.disp])

theorem sameLedger_setRoll (s : State) (x : RollCall) : SameLedger s (s.setRoll x) :=
  fun _ _ => rfl

theorem sameLedger_setConsist (s : State) (x : ConsistTable) : SameLedger s (s.setConsist x) :=
  fun _ _ => rfl

theorem sameLedger_setTraffic (s : State) (x : Traffic) : SameLedger s (s.setTraffic x) :=
  fun _ _ => rfl

theorem sameLedger_setPort (s : State) (x : CarPort) : SameLedger s (s.setPort x) :=
  fun _ _ => rfl

theorem sameLedger_raise (s : State) (f : Events → Events) : SameLedger s (s.raise f) :=
  fun _ _ => rfl

theorem sameLedger_complete (s : State) (st : Status) (d : List Byte) (x : Bool) : SameLedger s (s.complete st d x) :=
  fun _ _ => rfl

theorem sameLedger_setEnd (s : State) (e : LineEnd) (l : LineEndSt) : SameLedger s (s.setEnd e l) := by
  cases e <;> exact fun _ _ => rfl

theorem sameLedger_updEnd (s : State) (e : LineEnd) (f : LineEndSt → LineEndSt) : SameLedger s (s.updEnd e f) :=
  sameLedger_setEnd s e _

theorem sameLedger_offerDir (s : State) (e : LineEnd) (f : Frame) : SameLedger s (s.offerDir e f) :=
  sameLedger_updEnd s e _

theorem sameLedger_offerCtrl (s : State) (e : LineEnd) (f : Frame) : SameLedger s (s.offerCtrl e f) :=
  sameLedger_updEnd s e _

theorem sameLedger_sendUnicast (s : State) (t : Nat) (p : Payload) : SameLedger s (s.sendUnicast t p) := by
  unfold State.sendUnicast
  split
  · exact sameLedger_offerDir s _ _
  · exact .refl s

theorem sameLedger_broadcast (s : State) (p : Payload) : SameLedger s (s.broadcast p) :=
  fun _ _ => rfl

theorem sameLedger_startBackground (s : State) : SameLedger s s.startBackground := by
  have h := s.rebinds_startBackground
  have hd : s.startBackground.dir = s.dir := by
    unfold State.startBackground
    split
    · split
      · rfl
      · split
        · rfl
        · split
          · rfl
          · split
            · rfl
            · simp [State.freshQuery]
    · rfl
  exact .of_fields hd (sameHandles_startBackground s).handles (by rw [h.resolver])
    (by rw [hostSettings, hostSettings, h.ctrl, h.mask, h.disp])

theorem sameLedger_reviewBackground (s : State) (i : Nat) (f : Found) : SameLedger s (s.reviewBackground i f) := by
  unfold State.reviewBackground
  split
  · exact .refl s
  · split
    · exact .refl s
    · split
      · split
        · exact .refl s
        · exact fun _ _ => rfl
      all_goals exact fun _ _ => rfl

theorem sameLedger_burstFrom (l : List (Tag × Side)) (s : State) : SameLedger s (s.burstFrom l) := by
  induction l generalizing s with
  | nil => exact fun _ _ => rfl
  | cons k l ih =>
    unfold State.burstFrom
    split
    · refine SameLedger.trans ?_ (ih _)
      unfold State.publishHome
      split
      · exact sameLedger_broadcast s _
      · exact .refl s
    · exact fun _ _ => rfl

theorem sameLedger_raiseBeside (s : State) (n : Nat) (k : EventKind) (f : Events → Events) : SameLedger s (s.raiseBeside n k f) := by
  rcases s.raiseBeside_cases n k f with h | ⟨o, -, h⟩ <;> rw [h] <;> exact fun _ _ => rfl

theorem sameLedger_reportFault (s : State) (k : FaultKind) : SameLedger s (s.reportFault k) :=
  sameLedger_of_sameStores (sameStores_reportFault s k)

theorem sameLedger_abandonChange (s : State) : SameLedger s s.abandonChange := by
  unfold State.abandonChange
  split <;> exact fun _ _ => rfl

theorem sameLedger_publishChange (c : HomeChange) (s : State) : SameLedger s (s.publishChange c) := by
  unfold State.publishChange
  split
  · exact .refl s
  · split
    · dsimp only
      split <;> exact fun _ _ => rfl
    · split <;> exact fun _ _ => rfl
    · split
      · exact .refl s
      · exact sameLedger_broadcast s _

/-- Of two pieces of work done in either order, the ledger has the first and then the second. -/
theorem sameLedger_eitherOrder (f g : State → State) (s : State) : SameLedger (g (f s)) (eitherOrder f g s) := by
  unfold eitherOrder
  dsimp only
  split <;> exact fun _ _ => rfl

/-! ## Runs of moves -/

variable {w : Watch} {s t u : State}

/-- The ledger goes from one state to another by moves, with no loose binding and no outcome owed at either. -/
def Works (w : Watch) (s t : State) : Prop :=
  Acts w (ledger s allFast none) (ledger t allFast none)

theorem Works.refl (s : State) : Works w s s :=
  Acts.refl _

theorem Works.trans (h : Works w s t) (k : Works w t u) : Works w s u :=
  Acts.trans h k

theorem SameLedger.works (h : SameLedger s t) : Works w s t :=
  .of_eq (h _ _)

theorem SameLedger.acts (h : SameLedger s t) (loose : Nat → Prop) (due : Option Tag) : Acts w (ledger s loose due) (ledger t loose due) :=
  .of_eq (h _ _)

/-! ## What a search finds is held -/

theorem search_hit {q : Question} {h : Hit} (hs : s.search q = .hit h) : ∃ i, s.matchCar i q.tag q.filter = some h := by
  unfold State.search at hs
  split at hs
  · cases hs
  · cases hs
  · split at hs
    · rename_i x hx
      cases hs
      obtain ⟨i, -, hi⟩ := List.exists_of_findSome?_eq_some hx
      exact ⟨i, hi⟩
    · cases hs
  · unfold State.searchTarget at hs
    split at hs
    · cases hs
    · rename_i i _
      split at hs
      · rename_i x hx
        cases hs
        exact ⟨i, hx⟩
      · split at hs
        · cases hs
        · split at hs <;> cases hs

theorem preferred_subset (al : Bool) (f : SideFilter) (l : List Hit) : preferred al f l ⊆ l := by
  intro h hh
  unfold preferred at hh
  cases hf : (f.preference.map fun ts => l.filter fun h => decide (trainSide al h.body.side = ts)).find? fun l => !l.isEmpty with
  | none => rw [hf] at hh; cases hh
  | some m =>
    rw [hf] at hh
    obtain ⟨ts, -, rfl⟩ := List.mem_map.1 (List.mem_of_find?_eq_some hf)
    exact (List.mem_filter.1 hh).1

/-- A mirror that a search finds is held, under its owner, the tag asked and its side (R121). -/
theorem search_mirror {q : Question} {h : Hit} (hs : s.search q = .hit h) (hm : h.source = .mirror) :
    h.body.tag = q.tag ∧ ∃ m ∈ s.dir.mirrors, m.owner = h.owner ∧ m.body = h.body ∧ m.fresh = h.fresh := by
  obtain ⟨i, hi⟩ := search_hit hs
  have hc : h ∈ s.candidates i q.tag := preferred_subset _ _ _ (List.mem_of_mem_head? hi)
  unfold State.candidates at hc
  split at hc
  · cases hc
  · split at hc
    · obtain ⟨x, -, rfl⟩ := List.mem_map.1 hc
      cases hm
    · obtain ⟨m, hmem, rfl⟩ := List.mem_map.1 hc
      obtain ⟨h1, h2⟩ := List.mem_filter.1 hmem
      obtain ⟨ho, ht⟩ := of_decide_eq_true h2
      exact ⟨ht, m, h1, ho, rfl, rfl⟩

/-- The mirror that a binding comes to rest on by a search is held (R143). -/
theorem search_holds {q : Question} {k : Ident × Tag × Side} (h : (s.bindStateOf (s.search q)).mirrorKey q.tag = some k) :
    Holds s.dir k := by
  cases hf : s.search q with
  | hit x =>
    rw [hf] at h
    cases hx : x.source with
    | home => simp [State.bindStateOf, State.answerOf, BindState.mirrorKey, hx] at h
    | mirror =>
      obtain ⟨ht, m, hm, ho, hb, -⟩ := search_mirror hf hx
      simp only [State.bindStateOf, State.answerOf, BindState.mirrorKey, hx, Option.some.injEq] at h
      exact ⟨m, hm, by rw [← h, mirrorKey, ho, hb, ht]⟩
  | _ => rw [hf] at h; cases h

theorem touch_holds (d : Directory) (o : Ident) (t : Tag) (sd : Side) (k : Ident × Tag × Side) :
    Holds (d.touch o t sd) k ↔ Holds d k := by
  unfold Directory.touch
  split
  · rename_i m hm
    have hkey : mirrorKey m = (o, t, sd) := by
      obtain ⟨h1, h2, h3⟩ := Directory.findMirror_key hm
      rw [mirrorKey, h1, h2, h3]
    constructor
    · rintro ⟨n, hn, he⟩
      rcases List.mem_append.1 hn with hn | hn
      · exact ⟨n, List.mem_of_mem_filter hn, he⟩
      · rw [List.mem_singleton.1 hn] at he
        exact ⟨m, Directory.findMirror_mem hm, he⟩
    · rintro ⟨n, hn, he⟩
      by_cases hk : n.hasKey o t sd = true
      · rw [hasKey_iff] at hk
        exact ⟨m, List.mem_append_right _ (List.mem_singleton.2 rfl), by rw [hkey, ← hk, he]⟩
      · exact ⟨n, List.mem_append_left _ (List.mem_filter.2 ⟨hn, by simpa using hk⟩), he⟩
  · exact Iff.rfl

/-! ## The Binding Table -/

theorem acts_use (s : State) (h : Hit) (loose : Nat → Prop) (due : Option Tag) :
    Acts w (ledger s loose due) (ledger (s.use h) loose due) := by
  unfold State.use
  split
  · exact .refl _
  · exact .touched _ _ _ _

theorem use_holds (s : State) (h : Hit) (k : Ident × Tag × Side) : Holds (s.use h).dir k ↔ Holds s.dir k := by
  unfold State.use
  split
  · exact Iff.rfl
  · exact touch_holds _ _ _ _ _

theorem acts_useFound (s : State) (f : Found) (loose : Nat → Prop) (due : Option Tag) :
    Acts w (ledger s loose due) (ledger (s.useFound f) loose due) := by
  cases f
  case hit h => exact acts_use s h _ _
  all_goals exact .refl _

theorem useFound_holds (s : State) (f : Found) (k : Ident × Tag × Side) : Holds (s.useFound f).dir k ↔ Holds s.dir k := by
  cases f
  case hit h => exact use_holds s h k
  all_goals exact Iff.rfl

/-- The binding of a slot with other contents (R150). -/
def withContents (b : Binding) (st : BindState) (x : Bool) : Binding :=
  { b with st := st, stale := x, changed := b.changed || decide (st ≠ b.st ∨ x ≠ b.stale) }

theorem ledger_takeContents {i : Nat} {b : Binding} (hi : i ∈ slots) (hb : s.slot i = .held b) (st : BindState) (x : Bool)
    (loose : Nat → Prop) (due : Option Tag) :
    ledger (s.takeContents i b st x) loose due = { ledger s loose due with
      dir := s.dir.movePin (restKey (s.slot i)) (restKey (.held (withContents b st x)))
      slot := Function.update s.slot i (.held (withContents b st x)) } := by
  have hd : (s.takeContents i b st x).dir = s.dir.movePin (restKey (s.slot i)) (restKey (.held (withContents b st x))) := by
    rw [hb]
    unfold State.takeContents
    dsimp only
    split <;> rfl
  have hs : (s.takeContents i b st x).slot = Function.update s.slot i (.held (withContents b st x)) := by
    funext j
    rw [takeContents_slot (mem_slots.1 hi) hb]
    by_cases h : i = j
    · subst h; simp [withContents]
    · rw [if_neg h, Function.update_of_ne (Ne.symm h)]
  have hr := s.rebinds_takeContents i b st x
  have hh : hostSettings (s.takeContents i b st x) = hostSettings s := by
    rw [hostSettings, hostSettings, hr.ctrl, hr.mask, hr.disp]
  rw [ledger, hd, hs, hr.resolver, hh]
  rfl

/-- A binding takes new contents: it is loose no longer if its answer is none or held. -/
theorem acts_takeContents {i : Nat} {b : Binding} (hi : i ∈ slots) (hb : s.slot i = .held b) {st : BindState} (x : Bool)
    (loose : Nat → Prop) (due : Option Tag) (hk : ∀ k, st.mirrorKey b.question.tag = some k → Holds s.dir k) :
    Acts w (ledger s loose due) (ledger (s.takeContents i b st x) (fun j => loose j ∧ j ≠ i) due) := by
  rw [ledger_takeContents hi hb]
  refine .rewritten (l := ledger s loose due) hi (by rw [show (ledger s loose due).slot i = _ from hb]; rfl) rfl
    (fun j _ hj h hl => h ⟨hl, hj⟩) fun _ _ _ _ _ k h => hk k h

/-- The tag that a slot's binding names. -/
def tagAt : HandleSlot → Option Tag
  | .held b => some b.question.tag
  | .reserved _ => none
  | .free => none

theorem tagAt_of_restKey {x : HandleSlot} {k : Ident × Tag × Side} (h : restKey x = some k) : tagAt x = some k.2.1 := by
  cases x with
  | held b =>
    simp only [restKey, BindState.mirrorKey] at h
    split at h
    · split at h
      · cases h; rfl
      · cases h
    · cases h
    · cases h
  | _ => cases h

theorem binding_eq_some {i : Nat} {b : Binding} : s.binding i = some b ↔ s.slot i = .held b := by
  unfold State.binding
  cases s.slot i <;> simp

theorem tagAt_slot (s : State) (i : Nat) : tagAt (s.slot i) = (s.binding i).map fun b => b.question.tag := by
  unfold State.binding
  cases s.slot i <;> rfl

theorem reResolve_of_held {i : Nat} {b : Binding} (hb : s.slot i = .held b) :
    s.reResolve i = ((s.useFound (s.search b.question)).takeContents i b (s.bindStateOf (s.search b.question))
      ((s.useFound (s.search b.question)).staleOf b.question.tag (s.bindStateOf (s.search b.question)))).reviewBackground i
        (s.search b.question) := by
  unfold State.reResolve
  rw [binding_eq_some.2 hb]

/-- A re-resolution leaves the questions of the table alone. -/
theorem reResolve_tagAt {i : Nat} (hi : i ∈ slots) (j : Nat) : tagAt ((s.reResolve i).slot j) = tagAt (s.slot j) := by
  cases hb : s.binding i with
  | none => rw [State.reResolve, hb]
  | some b =>
    rw [binding_eq_some] at hb
    have hu : (s.useFound (s.search b.question)).slot i = .held b := by rw [(sameHandles_useFound s _).slot, hb]
    rw [reResolve_of_held hb, (sameHandles_reviewBackground _ _ _).slot, takeContents_slot (mem_slots.1 hi) hu]
    split
    · subst j; rw [hb]; rfl
    · rw [(sameHandles_useFound s _).slot]

/-- A binding re-resolved is loose no longer (R143). -/
theorem acts_reResolve {i : Nat} (hi : i ∈ slots) (s : State) (loose : Nat → Prop) (due : Option Tag) :
    Acts w (ledger s loose due) (ledger (s.reResolve i) (fun j => loose j ∧ j ≠ i) due) := by
  cases hb : s.binding i with
  | none =>
    rw [State.reResolve, hb]
    refine .trusted (l := ledger s loose due) fun j hj h hl => ?_
    have hji : j = i := not_not.1 fun hne => h ⟨hl, hne⟩
    subst hji
    change restKey (s.slot j) = none
    unfold State.binding at hb
    cases hs : s.slot j <;> rw [hs] at hb <;> first | rfl | cases hb
  | some b =>
    rw [binding_eq_some] at hb
    have hu : (s.useFound (s.search b.question)).slot i = .held b := by rw [(sameHandles_useFound s _).slot, hb]
    rw [reResolve_of_held hb, sameLedger_reviewBackground]
    exact (acts_useFound s _ _ _).trans (acts_takeContents hi hu _ _ _ fun k hk => (useFound_holds _ _ _).2 (search_holds hk))

/-- Bindings re-resolved one after another are loose no longer. -/
theorem acts_foldl_reResolve (is : List Nat) (his : is ⊆ slots) (s : State) (loose : Nat → Prop) (due : Option Tag) :
    Acts w (ledger s loose due) (ledger (is.foldl State.reResolve s) (fun j => loose j ∧ j ∉ is) due) := by
  induction is generalizing s loose with
  | nil => exact .of_eq (by simp)
  | cons i is ih =>
    have h := ih (fun j hj => his (List.mem_cons_of_mem _ hj)) (s.reResolve i) (fun j => loose j ∧ j ≠ i)
    refine (acts_reResolve (his List.mem_cons_self) s loose due).trans (h.trans (.of_eq ?_))
    simp only [List.mem_cons, not_or, and_assoc, List.foldl_cons]

/-- More bindings are trusted only where none was loose. -/
theorem Acts.settle {loose loose' : Nat → Prop} {due : Option Tag} (h : ∀ j ∈ slots, ¬loose' j → ¬loose j) :
    Acts w (ledger s loose due) (ledger s loose' due) :=
  .trusted (l := ledger s loose due) fun j hj hn hl => absurd hl (h j hj hn)

theorem acts_reResolveAll (s : State) (loose : Nat → Prop) (due : Option Tag) :
    Acts w (ledger s loose due) (ledger s.reResolveAll allFast due) := by
  exact (acts_foldl_reResolve slots (fun _ h => h) s loose due).trans
    (Acts.trans (.settle fun j hj _ h => h.2 hj) ((sameLedger_startBackground _).acts allFast due))

theorem reResolveIf_tagAt {i : Nat} (hi : i ∈ slots) (t : Tag) (s : State) (j : Nat) :
    tagAt ((s.reResolveIf t i).slot j) = tagAt (s.slot j) := by
  unfold State.reResolveIf
  split
  · split
    · exact reResolve_tagAt hi j
    · rfl
  · rfl

theorem acts_reResolveIf {i : Nat} (hi : i ∈ slots) (t : Tag) (s : State) (loose : Nat → Prop) (due : Option Tag) :
    Acts w (ledger s loose due) (ledger (s.reResolveIf t i) (fun j => loose j ∧ ¬(j = i ∧ tagAt (s.slot j) = some t)) due) := by
  by_cases hb : tagAt (s.slot i) = some t
  · have hp : (fun j => loose j ∧ ¬(j = i ∧ tagAt (s.slot j) = some t)) = fun j => loose j ∧ j ≠ i := by
      funext j
      by_cases hj : j = i <;> simp [hj, hb]
    have he : s.reResolveIf t i = s.reResolve i := by
      rw [tagAt_slot, Option.map_eq_some_iff] at hb
      obtain ⟨b, hb, ht⟩ := hb
      rw [State.reResolveIf, hb]
      exact if_pos ht
    rw [hp, he]
    exact acts_reResolve hi s loose due
  · have hp : (fun j => loose j ∧ ¬(j = i ∧ tagAt (s.slot j) = some t)) = loose := by
      funext j
      by_cases hj : j = i <;> simp [hj, hb]
    have he : s.reResolveIf t i = s := by
      rw [tagAt_slot] at hb
      unfold State.reResolveIf
      split
      · rename_i b hs
        exact if_neg fun h => hb (by rw [hs, ← h]; rfl)
      · rfl
    rw [hp, he]
    exact .refl _

theorem foldl_reResolveIf_tagAt (is : List Nat) (his : is ⊆ slots) (t : Tag) (s : State) (j : Nat) :
    tagAt ((is.foldl (State.reResolveIf t) s).slot j) = tagAt (s.slot j) := by
  induction is generalizing s with
  | nil => rfl
  | cons i is ih =>
    exact (ih (fun k hk => his (List.mem_cons_of_mem _ hk)) _).trans (reResolveIf_tagAt (his List.mem_cons_self) t s j)

theorem acts_foldl_reResolveIf (is : List Nat) (his : is ⊆ slots) (t : Tag) (s : State) (loose : Nat → Prop) (due : Option Tag) :
    Acts w (ledger s loose due)
      (ledger (is.foldl (State.reResolveIf t) s) (fun j => loose j ∧ ¬(j ∈ is ∧ tagAt (s.slot j) = some t)) due) := by
  induction is generalizing s loose with
  | nil => exact .of_eq (by simp)
  | cons i is ih =>
    have hi : i ∈ slots := his List.mem_cons_self
    have h := ih (fun j hj => his (List.mem_cons_of_mem _ hj)) (s.reResolveIf t i)
      (fun j => loose j ∧ ¬(j = i ∧ tagAt (s.slot j) = some t))
    refine (acts_reResolveIf hi t s loose due).trans (h.trans (.of_eq ?_))
    simp only [reResolveIf_tagAt hi, List.mem_cons, or_and_right, not_or, and_assoc, List.foldl_cons]

/-- A record reported: the bindings that name its tag are loose no longer (R145). -/
theorem acts_recordChanged (t : Tag) (s : State) (loose : Nat → Prop) (due : Option Tag) :
    Acts w (ledger s loose due) (ledger (s.recordChanged t) (fun j => loose j ∧ tagAt (s.slot j) ≠ some t) due) := by
  refine (acts_foldl_reResolveIf slots (fun _ h => h) t s loose due).trans
    (Acts.trans (.settle fun j hj h h' => h ⟨h'.1, fun k => h'.2 ⟨hj, k⟩⟩) ((sameLedger_startBackground _).acts _ _))

/-- The report of a record leaves the questions of the table alone. -/
theorem recordChanged_tagAt (t : Tag) (s : State) (j : Nat) : tagAt ((s.recordChanged t).slot j) = tagAt (s.slot j) := by
  rw [State.recordChanged, (sameLedger_startBackground _).slot, foldl_reResolveIf_tagAt slots (fun _ h => h)]

/-- A record reported when every loose binding names its tag: none is loose any more. -/
theorem acts_recordChanged_all (t : Tag) (s : State) {loose : Nat → Prop} (due : Option Tag)
    (hl : ∀ j ∈ slots, loose j → tagAt (s.slot j) = some t) :
    Acts w (ledger s loose due) (ledger (s.recordChanged t) allFast due) :=
  (acts_recordChanged t s loose due).trans (.settle fun j hj _ h => h.2 (hl j hj h.1))

theorem works_recordChanged (t : Tag) (s : State) : Works w s (s.recordChanged t) :=
  acts_recordChanged_all t s none fun _ _ h => h.elim

theorem works_markStale {i : Nat} (hi : i ∈ slots) (s : State) : Works w s (s.markStale i) := by
  unfold State.markStale
  split
  · exact .refl s
  · rename_i b hb
    rw [binding_eq_some] at hb
    refine Acts.under fun g => ?_
    rw [ledger_takeContents hi hb]
    refine .rewritten (l := ledger s allFast none) hi (by rw [show (ledger s allFast none).slot i = _ from hb]; rfl) rfl
      (fun j _ _ h => h) fun _ _ _ p h k hk => p.held i hi h k ?_
    rw [show (ledger s allFast none).slot i = _ from hb]
    exact hk

theorem works_bindingsUnsettled (s : State) : Works w s s.bindingsUnsettled := by
  have h (is : List Nat) (his : is ⊆ slots) (s : State) : Works w s (is.foldl State.markStale s) := by
    induction is generalizing s with
    | nil => exact .refl s
    | cons i is ih => exact (works_markStale (his List.mem_cons_self) s).trans (ih (fun j hj => his (List.mem_cons_of_mem _ hj)) _)
  exact (SameLedger.works (s := s) (t := s.abandonBackground) fun _ _ => rfl).trans (h slots (fun _ h => h) _)

end Sys2Proof.Machine.RecordProofs
end

section
/-! What the operations of the model do to the ledger: outcomes of a question, mirrors stored and removed, home records, adoption. -/

namespace Sys2Proof.Machine.RecordProofs

open RollCallProofs

variable {w : Watch} {s t u : State}

/-! ## The end of a question -/

theorem acts_createBinding {i : Nat} {q : Question} (hi : i ∈ slots) (hq : s.slot i = .reserved q) {st : BindState}
    (loose : Nat → Prop) (due : Option Tag)
    (hk : w.dir → w.port → w.pins → (ledger s loose due).Pinned → ∀ k, st.mirrorKey q.tag = some k → Holds s.dir k) :
    Acts w (ledger s loose due) (ledger (s.createBinding i q st) loose none) := by
  have hl : ledger (s.createBinding i q st) loose none = { ledger s loose due with
      dir := s.dir.movePin none (restKey (.held ⟨q, st, (s.setDir (s.dir.movePin none (st.mirrorKey q.tag))).staleOf q.tag st, false⟩))
      slot := Function.update s.slot i (.held ⟨q, st, (s.setDir (s.dir.movePin none (st.mirrorKey q.tag))).staleOf q.tag st, false⟩)
      due := none } := by
    have hs := update_slot (s := s.setDir (s.dir.movePin none (st.mirrorKey q.tag))) hi
      (.held ⟨q, st, (s.setDir (s.dir.movePin none (st.mirrorKey q.tag))).staleOf q.tag st, false⟩)
    exact congrArg (fun f => (⟨s.dir.movePin none (st.mirrorKey q.tag), f, _, hostSettings s, loose, none⟩ : Ledger)) hs
  rw [hl]
  exact .bound (l := ledger s loose due) hi (by rw [show (ledger s loose due).slot i = _ from hq]; rfl) rfl hk

/-- The record a hit gives is found under the same key once it is taken as the directory holds it (R139). -/
theorem asHeld_key (s : State) (h : Hit) :
    (s.asHeld h).source = h.source ∧ (s.asHeld h).owner = h.owner ∧ (s.asHeld h).body.side = h.body.side := by
  cases hs : h.source with
  | home => rw [s.asHeld_home hs]; exact ⟨hs, rfl, rfl⟩
  | mirror =>
    cases hm : s.dir.findMirror h.owner h.body.tag h.body.side with
    | none => simp [State.asHeld, hs, hm]
    | some m =>
      rw [s.asHeld_mirror hs hm]
      exact ⟨hs, rfl, (Directory.findMirror_key hm).2.2⟩

theorem resolved_key {a : Answer} {t : Tag} {k : Ident × Tag × Side} (h : (BindState.resolved a).mirrorKey t = some k) :
    a.source = .mirror ∧ k = (a.owner, t, a.carSide) := by
  simp only [BindState.mirrorKey] at h
  split at h
  · cases h; exact ⟨‹_›, rfl⟩
  · cases h

/-- A question ends: its outcome is owed no more. A record found for a BIND is to be held under the tag its handle asks (R138, R139). -/
theorem acts_endResolution (s : State) (o : Outcome) (loose : Nat → Prop) (due : Option Tag)
    (hk : ∀ h, o = .found h → h.source = .mirror → w.dir → w.port → w.pins → (ledger s loose due).Pinned →
      ∀ i ∈ slots, ∀ q, s.slot i = .reserved q → Holds s.dir (h.owner, q.tag, h.body.side)) :
    Acts w (ledger s loose due) (ledger (s.endResolution o) loose none) := by
  have hlook (hn : ∀ i ∈ slots, (s.slot i).isReserved = false) : Acts w (ledger s loose due) (ledger (s.completeLookup o) loose none) := by
    have hc : ledger (s.completeLookup o) loose none = ledger s loose none := by cases o <;> rfl
    rw [hc]
    exact .settled (l := ledger s loose due) hn
  unfold State.endResolution
  split
  · rename_i i hi
    obtain ⟨his, hr⟩ := State.firstSlot_some hi
    split
    · rename_i q hq
      cases o with
      | consistChanged =>
        refine (acts_useFound s (s.search q) loose due).trans (acts_createBinding his ?_ loose due fun _ _ _ _ k hk => ?_)
        · rw [(sameHandles_useFound s _).slot, hq]
        · exact (useFound_holds _ _ _).2 (search_holds hk)
      | found h =>
        refine acts_createBinding his hq loose due fun x y z p k hkey => ?_
        obtain ⟨hsrc, rfl⟩ := resolved_key hkey
        obtain ⟨h1, h2, h3⟩ := asHeld_key s h
        have hm : h.source = .mirror := h1 ▸ hsrc
        have := hk h rfl hm x y z p i his q hq
        rw [← h2, ← h3] at this
        exact this
      | _ => exact acts_createBinding his hq loose due fun _ _ _ _ k hk => by cases hk
    · rename_i hq; rw [hq] at hr; cases hr
    · rename_i hq; rw [hq] at hr; cases hr
  · rename_i hn
    exact hlook (State.firstSlot_none hn)

theorem acts_clearForeground (s : State) (loose : Nat → Prop) :
    Acts w (ledger s loose none) (ledger s.clearForeground loose (s.resolver.query.map ForegroundQuery.tag)) :=
  .cleared (l := ledger s loose none) rfl

/-- An entry into ROLLING or an adoption ends the question in flight (R129). -/
theorem acts_abandonForeground (s : State) (loose : Nat → Prop) :
    Acts w (ledger s loose none) (ledger s.abandonForeground loose none) := by
  unfold State.abandonForeground
  split
  · exact .refl _
  · exact (acts_clearForeground s loose).trans (acts_endResolution _ _ _ _ fun h ho => by cases ho)

/-- A question resolved, its reservation made if it is one of a BIND (R119 to R126, R138). -/
theorem acts_resolve (s : State) (q : Question) (due : Option Tag)
    (hq : w.port → s.resolver.query = none ∧ (due = none ∨ due = some q.tag)) :
    Acts w (ledger s allFast due) (ledger (s.resolve q) allFast none) := by
  unfold State.resolve
  split
  case h_1 h hf =>
    refine .under fun g => (acts_use s h allFast due).trans (acts_endResolution _ _ _ _ fun h' ho hm _ hp _ _ i hi q' hq' => ?_)
    cases ho
    obtain ⟨ht, m, hmem, ho, hb, -⟩ := search_mirror hf hm
    rw [use_holds]
    have hslot : s.slot i = .reserved q' := by
      rw [← hq']
      exact ((sameHandles_useFound s (.hit h)).slot i).symm
    have htag := (g.port hp).tag i hi q' hslot
    obtain ⟨hn, hd⟩ := hq hp
    change s.resolver.query.map _ = _ ∨ due = _ at htag
    rw [hn] at htag
    have hqt : q'.tag = q.tag := by
      rcases hd with hd | hd <;> rw [hd] at htag <;> simp_all
    exact ⟨m, hmem, by rw [mirrorKey, ho, hb, hqt, ht]⟩
  case h_5 i id hf =>
    unfold State.startForeground
    have hsame : SameLedger s (s.freshQuery (s.bindings.query.map BackgroundQuery.id) i q.tag) :=
      .trans (t := s.setTraffic _) (fun _ _ => rfl) (sameLedger_sendUnicast _ _ _)
    refine (hsame.acts allFast due).trans ?_
    refine .posed (l := ledger (s.freshQuery (s.bindings.query.map BackgroundQuery.id) i q.tag) allFast due) fun hp => ?_
    have hn : (s.freshQuery (s.bindings.query.map BackgroundQuery.id) i q.tag).resolver = s.resolver :=
      (s.rebinds_freshQuery _ _ _).resolver
    refine ⟨?_, (hq hp).2⟩
    change Option.map _ _ = none
    rw [hn, (hq hp).1]
    rfl
  all_goals
    refine acts_endResolution s _ _ _ fun h ho => ?_
    cases ho

/-! ## Mirrors -/

/-- A mirror removed and its removal reported (R91, R92). -/
theorem works_removeMirror (s : State) (o : Ident) (t : Tag) (sd : Side) :
    Works w s ((s.setDir (s.dir.removeMirror o t sd)).recordChanged t) := by
  refine Acts.trans (l' := ledger (s.setDir (s.dir.removeMirror o t sd)) (fun j => tagAt (s.slot j) = some t) none) ?_
    (acts_recordChanged_all t _ none fun _ _ h => h)
  refine .culled (l := ledger s allFast none) rfl rfl rfl (List.filter_sublist.map _) fun i _ hl => ⟨id, fun k hk ⟨m, hm, he⟩ => ?_⟩
  refine ⟨m, removeMirror_mem.2 ⟨hm, fun h => hl ?_⟩, he⟩
  have hk' : restKey (s.slot i) = some k := hk
  rw [tagAt_of_restKey hk', ← he, h]

theorem works_makeRoom (s : State) : Works w s s.makeRoom := by
  rcases s.makeRoom_cases with ⟨-, h⟩ | ⟨-, -, h⟩ | ⟨m, -, -, h⟩ <;> rw [h]
  · exact .refl s
  · exact .refl s
  · exact works_removeMirror s _ _ _

/-- Making room brings no mirror. -/
theorem makeRoom_mirrors (s : State) :
    ∀ m ∈ s.makeRoom.dir.mirrors, ∃ n ∈ s.dir.mirrors, (m.owner, m.body, m.fresh) = (n.owner, n.body, n.fresh) := by
  rcases s.makeRoom_cases with ⟨-, h⟩ | ⟨-, -, h⟩ | ⟨v, -, -, h⟩ <;> rw [h]
  · exact fun m hm => ⟨m, hm, rfl⟩
  · exact fun m hm => ⟨m, hm, rfl⟩
  · intro m hm
    obtain ⟨n, hn, he⟩ := (State.rebinds_recordChanged _ _).mirrors m hm
    exact ⟨n, (removeMirror_mem.1 hn).1, he⟩

theorem makeRoom_not_holds {k : Ident × Tag × Side} (h : ¬Holds s.dir k) : ¬Holds s.makeRoom.dir k := by
  rintro ⟨m, hm, he⟩
  obtain ⟨n, hn, hf⟩ := makeRoom_mirrors s m hm
  simp only [Prod.mk.injEq] at hf
  exact h ⟨n, hn, by rw [← he, mirrorKey, mirrorKey, hf.1, hf.2.1]⟩

theorem makeRoom_home (s : State) : s.makeRoom.dir.home = s.dir.home := by
  rcases s.makeRoom_cases with ⟨-, h⟩ | ⟨-, -, h⟩ | ⟨m, -, -, h⟩ <;> rw [h]
  rw [(State.rebinds_recordChanged _ _).home]
  rfl

theorem works_addMirror {o : Ident} {r : Rec} (hk : ¬Holds s.dir (o, r.tag, r.side)) (hr : r.rev ≠ 0#16) :
    Works w s (s.addMirror o r) := by
  unfold State.addMirror
  split
  · rename_i hf
    refine Acts.trans ?_ (works_recordChanged r.tag _)
    exact .added (l := ledger s allFast none) (fun _ => of_decide_eq_true hf) (fun _ => hk) (fun _ => hr) fun _ _ h => h
  · exact .refl s

theorem works_updateMirror {m : Mirror} {r : Rec} (hm : s.dir.findMirror m.owner r.tag r.side = some m) (hr : r.rev ≠ 0#16) :
    Works w s (s.updateMirror m r) := by
  refine Works.trans (t := s.setDir _) ?_ (works_recordChanged r.tag _)
  exact .updated (l := ledger s allFast none) hm fun _ => hr

theorem works_storeMirror {o : Ident} {r : Rec} (hk : s.dir.findMirror o r.tag r.side = none) (hr : r.rev ≠ 0#16) :
    Works w s (s.storeMirror o r) := by
  have h : Works w s (s.makeRoom.addMirror o r) :=
    (works_makeRoom s).trans (works_addMirror (makeRoom_not_holds ((not_holds_iff s.dir (o, r.tag, r.side)).2 hk)) hr)
  rcases s.storeMirror_cases o r with ⟨-, he⟩ | ⟨g, -, he⟩ <;> rw [he]
  · exact h
  · exact h.trans (sameLedger_raiseBeside _ _ _ _).works

theorem works_keepBody (s : State) (o : Ident) {r : Rec} (hr : r.rev ≠ 0#16) : Works w s (s.keepBody o r) := by
  unfold State.keepBody
  split
  · rename_i m hm
    obtain ⟨ho, ht, hs⟩ := Directory.findMirror_key hm
    exact works_updateMirror (by rw [ho, hm]) hr
  · exact works_storeMirror ‹_› hr

/-- The revision of a good body is not 0 (R86). -/
theorem goodBody_rev {b : RecordBody} {r : Rec} (h : goodBody b = some r) : r.rev ≠ 0#16 := by
  unfold goodBody at h
  split at h
  · split at h
    · rename_i hg
      cases h
      exact hg.2
    · cases h
  · cases h

theorem works_storeAnswer (s : State) (o : Ident) (bs : List RecordBody) : Works w s (s.storeAnswer o bs) := by
  have h (l : List Rec) (hl : ∀ r ∈ l, r.rev ≠ 0#16) (s : State) : Works w s (l.foldl (fun s r => s.keepBody o r) s) := by
    induction l generalizing s with
    | nil => exact .refl s
    | cons r l ih => exact (works_keepBody s o (hl r List.mem_cons_self)).trans (ih (fun x hx => hl x (List.mem_cons_of_mem _ hx)) _)
  refine h _ (fun r hr => ?_) s
  obtain ⟨b, -, hb⟩ := List.mem_filterMap.1 hr
  exact goodBody_rev hb

theorem works_takePublished (s : State) (o : Ident) (b : RecordBody) : Works w s (s.takePublished o b) := by
  unfold State.takePublished
  split
  · exact .refl s
  · rename_i r hr
    split
    · rename_i m hm
      obtain ⟨ho, ht, hs⟩ := Directory.findMirror_key hm
      exact works_updateMirror (by rw [ho, hm]) (goodBody_rev hr)
    · split
      · exact works_storeMirror ‹_› (goodBody_rev hr)
      · exact .refl s

theorem works_takeWithdrawn (s : State) (o : Ident) (t : Tag) (sd : Byte) : Works w s (s.takeWithdrawn o t sd) := by
  unfold State.takeWithdrawn
  split
  · exact .refl s
  · split
    · split
      · exact .refl s
      · exact works_removeMirror s _ _ _
    · exact .refl s

/-! ## Home records -/

theorem works_homeChanged (s : State) (c : HomeChange) : Works w s (s.homeChanged c) :=
  (works_recordChanged c.tag s).trans
    (((sameLedger_publishChange c _).trans (sameLedger_eitherOrder (fun s => s.recordChanged c.tag) (State.publishChange c) s)).works)

theorem stepRevision_ne_zero (x : Half) : stepRevision x ≠ 0#16 := by
  unfold stepRevision
  split
  · decide
  · rename_i h
    intro h0
    apply h
    bv_omega

theorem findHome_some {d : Directory} {t : Tag} {sd : Side} {r : Rec} (h : d.findHome t sd = some r) :
    r ∈ d.home ∧ r.tag = t ∧ r.side = sd :=
  ⟨List.mem_of_find?_eq_some h, by simpa using List.find?_some h⟩

theorem works_changeHome {old r : Rec} (hold : old ∈ s.dir.home) (hk : (r.tag, r.side) = (old.tag, old.side))
    (hh : ¬w.host → (r.addr, r.perm, r.attrs) = (old.addr, old.perm, old.attrs)) : Works w s (s.changeHome old r) := by
  unfold State.changeHome
  split
  · exact .refl s
  · refine Works.trans (t := s.setDir _) ?_ (works_homeChanged _ _)
    exact .restated (l := ledger s allFast none) (r := { r with rev := stepRevision old.rev }) hold hk (stepRevision_ne_zero _) hh

theorem works_decideChange (s : State) (t : Tag) (sd : Side) (d : RecState) : Works w s (s.decideChange t sd d).1 := by
  unfold State.decideChange
  split
  · exact .refl s
  · rename_i r hr
    split
    · exact .refl s
    · exact works_changeHome (findHome_some hr).1 rfl fun _ => rfl

/-! ## Adoption and the refresh window -/

theorem works_adopt (s : State) (r : List RosterEntry) (x : Epoch) (f : Option (LineEnd × Frame)) : Works w s (s.adopt r x f) := by
  rw [adopt_eq]
  have hpurge (s : State) : Acts w (ledger s allFast none) (ledger s.purge (fun _ => True) none) := by
    refine .culled (l := ledger s allFast none) rfl rfl rfl ?_ fun _ _ h => absurd trivial h
    simp only [State.purge, State.setDir, List.map_map]
    exact List.filter_sublist.map core
  have htraffic (s : State) : SameLedger s s.trafficAdopt := by
    unfold State.trafficAdopt
    exact (sameLedger_abandonChange s).trans fun _ _ => rfl
  have htail (s : State) : Acts w (ledger s (fun _ => True) none) (ledger s.burstStart.bindingsAdopt allFast none) :=
    ((sameLedger_burstFrom _ s).acts _ none).trans
      (acts_reResolveAll (s.burstStart.abandonBackground) (fun _ => True) none)
  refine (sameLedger_of_sameStores (sameStores_adoptHead s r x f)).works.trans (Works.trans ?_ (sameLedger_eitherOrder _ _ _).works)
  exact (hpurge _).trans (((htraffic _).acts _ _).trans ((acts_abandonForeground _ _).trans (htail _)))

theorem works_reportUnsettled (s : State) : Works w s s.reportUnsettled := by
  unfold State.reportUnsettled
  refine Works.trans (t := (s.setRemainder []).abandonChange) ?_ (Works.trans (acts_abandonForeground _ _) (works_bindingsUnsettled _))
  exact (SameLedger.trans (t := s.setRemainder []) (fun _ _ => rfl) (sameLedger_abandonChange _)).works

theorem works_enterRolling (s : State) : Works w s s.enterRolling := by
  unfold State.enterRolling
  exact ((sameLedger_setRoll s _).trans (sameLedger_raise _ _)).works.trans (works_reportUnsettled _)

theorem works_enterDegraded (s : State) : Works w s s.enterDegraded := by
  unfold State.enterDegraded
  exact ((sameLedger_setRoll s _).trans ((sameLedger_reportFault _ _).trans (sameLedger_raise _ _))).works.trans
    (works_reportUnsettled _)

/-- The removals of the refresh window reported one after another: every binding that names one of their tags is re-resolved (R97). -/
theorem acts_reportGone (n : Nat) (tags : List Tag) (hn : tags.length ≤ n) (s : State) {loose : Nat → Prop}
    (hl : ∀ j ∈ slots, loose j → ∃ t ∈ tags, tagAt (s.slot j) = some t) :
    Acts w (ledger s loose none) (ledger (State.reportGone n tags s) allFast none) := by
  induction n generalizing tags s loose with
  | zero =>
    have ht : tags = [] := List.length_eq_zero_iff.1 (Nat.le_zero.1 hn)
    subst ht
    exact .settle fun j hj _ h => absurd (hl j hj h) (by simp)
  | succ n ih =>
    unfold State.reportGone
    split
    · exact .settle fun j hj _ h => absurd (hl j hj h) (by simp)
    · exact acts_recordChanged_all _ s none fun j hj h => by simpa using hl j hj h
    · rename_i t rest _
      dsimp only
      generalize hk : Config.freePick s.freeCount % (t :: rest).length = k
      have hlt : k < (t :: rest).length := hk ▸ Nat.mod_lt _ (by simp)
      have hget : ((t :: rest)[k]?).getD t = (t :: rest)[k] := by rw [List.getElem?_eq_getElem hlt]; rfl
      rw [hget]
      have hfree : SameLedger s { s with freeCount := s.freeCount + 1 } := fun _ _ => rfl
      refine (hfree.acts loose none).trans ((acts_recordChanged (t :: rest)[k] _ loose none).trans (ih _ ?_ _ fun j hj h => ?_))
      · rw [List.length_eraseIdx_of_lt hlt]; omega
      · obtain ⟨g, hg, he⟩ := hl j hj h.1
        refine ⟨g, ?_, by rw [recordChanged_tagAt]; exact he⟩
        have hne : g ≠ (t :: rest)[k] := fun hgk => h.2 (by rw [← hgk]; exact he)
        exact (List.mem_cons.1 ((List.getElem_cons_eraseIdx_perm hlt).mem_iff.2 hg)).resolve_left hne

theorem works_endRefresh (s : State) : Works w s s.endRefresh := by
  unfold State.endRefresh
  dsimp only
  refine Acts.trans (l' := ledger (s.setDir { s.dir with
    mirrors := s.dir.mirrors.filter fun m => decide (m.fresh ≠ .stale), refreshT := .stopped })
      (fun j => ∃ m ∈ s.dir.mirrors, m.fresh = .stale ∧ tagAt (s.slot j) = some m.body.tag) none) ?_
    (acts_reportGone _ _ (Nat.le_refl _) _ fun j _ hj => ?_)
  · refine .culled (l := ledger s allFast none) rfl rfl rfl (List.filter_sublist.map _) fun i _ hl => ⟨id, fun k hk ⟨m, hm, he⟩ => ?_⟩
    have hk' : restKey (s.slot i) = some k := hk
    refine ⟨m, List.mem_filter.2 ⟨hm, decide_eq_true fun hst => hl ⟨m, hm, hst, ?_⟩⟩, he⟩
    rw [tagAt_of_restKey hk', ← he]
    rfl
  · obtain ⟨m, hm, hst, ht⟩ := hj
    exact ⟨_, List.mem_map.2 ⟨m, List.mem_filter.2 ⟨hm, decide_eq_true hst⟩, rfl⟩, ht⟩

end Sys2Proof.Machine.RecordProofs
end

section
/-! An ANSWER of up to four bodies leaves every one of them held: the mirrors just stored stand too near the most recent end of the use order for an
eviction to take one of them, since a full directory holds more mirrors before them than bindings can pin (R89, R92, R139). -/

namespace Sys2Proof.Machine.RecordProofs

open RollCallProofs

variable {w : Watch} {s t : State}

/-- A CURRENT mirror of this key stands in the use order with at most `n` mirrors after it. -/
def Recent (n : Nat) (k : Ident × Tag × Side) (l : List Mirror) : Prop :=
  ∃ pre m post, l = pre ++ m :: post ∧ mirrorKey m = k ∧ m.fresh = .current ∧ post.length ≤ n

variable {n : Nat} {k : Ident × Tag × Side} {l : List Mirror}

theorem Recent.mono {p : Nat} (h : Recent n k l) (hp : n ≤ p) : Recent p k l := by
  obtain ⟨pre, m, post, hl, hk, hf, hn⟩ := h
  exact ⟨pre, m, post, hl, hk, hf, Nat.le_trans hn hp⟩

theorem Recent.holds {d : Directory} (h : Recent n k d.mirrors) : Holds d k := by
  obtain ⟨pre, m, post, hl, hk, -⟩ := h
  exact ⟨m, by rw [hl]; simp, hk⟩

theorem Recent.append (h : Recent n k l) (x : Mirror) : Recent (n + 1) k (l ++ [x]) := by
  obtain ⟨pre, m, post, rfl, hk, hf, hn⟩ := h
  exact ⟨pre, m, post ++ [x], by simp, hk, hf, by simpa using hn⟩

theorem Recent.last {x : Mirror} (hk : mirrorKey x = k) (hf : x.fresh = .current) (l : List Mirror) : Recent 0 k (l ++ [x]) :=
  ⟨l, x, [], rfl, hk, hf, Nat.le_refl _⟩

theorem Recent.filter (h : Recent n k l) {p : Mirror → Bool} (hp : ∀ m, mirrorKey m = k → p m = true) : Recent n k (l.filter p) := by
  obtain ⟨pre, m, post, rfl, hk, hf, hn⟩ := h
  exact ⟨pre.filter p, m, post.filter p, by simp [hp m hk], hk, hf, Nat.le_trans (List.length_filter_le _ _) hn⟩

theorem Recent.map (h : Recent n k l) {f : Mirror → Mirror} (hf : ∀ m, mirrorKey (f m) = mirrorKey m ∧ (f m).fresh = m.fresh) :
    Recent n k (l.map f) := by
  obtain ⟨pre, m, post, rfl, hk, hc, hn⟩ := h
  exact ⟨pre.map f, f m, post.map f, by simp, (hf m).1.trans hk, (hf m).2.trans hc, by simpa using hn⟩

/-- The mirror that is recent is the one with its key. -/
theorem Recent.eq_of_key (h : Recent n k l) (hn : (l.map mirrorKey).Nodup) {m : Mirror} (hm : m ∈ l) (hk : mirrorKey m = k) :
    m.fresh = .current := by
  obtain ⟨pre, x, post, hl, hx, hf, -⟩ := h
  have hxm : x ∈ l := by rw [hl]; simp
  rw [List.inj_on_of_nodup_map hn hm hxm (hk.trans hx.symm)]
  exact hf

/-! ## Work of the Binding Table -/

theorem Recent.removeMirror {d : Directory} (h : Recent n k d.mirrors) {o : Ident} {t : Tag} {sd : Side} (hk : k ≠ (o, t, sd)) :
    Recent n k (d.removeMirror o t sd).mirrors :=
  h.filter fun m hm => by
    rw [Bool.not_eq_true', ← Bool.not_eq_true, hasKey_iff, hm]
    exact hk

theorem Recent.touch {d : Directory} (h : Recent n k d.mirrors) (hn : KeysNodup d) (o : Ident) (t : Tag) (sd : Side) :
    Recent (n + 1) k (d.touch o t sd).mirrors := by
  unfold Directory.touch
  split
  · rename_i m hm
    by_cases hk : k = (o, t, sd)
    · have hmk : mirrorKey m = k := by
        obtain ⟨h1, h2, h3⟩ := Directory.findMirror_key hm
        rw [hk, mirrorKey, h1, h2, h3]
      exact (Recent.last hmk (h.eq_of_key hn (Directory.findMirror_mem hm) hmk) _).mono (Nat.zero_le _)
    · exact (h.removeMirror hk).append m
  · exact h.mono (Nat.le_succ n)

theorem Recent.movePin {d : Directory} (h : Recent n k d.mirrors) (x y : Option (Ident × Tag × Side)) :
    Recent n k (d.movePin x y).mirrors := by
  rw [movePin_mirrors]
  exact h.map fun m => ⟨rfl, rfl⟩

theorem recent_useFound (h : Recent n k s.dir.mirrors) (hn : KeysNodup s.dir) (f : Found) :
    Recent (n + 1) k (s.useFound f).dir.mirrors := by
  cases f
  case hit x =>
    change Recent (n + 1) k (s.use x).dir.mirrors
    unfold State.use
    split
    · exact h.mono (Nat.le_succ n)
    · exact h.touch hn _ _ _
  all_goals exact h.mono (Nat.le_succ n)

theorem recent_takeContents (h : Recent n k s.dir.mirrors) (i : Nat) (b : Binding) (st : BindState) (x : Bool) :
    Recent n k (s.takeContents i b st x).dir.mirrors := by
  unfold State.takeContents
  dsimp only
  split
  · exact h.movePin _ _
  · exact h.movePin _ _

theorem recent_reResolve (h : Recent n k s.dir.mirrors) (hn : KeysNodup s.dir) (i : Nat) :
    Recent (n + 1) k (s.reResolve i).dir.mirrors := by
  unfold State.reResolve
  split
  · exact h.mono (Nat.le_succ n)
  · dsimp only
    rw [(sameLedger_reviewBackground _ _ _).dir]
    exact recent_takeContents (recent_useFound h hn _) _ _ _ _

theorem sameSight_reResolveIf (hn : KeysNodup s.dir) (t : Tag) (i : Nat) : SameSight s (s.reResolveIf t i) := by
  unfold State.reResolveIf
  split
  · split
    · exact sameSight_reResolve hn i
    · exact .refl s
  · exact .refl s

theorem sameSight_foldl_reResolveIf (is : List Nat) (hn : KeysNodup s.dir) (t : Tag) :
    SameSight s (is.foldl (State.reResolveIf t) s) := by
  induction is generalizing s with
  | nil => exact .refl s
  | cons i is ih =>
    have h := sameSight_reResolveIf hn t i
    exact h.trans (ih (h.keysNodup hn))

/-- The report of a record moves mirrors in the use order and pins, and changes nothing else that a question is answered from (R145). -/
theorem sameSight_recordChanged (hn : KeysNodup s.dir) (t : Tag) : SameSight s (s.recordChanged t) :=
  (sameSight_foldl_reResolveIf slots hn t).trans (sameSight_startBackground _)

theorem recent_foldl_reResolveIf (is : List Nat) (h : Recent n k s.dir.mirrors) (hn : KeysNodup s.dir) (t : Tag) :
    Recent (n + is.length) k (is.foldl (State.reResolveIf t) s).dir.mirrors := by
  induction is generalizing s n with
  | nil => exact h
  | cons i is ih =>
    have hstep : Recent (n + 1) k (s.reResolveIf t i).dir.mirrors := by
      unfold State.reResolveIf
      split
      · split
        · exact recent_reResolve h hn i
        · exact h.mono (Nat.le_succ n)
      · exact h.mono (Nat.le_succ n)
    rw [List.length_cons, Nat.add_comm is.length, ← Nat.add_assoc]
    exact ih hstep ((sameSight_reResolveIf hn t i).keysNodup hn)

/-- The report of a record uses a mirror for each handle at most. -/
theorem recent_recordChanged (h : Recent n k s.dir.mirrors) (hn : KeysNodup s.dir) (t : Tag) :
    Recent (n + 32) k (s.recordChanged t).dir.mirrors := by
  rw [State.recordChanged, (sameLedger_startBackground _).dir]
  exact recent_foldl_reResolveIf slots h hn t

theorem recent_report {d : Directory} (h : Recent n k d.mirrors) (hn : KeysNodup d) (t : Tag) :
    Recent (n + 32) k ((s.setDir d).recordChanged t).dir.mirrors :=
  recent_recordChanged (s := s.setDir d) h hn t

/-! ## Eviction -/

/-- There are no more pinned mirrors than handles (R93). -/
theorem pinned_le {l : Ledger} (hd : KeysNodup l.dir) (hp : l.Pinned) :
    (l.dir.mirrors.filter fun m => decide (m.pins ≠ 0)).length ≤ 32 := by
  have hsub : (l.dir.mirrors.filter fun m => decide (m.pins ≠ 0)).map mirrorKey ⊆ slots.filterMap fun i => restKey (l.slot i) := by
    intro k hk
    obtain ⟨m, hm, rfl⟩ := List.mem_map.1 hk
    obtain ⟨hmem, hpin⟩ := List.mem_filter.1 hm
    rw [decide_eq_true_eq, hp.count m hmem, ← Nat.pos_iff_ne_zero, List.countP_pos_iff] at hpin
    obtain ⟨i, hi, hr⟩ := hpin
    rw [restsOn_eq, decide_eq_true_eq] at hr
    exact List.mem_filterMap.2 ⟨i, hi, hr⟩
  have hnod : ((l.dir.mirrors.filter fun m => decide (m.pins ≠ 0)).map mirrorKey).Nodup :=
    List.Nodup.sublist (List.filter_sublist.map _) hd
  calc _ = ((l.dir.mirrors.filter fun m => decide (m.pins ≠ 0)).map mirrorKey).length := (List.length_map _).symm
    _ ≤ (slots.filterMap fun i => restKey (l.slot i)).length := (List.subperm_of_subset hnod hsub).length_le
    _ ≤ slots.length := List.length_filterMap_le _ _
    _ = 32 := by simp [slots, Config.maxHandles]

/-- Among more mirrors than handles one is not pinned. -/
theorem exists_unpinned {l : Ledger} (hd : KeysNodup l.dir) (hp : l.Pinned) {pre : List Mirror} (hs : pre.Sublist l.dir.mirrors)
    (hlen : 32 < pre.length) : ∃ m ∈ pre, m.pins = 0 := by
  by_contra hnone
  have hall : (pre.filter fun m => decide (m.pins ≠ 0)) = pre :=
    List.filter_eq_self.2 fun m hm => decide_eq_true fun h => hnone ⟨m, hm, h⟩
  have h1 := (hs.filter fun m => decide (m.pins ≠ 0)).length_le
  rw [hall] at h1
  exact absurd (Nat.le_trans h1 (pinned_le hd hp)) (Nat.not_le.2 hlen)

/-- An eviction does not take a mirror with enough others before it in the use order (R92). -/
theorem victim_ne_recent {l : Ledger} (hd : KeysNodup l.dir) (hp : l.Pinned) {v : Mirror} (hv : l.dir.victim = some v)
    (h : Recent n k l.dir.mirrors) (hlen : n + 34 ≤ l.dir.mirrors.length) : mirrorKey v ≠ k := by
  intro hk
  have hmem := (Directory.victim_some hv).1
  have hcur := h.eq_of_key hd hmem hk
  obtain ⟨pre, m, post, hl, hmk, -, hpost⟩ := h
  unfold Directory.victim at hv
  split at hv
  · rename_i x hx
    cases hv
    have := List.find?_some hx
    rw [decide_eq_true_eq, hcur] at this
    cases this.1
  · have hpre : 32 < pre.length := by
      rw [hl] at hlen
      simp at hlen
      omega
    obtain ⟨x, hx, hx0⟩ := exists_unpinned hd hp (pre := pre) (by rw [hl]; exact List.sublist_append_left _ _) hpre
    rw [hl, List.find?_append] at hv
    cases hf : pre.find? fun m => decide (m.pins = 0) with
    | none => exact List.find?_eq_none.1 hf x hx (by simpa using hx0)
    | some y =>
      rw [hf] at hv
      cases hv
      have hy := List.mem_of_find?_eq_some hf
      unfold KeysNodup at hd
      rw [hl, List.map_append, List.map_cons, List.nodup_append] at hd
      exact hd.2.2 _ (List.mem_map_of_mem hy) _ List.mem_cons_self (hk.trans hmk.symm)

/-! ## Bodies stored -/

/-- A full directory holds at least 224 mirrors (R75). -/
theorem mirrors_of_full {d : Directory} (h : DirOk d) (hf : d.hasFreeSlot = false) : 224 ≤ d.mirrors.length := by
  have h1 := h.homeMax
  have h2 := of_decide_eq_false hf
  simp only [Config.maxHome, Config.maxRecords] at h1 h2
  omega

/-- With no key twice, the removal of a mirror that is held leaves one fewer. -/
theorem length_removeMirror {d : Directory} (hn : KeysNodup d) {o : Ident} {t : Tag} {sd : Side} {m : Mirror}
    (hm : d.findMirror o t sd = some m) : (d.removeMirror o t sd).mirrors.length + 1 = d.mirrors.length := by
  simpa using (perm_removeMirror hn hm).length_eq

theorem findMirror_of_mem {d : Directory} (hn : KeysNodup d) {m : Mirror} (hm : m ∈ d.mirrors) :
    d.findMirror m.owner m.body.tag m.body.side = some m := by
  cases hf : d.findMirror m.owner m.body.tag m.body.side with
  | none => exact absurd ⟨m, hm, rfl⟩ ((not_holds_iff d (mirrorKey m)).2 hf)
  | some x =>
    obtain ⟨h1, h2, h3⟩ := Directory.findMirror_key hf
    rw [List.inj_on_of_nodup_map hn (Directory.findMirror_mem hf) hm (by rw [mirrorKey, mirrorKey, h1, h2, h3])]

theorem recent_makeRoom (hd : DirOk s.dir) (hp : (ledger s allFast none).Pinned) (h : Recent n k s.dir.mirrors) (hn : n ≤ 190) :
    Recent (n + 32) k s.makeRoom.dir.mirrors := by
  rcases s.makeRoom_cases with ⟨-, he⟩ | ⟨-, -, he⟩ | ⟨m, hf, hv, he⟩ <;> rw [he]
  · exact h.mono (Nat.le_add_right n 32)
  · exact h.mono (Nat.le_add_right n 32)
  · have hlen := mirrors_of_full hd hf
    have hne := victim_ne_recent (l := ledger s allFast none) hd.keys hp hv h (by change n + 34 ≤ s.dir.mirrors.length; omega)
    refine recent_recordChanged (h.removeMirror fun hk => hne hk.symm) ?_ _
    exact hd.keys.sublist (List.filter_sublist.map _)

/-- Room is there once it has been made: a full directory holds a mirror that no binding pins (R92). -/
theorem makeRoom_free (hd : DirOk s.dir) (hp : (ledger s allFast none).Pinned) : s.makeRoom.dir.hasFreeSlot = true := by
  rcases s.makeRoom_cases with ⟨hf, he⟩ | ⟨hf, hv, -⟩ | ⟨m, hf, hv, he⟩
  · rw [he]; exact hf
  · have hlen := mirrors_of_full hd hf
    obtain ⟨m, hm, hm0⟩ := exists_unpinned (l := ledger s allFast none) hd.keys hp (List.Sublist.refl s.dir.mirrors) (by omega)
    unfold Directory.victim at hv
    split at hv
    · cases hv
    · exact absurd hm0 (by simpa using List.find?_eq_none.1 hv m hm)
  · have hmem := (Directory.victim_some hv).1
    have hone := length_removeMirror hd.keys (findMirror_of_mem hd.keys hmem)
    have hkeys : KeysNodup (s.dir.removeMirror m.owner m.body.tag m.body.side) := hd.keys.sublist (List.filter_sublist.map _)
    have hs := sameSight_recordChanged (s := s.setDir (s.dir.removeMirror m.owner m.body.tag m.body.side)) hkeys m.body.tag
    have h1 : s.makeRoom.dir.mirrors.length + 1 = s.dir.mirrors.length := by
      rw [he, ← hone]
      simpa using hs.mirrors.length_eq
    have h2 : s.makeRoom.dir.home = s.dir.home := makeRoom_home s
    have hmax := hd.allMax
    rw [Directory.hasFreeSlot, decide_eq_true_eq, h2]
    omega

/-- Every invariant watched. -/
def allWatch : Watch :=
  ⟨True, True, True, True⟩

/-- The directory, the promise and the pins are in order. -/
def Sound (s : State) : Prop :=
  Good allWatch (ledger s allFast none)

theorem Sound.dirOk (h : Sound s) : DirOk s.dir :=
  h.dir trivial

theorem Sound.pinned (h : Sound s) : (ledger s allFast none).Pinned :=
  h.pins trivial trivial trivial

theorem Sound.works (h : Sound s) (k : Works allWatch s t) : Sound t :=
  k.good h

theorem storeMirror_dir (s : State) (o : Ident) (r : Rec) : (s.storeMirror o r).dir = (s.makeRoom.addMirror o r).dir := by
  rcases s.storeMirror_cases o r with ⟨-, he⟩ | ⟨g, -, he⟩ <;> rw [he]
  exact (sameLedger_raiseBeside _ _ _ _).dir

/-- A mirror put at the most recent end of the use order. -/
def putLast (d : Directory) (m : Mirror) : Directory :=
  { d with mirrors := d.mirrors ++ [m] }

theorem addMirror_of_free (h : s.dir.hasFreeSlot = true) (o : Ident) (r : Rec) :
    s.addMirror o r = (s.setDir (putLast s.dir ⟨o, r, .current, 0⟩)).recordChanged r.tag := by
  rw [State.addMirror, if_pos h]
  rfl

/-- With no key twice and a key not held, a mirror may be put at the most recent end. -/
theorem keysNodup_append {d : Directory} (hn : KeysNodup d) {m : Mirror} (hm : ¬Holds d (mirrorKey m)) :
    KeysNodup (putLast d m) := by
  unfold KeysNodup putLast at *
  rw [List.map_append, List.map_singleton, List.nodup_append_comm, List.singleton_append, List.nodup_cons]
  refine ⟨fun h => ?_, hn⟩
  obtain ⟨n, hn, he⟩ := List.mem_map.1 h
  exact hm ⟨n, hn, he⟩

theorem removeMirror_not_holds (d : Directory) (o : Ident) (t : Tag) (sd : Side) : ¬Holds (d.removeMirror o t sd) (o, t, sd) :=
  fun ⟨_, hm, he⟩ => (removeMirror_mem.1 hm).2 he

theorem keysNodup_removeMirror {d : Directory} (hn : KeysNodup d) (o : Ident) (t : Tag) (sd : Side) :
    KeysNodup (d.removeMirror o t sd) :=
  List.Nodup.sublist (List.filter_sublist.map _) hn

/-- A mirror put at the most recent end and reported. -/
theorem recent_report_last {d : Directory} (hn : KeysNodup d) {m : Mirror} (hm : ¬Holds d (mirrorKey m)) (hf : m.fresh = .current)
    (t : Tag) : Recent 32 (mirrorKey m) ((s.setDir (putLast d m)).recordChanged t).dir.mirrors := by
  have hl : Recent 0 (mirrorKey m) (putLast d m).mirrors := .last rfl hf _
  have h := recent_report (s := s) hl (keysNodup_append hn hm) t
  rwa [Nat.zero_add] at h

/-- Another mirror that is recent, when one is put at the most recent end and reported. -/
theorem recent_report_append {d : Directory} (h : Recent n k d.mirrors) (hn : KeysNodup d) {m : Mirror} (hm : ¬Holds d (mirrorKey m))
    (t : Tag) : Recent (n + 1 + 32) k ((s.setDir (putLast d m)).recordChanged t).dir.mirrors := by
  have hl : Recent (n + 1) k (putLast d m).mirrors := h.append m
  exact recent_report hl (keysNodup_append hn hm) t

theorem updateMirror_eq (s : State) (m : Mirror) (r : Rec) :
    s.updateMirror m r =
      (s.setDir (putLast (s.dir.removeMirror m.owner r.tag r.side) ⟨m.owner, r, .current, m.pins⟩)).recordChanged r.tag :=
  rfl

/-- A body kept is as recent as the report of it allows (R87, R88). -/
theorem recent_keepBody_same (h : Sound s) (o : Ident) {r : Rec} : Recent 32 (o, r.tag, r.side) (s.keepBody o r).dir.mirrors := by
  unfold State.keepBody
  split
  · rename_i m hm
    obtain ⟨rfl, -, -⟩ := Directory.findMirror_key hm
    rw [updateMirror_eq]
    exact recent_report_last (m := ⟨m.owner, r, .current, m.pins⟩) (keysNodup_removeMirror h.dirOk.keys m.owner r.tag r.side)
      (removeMirror_not_holds _ _ _ _) rfl r.tag
  · rename_i hm
    have hnot := (not_holds_iff s.dir (o, r.tag, r.side)).2 hm
    have hroom := h.works (works_makeRoom s)
    rw [storeMirror_dir, addMirror_of_free (makeRoom_free h.dirOk h.pinned)]
    exact recent_report_last (m := ⟨o, r, .current, 0⟩) hroom.dirOk.keys (makeRoom_not_holds hnot) rfl r.tag

/-- Another mirror that is recent stays so while a body is kept. -/
theorem recent_keepBody (h : Sound s) (hr : Recent n k s.dir.mirrors) (hn : n ≤ 190) (o : Ident) (r : Rec) :
    Recent (n + 65) k (s.keepBody o r).dir.mirrors := by
  by_cases hk : k = (o, r.tag, r.side)
  · rw [hk]
    exact (recent_keepBody_same h o).mono (by omega)
  · unfold State.keepBody
    split
    · rename_i m hm
      obtain ⟨rfl, -, -⟩ := Directory.findMirror_key hm
      rw [updateMirror_eq]
      exact (recent_report_append (m := ⟨m.owner, r, .current, m.pins⟩) (hr.removeMirror hk)
        (keysNodup_removeMirror h.dirOk.keys m.owner r.tag r.side) (removeMirror_not_holds _ _ _ _) r.tag).mono (by omega)
    · rename_i hm
      have hnot := (not_holds_iff s.dir (o, r.tag, r.side)).2 hm
      have hroom := h.works (works_makeRoom s)
      rw [storeMirror_dir, addMirror_of_free (makeRoom_free h.dirOk h.pinned)]
      exact (recent_report_append (m := ⟨o, r, .current, 0⟩) (recent_makeRoom h.dirOk h.pinned hr hn) hroom.dirOk.keys
        (makeRoom_not_holds hnot) r.tag).mono (by omega)

/-- Three more bodies leave a mirror that is recent held. -/
theorem holds_of_recent (rs : List Rec) (hrev : ∀ r ∈ rs, r.rev ≠ 0#16) (h : Sound s) (o : Ident) (hr : Recent n k s.dir.mirrors)
    (hn : n + 65 * rs.length ≤ 230) : Holds (rs.foldl (fun s r => s.keepBody o r) s).dir k := by
  induction rs generalizing s n with
  | nil => exact hr.holds
  | cons r rs ih =>
    rw [List.length_cons] at hn
    exact ih (fun x hx => hrev x (List.mem_cons_of_mem _ hx)) (h.works (works_keepBody s o (hrev r List.mem_cons_self)))
      (recent_keepBody h hr (by omega) o r) (by omega)

/-- Of up to four bodies stored one after another, every one is held in the end (R89). -/
theorem holds_of_kept (rs : List Rec) (hrev : ∀ r ∈ rs, r.rev ≠ 0#16) (hlen : rs.length ≤ 4) (h : Sound s) (o : Ident) :
    ∀ r ∈ rs, Holds (rs.foldl (fun s r => s.keepBody o r) s).dir (o, r.tag, r.side) := by
  induction rs generalizing s with
  | nil => exact fun r hr => absurd hr List.not_mem_nil
  | cons x rs ih =>
    rw [List.length_cons] at hlen
    have hx := h.works (works_keepBody s o (hrev x List.mem_cons_self))
    have hrest : ∀ r ∈ rs, r.rev ≠ 0#16 := fun r hr => hrev r (List.mem_cons_of_mem _ hr)
    intro r hr
    rcases List.mem_cons.1 hr with rfl | hr
    · exact holds_of_recent rs hrest hx o (recent_keepBody_same h o) (by omega)
    · exact ih hrest (by omega) hx r hr

theorem goodBodies_rev (bs : List RecordBody) : ∀ r ∈ bs.filterMap goodBody, r.rev ≠ 0#16 := fun r hr => by
  obtain ⟨b, -, hb⟩ := List.mem_filterMap.1 hr
  exact goodBody_rev hb

/-- The good bodies of an ANSWER are all held once it has been stored (R89). -/
theorem holds_storeAnswer (h : Sound s) (o : Ident) {bs : List RecordBody} (hlen : bs.length ≤ 4) :
    ∀ r ∈ bs.filterMap goodBody, Holds (s.storeAnswer o bs).dir (o, r.tag, r.side) :=
  holds_of_kept _ (goodBodies_rev bs) (Nat.le_trans (List.length_filterMap_le _ _) hlen) h o

/-! ## An ANSWER to a query of the part -/

theorem pickAnswer_mem {l : List Hit} {h : Hit} (hp : s.pickAnswer l = some h) : h ∈ l := by
  unfold State.pickAnswer at hp
  split at hp
  · cases hp
  · cases hp; exact List.mem_cons_self
  · rename_i x rest _
    have hlt : Config.freePick s.freeCount % (x :: rest).length < (x :: rest).length := Nat.mod_lt _ (by simp)
    rw [List.getElem?_eq_getElem hlt] at hp
    cases hp
    exact List.getElem_mem hlt

/-! ### The foreground query while bodies are stored -/

theorem makeRoom_resolver (s : State) : s.makeRoom.resolver = s.resolver := by
  rcases s.makeRoom_cases with ⟨-, h⟩ | ⟨-, -, h⟩ | ⟨m, -, -, h⟩ <;> rw [h]
  exact (State.rebinds_recordChanged _ _).resolver

theorem addMirror_resolver (s : State) (o : Ident) (r : Rec) : (s.addMirror o r).resolver = s.resolver := by
  unfold State.addMirror
  split
  · exact (State.rebinds_recordChanged _ _).resolver
  · rfl

theorem keepBody_resolver (s : State) (o : Ident) (r : Rec) : (s.keepBody o r).resolver = s.resolver := by
  unfold State.keepBody
  split
  · exact (State.rebinds_recordChanged _ _).resolver
  · have h := (addMirror_resolver s.makeRoom o r).trans (makeRoom_resolver s)
    rcases s.storeMirror_cases o r with ⟨-, he⟩ | ⟨g, -, he⟩ <;> rw [he]
    · exact h
    · rcases (s.makeRoom.addMirror o r).raiseBeside_cases s.attn.events.count .directoryFull (Events.raiseDirectoryFull g) with
        he' | ⟨order, -, he'⟩ <;> rw [he'] <;> exact h

theorem storeAnswer_resolver (s : State) (o : Ident) (bs : List RecordBody) : (s.storeAnswer o bs).resolver = s.resolver := by
  have h (l : List Rec) (s : State) : (l.foldl (fun s r => s.keepBody o r) s).resolver = s.resolver := by
    induction l generalizing s with
    | nil => rfl
    | cons r l ih => exact (ih _).trans (keepBody_resolver s o r)
  exact h _ s

/-- A candidate of an ANSWER is one of its good bodies, of the tag asked (R128). -/
theorem answerCandidates_mem {q : ForegroundQuery} {bs : List RecordBody} {h : Hit} (hh : h ∈ answerCandidates q bs) :
    h.owner = q.target ∧ h.body.tag = q.tag ∧ h.body ∈ bs.filterMap goodBody := by
  obtain ⟨r, hr, rfl⟩ := List.mem_map.1 hh
  obtain ⟨h1, h2⟩ := List.mem_filter.1 hr
  exact ⟨rfl, of_decide_eq_true h2, h1⟩

theorem works_answerForeground (s : State) {q : ForegroundQuery} (hq : s.resolver.query = some q) {bs : List RecordBody}
    (hlen : bs.length ≤ 4) : Works w s (s.answerForeground q bs) := by
  refine Acts.under fun g => ?_
  unfold State.answerForeground
  dsimp only
  generalize hl : preferred _ q.filter (answerCandidates q bs) = l
  generalize hu : (if l.length ≤ 1 then s.storeAnswer q.target bs
    else { s.storeAnswer q.target bs with freeCount := (s.storeAnswer q.target bs).freeCount + 1 }) = u
  have hsame : SameLedger (s.storeAnswer q.target bs) u := by
    rw [← hu]
    split <;> exact fun _ _ => rfl
  have hask : u.resolver.query.map ForegroundQuery.tag = some q.tag := by
    have := congrArg Ledger.asked (hsame allFast none)
    exact this.trans (by change (s.storeAnswer q.target bs).resolver.query.map _ = _; rw [storeAnswer_resolver, hq]; rfl)
  have hhead : Acts w (ledger s allFast none) (ledger u.clearForeground allFast (some q.tag)) := by
    rw [← hask]
    exact Acts.trans ((works_storeAnswer s q.target bs).trans hsame.works) (acts_clearForeground u allFast)
  refine hhead.trans ?_
  have gu := hhead.good g
  split
  · rename_i h hh
    refine (acts_use _ h allFast (some q.tag)).trans (acts_endResolution _ _ _ _ fun h' ho hm x y z _ i hi q' hq' => ?_)
    cases ho
    obtain ⟨ho, ht, hb⟩ := answerCandidates_mem (preferred_subset _ _ _ (hl ▸ pickAnswer_mem hh))
    have hslot : u.clearForeground.slot i = .reserved q' := by
      rw [← hq']
      exact ((sameHandles_useFound u.clearForeground (.hit h)).slot i).symm
    have htag : q'.tag = q.tag := by
      rcases (gu.port y).tag i hi q' hslot with h | h
      · cases h
      · exact (Option.some.inj h).symm
    have hsound : Sound s := ⟨fun _ => g.dir x, fun _ => g.port y, fun _ _ _ => g.pins x y z⟩
    rw [use_holds]
    change Holds u.dir _
    rw [hsame.dir, htag, ← ht, ho]
    exact holds_storeAnswer hsound q.target hlen h.body hb
  · refine acts_endResolution _ _ _ _ fun h ho => ?_
    cases ho

/-- The binding that a query served takes an outcome (R148). -/
theorem works_settleBackground {i : Nat} (s : State) (r : Reason) :
    Works w s (match s.binding i with
      | some b => (s.takeContents i b (.unresolved r) (s.staleOf b.question.tag (.unresolved r))).startBackground
      | none => s.startBackground) := by
  split
  · rename_i b hb
    rw [binding_eq_some] at hb
    have hi : i ∈ slots := by
      by_contra hn
      rw [mem_slots] at hn
      have : s.bindings.handles[i]? = none := Vector.getElem?_eq_none (Nat.not_lt.1 hn)
      rw [State.slot, this] at hb
      cases hb
    refine Works.trans ?_ (sameLedger_startBackground _).works
    refine (acts_takeContents hi hb _ allFast none fun k hk => by cases hk).trans (.settle fun j _ _ h => h.1)
  · exact (sameLedger_startBackground s).works

theorem works_answerBackground (s : State) (q : BackgroundQuery) (bs : List RecordBody) : Works w s (s.answerBackground q bs) := by
  refine (works_storeAnswer s q.target bs).trans ?_
  unfold State.answerBackground
  dsimp only
  split
  · exact .refl _
  · exact Works.trans (t := (s.storeAnswer q.target bs).abandonBackground) (SameLedger.works fun _ _ => rfl)
      (works_settleBackground _ _)

theorem works_backgroundTimeout (s : State) (q : BackgroundQuery) : Works w s (s.backgroundTimeout q) :=
  Works.trans (t := s.abandonBackground) (SameLedger.works fun _ _ => rfl) (works_settleBackground _ _)

theorem works_takeAnswer (s : State) (f : Frame) (id : Byte) {bs : List RecordBody} (hlen : bs.length ≤ 4) :
    Works w s (s.takeAnswer f id bs) := by
  have hback : Works w s (match s.bindings.query with
      | some q => if q.id = id ∧ q.target = f.hdr.src then s.answerBackground q bs else s
      | none => s) := by
    split
    · split
      · exact works_answerBackground s _ _
      · exact .refl s
    · exact .refl s
  unfold State.takeAnswer
  dsimp only
  split
  · rename_i q hq
    split
    · exact works_answerForeground s hq hlen
    · exact hback
  · exact hback

end Sys2Proof.Machine.RecordProofs
end

section
/-! Every command as a run of moves of the ledger: the line ends, the roll call, frames and timers, and the commands of the host. -/

namespace Sys2Proof.Machine.RecordProofs

open RollCallProofs

variable {w : Watch} {s t : State}

/-! ## The line ends and the roll call -/

theorem works_originate (s : State) (e : LineEnd) : Works w s (s.originate e) := by
  unfold State.originate
  exact ((sameLedger_setRoll s _).trans ((sameLedger_offerCtrl _ _ _).trans (sameLedger_setRoll _ _))).works

theorem works_startRolling (s : State) : Works w s s.startRolling := by
  unfold State.startRolling
  split
  · exact (sameLedger_setRoll s _).works
  · exact works_enterRolling s

theorem works_trigger (s : State) : Works w s s.trigger := by
  rcases trigger_cases s with ⟨-, -, h⟩ | ⟨e, -, -, h⟩ | ⟨-, -, h⟩ <;> rw [h]
  · exact works_adopt _ _ _ _
  · exact (works_startRolling s).trans (works_originate _ _)
  · exact (works_startRolling s).trans ((sameLedger_offerCtrl _ _ _).trans (sameLedger_offerCtrl _ _ _)).works

theorem sameLedger_moveEnd (s : State) (e : LineEnd) (f : LineEndSt → LineEndSt) : SameLedger s (s.moveEnd e f) := by
  unfold State.moveEnd
  dsimp only
  split
  · exact sameLedger_setEnd s e _
  · exact (sameLedger_setEnd s e _).trans (sameLedger_raise _ _)

theorem works_changeEnd (s : State) (e : LineEnd) (f : LineEndSt → LineEndSt) : Works w s (s.changeEnd e f) := by
  unfold State.changeEnd
  dsimp only
  split
  · exact (sameLedger_moveEnd s e f).works
  · split
    · exact (sameLedger_moveEnd s e f).works.trans (works_trigger _)
    · exact (sameLedger_moveEnd s e f).works

theorem works_isolateEnd (s : State) (e : LineEnd) : Works w s (s.isolateEnd e) := by
  unfold State.isolateEnd
  split
  · exact (sameLedger_updEnd s e _).works
  · exact .refl s
  all_goals exact works_changeEnd s e _

theorem works_reportEndFault (s : State) (k : FaultKind) (e : LineEnd) : Works w s (s.reportEndFault k e) := by
  unfold State.reportEndFault
  split
  · exact .refl s
  · exact (sameLedger_raise s _).works
  · exact (works_isolateEnd s e).trans (sameLedger_raiseBeside _ _ _ _).works

theorem works_flapRise (s : State) (e : LineEnd) : Works w s (s.flapRise e) := by
  unfold State.flapRise
  dsimp only
  split
  · exact (sameLedger_updEnd s e _).works.trans (works_reportEndFault _ _ _)
  · exact (sameLedger_updEnd s e _).works

theorem works_loseEnd (s : State) (e : LineEnd) (f : LineEndSt → LineEndSt) : Works w s (s.loseEnd e f) := by
  unfold State.loseEnd
  dsimp only
  split
  · exact (works_changeEnd s e f).trans (works_flapRise _ e)
  · exact works_changeEnd s e f

theorem works_barEnd (s : State) (e : LineEnd) : Works w s (s.barEnd e) := by
  unfold State.barEnd
  split
  · exact works_changeEnd s e _
  · exact (sameLedger_updEnd s e _).works
  all_goals exact .refl s

theorem works_enterReady (s : State) : Works w s s.enterReady := by
  have h (c : PartControl) (f : LineEndSt → LineEndSt) (hc : (c.identity, c.cabCfg, c.startCause) =
      (s.ctrl.identity, s.ctrl.cabCfg, s.ctrl.startCause)) : SameLedger s ((s.setCtrl c).updEnds f) := by
    simp only [Prod.mk.injEq] at hc
    exact .of_fields rfl rfl rfl (by simp [hostSettings, hc])
  unfold State.enterReady
  exact (h { s.ctrl with part := .ready, bypass := false } LineEndSt.released rfl).works.trans (works_trigger _)

theorem works_wake (s : State) (c : Cause) : Works w s (s.wake c) := by
  unfold State.wake
  exact (works_enterReady s).trans (sameLedger_raiseBeside _ _ _ _).works

theorem works_takeCall (s : State) (e : LineEnd) (f : Frame) : Works w s (s.takeCall e f) := by
  have hraise : SameLedger s (s.raiseE f.hdr.epoch) := sameLedger_setRoll s _
  unfold State.takeCall
  split
  · unfold State.callAtIntermediate
    dsimp only
    split
    · exact (hraise.trans (sameLedger_offerCtrl _ _ _)).works.trans (works_enterRolling _)
    · exact (hraise.trans (sameLedger_offerCtrl _ _ _)).works
    · split
      · exact (hraise.trans (sameLedger_offerCtrl _ _ _)).works
      · exact hraise.works
    · exact hraise.works
  · unfold State.callAtTerminal
    dsimp only
    split
    · exact hraise.works.trans ((works_enterRolling _).trans (works_originate _ _))
    · exact hraise.works.trans (works_originate _ _)
    · split
      · exact hraise.works.trans (works_originate _ _)
      · exact hraise.works
    · exact hraise.works
  · exact .refl s

theorem works_retryRoll (s : State) : Works w s s.retryRoll := by
  unfold State.retryRoll
  split
  · exact works_originate s _
  all_goals exact (sameLedger_setRoll s _).works

theorem works_rollExpiry (s : State) : Works w s s.rollExpiry := by
  unfold State.rollExpiry
  split
  · exact .refl s
  · split
    · dsimp only
      split
      · exact (sameLedger_setRoll s _).works.trans (works_enterDegraded _)
      · exact (sameLedger_setRoll s _).works.trans (works_retryRoll _)
    · exact works_retryRoll s
    all_goals exact .refl s

theorem works_acceptRoll (s : State) (x : Epoch) : Works w s (s.acceptRoll x) := by
  unfold State.acceptRoll
  dsimp only
  split
  · exact (sameLedger_setRoll s _).works.trans (works_enterRolling _)
  · exact (sameLedger_setRoll s _).works

theorem works_takeRoll (s : State) (e : LineEnd) (f : Frame) (es : List CarEntry) : Works w s (s.takeRoll e f es) := by
  unfold State.takeRoll
  split
  · exact .refl s
  · split
    · exact .refl s
    · refine (works_acceptRoll s f.hdr.epoch).trans ?_
      dsimp only
      split
      · exact works_reportEndFault _ _ _
      · split
        · exact (works_barEnd _ _).trans (sameLedger_reportFault _ _).works
        · split
          · exact ((sameLedger_offerCtrl _ _ _).trans (sameLedger_setRoll _ _)).works
          all_goals
            unfold State.completeRoll
            exact works_adopt _ _ _ _

theorem works_takeRoster (s : State) (e : LineEnd) (f : Frame) (es : List CarEntry) : Works w s (s.takeRoster e f es) := by
  unfold State.takeRoster
  dsimp only
  split
  · exact .refl s
  · split
    · exact works_trigger s
    · split
      · split
        · exact .refl s
        · exact works_trigger s
      · exact works_adopt _ _ _ _

theorem works_recomputeDirection (s : State) : Works w s s.recomputeDirection := by
  have hc : SameLedger s s.recomputeCabs := sameLedger_of_sameStores (sameStores_recomputeCabs s)
  unfold State.recomputeDirection
  dsimp only
  split
  · exact hc.works
  · exact (hc.trans (sameLedger_of_sameStores (sameStores_stepView _))).works.trans (acts_reResolveAll _ _ _)

theorem works_ownCabChanged (s : State) : Works w s s.ownCabChanged := by
  unfold State.ownCabChanged
  split
  · exact (sameLedger_setConsist s _).works.trans ((works_recomputeDirection _).trans
      (sameLedger_of_sameStores (TrainProofs.sameStores_sendSteer _)).works)
  all_goals exact .refl s

theorem works_takeSteer (s : State) (e : LineEnd) (f : Frame) (cab : Byte) : Works w s (s.takeSteer e f cab) := by
  unfold State.takeSteer
  split
  · dsimp only
    have h := (sameLedger_setConsist s (s.consist.setCab f.hdr.srcIdx.toNat ((CabEnd.ofCode cab).getD .none))).works.trans
      (works_recomputeDirection (w := w) _)
    split
    · exact h.trans (sameLedger_offerCtrl _ _ _).works
    · exact h
  · exact .refl s

/-! ## Frames -/

theorem works_takeBroadcast (s : State) (e : LineEnd) (f : Frame) {here : State → State} (hh : ∀ s, Works w s (here s)) :
    Works w s (s.takeBroadcast e f here) := by
  unfold State.takeBroadcast
  split
  · have hp : SameLedger (here s) ((here s).passOn e f) := by
      unfold State.passOn
      split
      · exact sameLedger_offerDir _ _ _
      · exact .refl _
    exact (hh s).trans (hp.trans (sameLedger_eitherOrder here (fun s => s.passOn e f) s)).works
  · exact .refl s

theorem works_takeUnicast (s : State) (e : LineEnd) (f : Frame) {here : State → State} (hh : Works w s (here s)) :
    Works w s (s.takeUnicast e f here) := by
  unfold State.takeUnicast
  split
  · exact .refl s
  · split
    · exact .refl s
    · split
      · exact hh
      · split
        · split
          · exact .refl s
          · split
            · exact (sameLedger_offerDir s _ _).works
            · exact .refl s
        · exact .refl s

theorem works_answerQuery (s : State) (f : Frame) (id : Byte) (t : Tag) : Works w s (s.answerQuery f id t) := by
  unfold State.answerQuery
  split
  · exact (sameLedger_sendUnicast s _ _).works
  · exact .refl s

theorem works_decideRequest (s : State) (f : Frame) (id : Byte) (t : Tag) (sd : Side) (d : RecState) :
    Works w s (s.decideRequest f id t sd d) := by
  unfold State.decideRequest
  have h := works_decideChange (w := w) s t sd d
  generalize s.decideChange t sd d = x at h ⊢
  obtain ⟨u, o, rev⟩ := x
  dsimp only at h ⊢
  split
  · exact h.trans ((sameLedger_raiseBeside u _ _ _).trans ((sameLedger_setTraffic _ _).trans (sameLedger_sendUnicast _ _ _))).works
  · exact h.trans ((sameLedger_setTraffic u _).trans (sameLedger_sendUnicast _ _ _)).works

theorem works_takeChangeReq (s : State) (f : Frame) (id : Byte) (t : Tag) (side desired : Byte) :
    Works w s (s.takeChangeReq f id t side desired) := by
  unfold State.takeChangeReq
  split
  · split
    · split
      · exact (sameLedger_sendUnicast s _ _).works
      · exact works_decideRequest s _ _ _ _ _
    · exact .refl s
  · exact .refl s

theorem works_takeChangeReply (s : State) (f : Frame) (id o : Byte) (rev : Half) : Works w s (s.takeChangeReply f id o rev) := by
  unfold State.takeChangeReply
  split
  · split
    · exact (SameLedger.trans (t := s.clearChange) (sameLedger_setTraffic s _) (sameLedger_complete _ _ _ _)).works
    · exact .refl s
  · exact .refl s

theorem works_receive (s : State) (e : LineEnd) {hand : State → State} (hh : ∀ t, Works w t (hand t)) :
    Works w s (s.receive e hand) := by
  unfold State.receive State.countLock
  split
  · split
    · exact works_changeEnd s e _
    · exact (sameLedger_updEnd s e _).works
  · exact (sameLedger_updEnd s e _).works.trans (hh _)
  · exact (sameLedger_updEnd s e _).works
  all_goals exact .refl s

theorem works_receiveBeacon (s : State) (e : LineEnd) (n : Neighbour) : Works w s (s.receiveBeacon e n) := by
  unfold State.receiveBeacon State.countLock
  split
  · split
    · exact (sameLedger_updEnd s e _).works.trans (works_changeEnd _ e _)
    · exact ((sameLedger_updEnd s e _).trans (sameLedger_updEnd _ e _)).works
  · dsimp only
    split
    · exact (works_changeEnd s e _).trans (works_trigger _)
    · exact works_changeEnd s e _
  · exact works_changeEnd s e _
  all_goals exact .refl s

theorem works_receiveInvalid (s : State) (e : LineEnd) : Works w s (s.receiveInvalid e) := by
  unfold State.receiveInvalid
  split
  · exact (sameLedger_updEnd s e _).works
  all_goals exact .refl s

theorem works_receiveFrame (s : State) (e : LineEnd) (f : Frame) : Works w s (s.receiveFrame e f) := by
  unfold State.receiveFrame
  split
  · rename_i hv
    split
    case h_1 => exact works_receiveBeacon s e _
    case h_2 => exact works_receive s e fun t => works_takeCall t e f
    case h_3 => exact works_receive s e fun t => works_takeRoll t e f _
    case h_4 => exact works_receive s e fun t => works_takeRoster t e f _
    case h_5 => exact works_receive s e fun t => works_takeSteer t e f _
    case h_6 => exact works_receive s e fun t => works_takeBroadcast t e f fun u => works_takePublished u _ _
    case h_7 => exact works_receive s e fun t => works_takeBroadcast t e f fun u => works_takeWithdrawn u _ _ _
    case h_8 => exact works_receive s e fun t => works_takeUnicast t e f (works_answerQuery t f _ _)
    case h_9 id bodies hp =>
      simp only [Frame.valid, hp, Payload.valid, Bool.and_eq_true, decide_eq_true_eq] at hv
      exact works_receive s e fun t => works_takeUnicast t e f (works_takeAnswer t f _ hv.1)
    case h_10 => exact works_receive s e fun t => works_takeUnicast t e f (works_takeChangeReq t f _ _ _ _)
    case h_11 => exact works_receive s e fun t => works_takeUnicast t e f (works_takeChangeReply t f _ _ _)
  · exact works_receiveInvalid s e

theorem sameLedger_burstContinue (s : State) : SameLedger s s.burstContinue := by
  unfold State.burstContinue
  split
  · exact sameLedger_burstFrom _ s
  · exact .refl s

theorem works_startTransmit (s : State) (e : LineEnd) : Works w s (s.startTransmit e) := by
  unfold State.startTransmit
  dsimp only
  split
  · split
    · exact (sameLedger_setEnd s e _).works
    · split
      · exact ((sameLedger_setEnd s e _).trans (sameLedger_burstContinue _)).works
      · exact (sameLedger_setEnd s e _).works
    · exact (sameLedger_setEnd s e _).works
  · exact .refl s

/-! ## Timers -/

theorem works_changeTimeout (s : State) (c : ChangeRequest) : Works w s (s.changeTimeout c) := by
  unfold State.changeTimeout
  split
  · exact ((sameLedger_setTraffic s _).trans (sameLedger_sendUnicast _ _ _)).works
  · exact (SameLedger.trans (t := s.clearChange) (sameLedger_setTraffic s _) (sameLedger_complete _ _ _ _)).works

theorem works_foregroundTimeout (s : State) {q : ForegroundQuery} (hq : s.resolver.query = some q) :
    Works w s (s.foregroundTimeout q) := by
  unfold State.foregroundTimeout
  split
  · refine (SameLedger.trans (t := s.setResolver _) (fun loose due => ?_) (sameLedger_sendUnicast _ _ _)).works
    rw [ledger, ledger, hq]
    rfl
  · refine Acts.trans (acts_clearForeground s allFast) (acts_endResolution _ _ _ _ fun h ho => ?_)
    cases ho

theorem works_backgroundExpiry (s : State) (q : BackgroundQuery) : Works w s (s.backgroundExpiry q) := by
  unfold State.backgroundExpiry
  split
  · have h (p : BackgroundQuery) : SameLedger s (s.setBindings { s.bindings with query := some p, timer := .running Config.queryMs }) :=
      fun _ _ => rfl
    exact ((h _).trans (sameLedger_sendUnicast _ _ _)).works
  · exact works_backgroundTimeout s q

/-! ## Contacts and the port -/

theorem works_contactClosed (s : State) (e : LineEnd) : Works w s (s.contactClosed e) := by
  have h : Works w s (s.updEnd e fun l => { l with contact := true }) := (sameLedger_updEnd s e _).works
  unfold State.contactClosed
  dsimp only
  split
  · exact h.trans (works_changeEnd _ e _)
  · split
    · exact h.trans (works_wake _ _)
    · exact h
  all_goals exact h

theorem works_contactOpened (s : State) (e : LineEnd) : Works w s (s.contactOpened e) := by
  have h : Works w s (s.updEnd e fun l => { l with contact := false }) := (sameLedger_updEnd s e _).works
  unfold State.contactOpened
  dsimp only
  split
  · exact h.trans (works_changeEnd _ e _)
  · exact h.trans (works_loseEnd _ e _)
  · exact h.trans (works_loseEnd _ e _)
  · exact h.trans (works_loseEnd _ e _)
  all_goals exact h

theorem works_abandonCommand (s : State) : Works w s s.abandonCommand := by
  have hhead : Acts w (ledger s allFast none)
      (ledger s.clearForeground.clearChange allFast (s.resolver.query.map ForegroundQuery.tag)) :=
    (acts_clearForeground s allFast).trans ((sameLedger_setTraffic _ _).acts _ _)
  refine hhead.trans ?_
  unfold State.abandonCommand
  dsimp only
  split
  · rename_i i hi
    obtain ⟨his, hr⟩ := State.firstSlot_some hi
    have h := update_slot (s := s.clearForeground.clearChange) his .free
    have hl : ledger (s.clearForeground.clearChange.setSlot i .free) allFast none =
        { ledger s.clearForeground.clearChange allFast (s.resolver.query.map ForegroundQuery.tag) with
          dir := s.dir.movePin none (restKey .free), slot := Function.update s.clearForeground.clearChange.slot i .free, due := none } :=
      congrArg (fun f => (⟨s.dir, f, none, hostSettings s, allFast, none⟩ : Ledger)) h
    rw [hl]
    exact .bound (l := ledger s.clearForeground.clearChange allFast _) his hr rfl fun _ _ _ _ k hk => by cases hk
  · rename_i hn
    exact .settled (l := ledger s.clearForeground.clearChange allFast _) (State.firstSlot_none hn)

theorem works_portReset (s : State) : Works w s s.portReset := by
  unfold State.portReset
  dsimp only
  split
  · exact (works_abandonCommand s).trans (sameLedger_setPort _ _).works
  · exact (sameLedger_setPort s _).works

end Sys2Proof.Machine.RecordProofs
end

section
/-! The commands of the host as runs of moves of the ledger, every command with them, and what the moves keep: the directory, the pins, and
what the host has set. -/

namespace Sys2Proof.Machine.RecordProofs

open RollCallProofs

variable {w : Watch} {s t : State}

/-! ## A DORMANT part woken by a block -/

/-- With no command waiting for another car, a roll-call trigger leaves the Resolver alone. -/
theorem trigger_resolver_of_quiet (hc : s.traffic.change = none) (hq : s.resolver.query = none) :
    s.trigger.resolver = s.resolver := by
  have hroll : s.startRolling.resolver = s.resolver := by
    unfold State.startRolling
    split
    · rfl
    · unfold State.enterRolling
      generalize hu : (s.setRoll _).raise _ = u
      have hr : u.resolver = s.resolver := by rw [← hu]; rfl
      rw [reportUnsettled_of_quiet (by rw [← hu]; exact hc) (by rw [hr]; exact hq), (State.rebinds_bindingsUnsettled _).resolver]
      exact hr
  rcases trigger_cases s with ⟨-, -, h⟩ | ⟨e, -, -, h⟩ | ⟨-, -, h⟩ <;> rw [h]
  · have he (f g : State → State) (u : State) : (eitherOrder f g u).resolver = (g (f u)).resolver := by
      unfold eitherOrder; dsimp only; split <;> rfl
    rw [adopt_of_quiet _ _ _ hc hq, he, (State.rebinds_bindingsAdopt _).resolver, State.burstStart, (burstFrame_burstFrom _ _).resolver]
    exact (sameStores_adoptHead s _ _ _).resolver
  · simpa [State.originate] using hroll
  · simpa [State.sendCalls] using hroll

/-- A block taken leaves the Resolver alone when no command waits for another car. -/
theorem takeBlock_resolver (c : InFlight) (hc : s.traffic.change = none) (hq : s.resolver.query = none) :
    (s.takeBlock c).resolver = s.resolver := by
  unfold State.takeBlock
  dsimp only
  split
  · have hwake (u : State) (x : Cause) (hc : u.traffic.change = none) (hq : u.resolver.query = none) :
        (u.wake x).resolver = u.resolver := by
      have ht : u.enterReady.resolver = u.resolver := by
        unfold State.enterReady
        exact trigger_resolver_of_quiet hc hq
      unfold State.wake
      rcases u.enterReady.raiseBeside_cases u.attn.events.count .wake (Events.raiseWake x) with h | ⟨o, -, h⟩ <;> rw [h] <;> exact ht
    exact hwake _ _ hc hq
  all_goals rfl

theorem works_takeBlock (s : State) (c : InFlight) : Works w s (s.takeBlock c) := by
  unfold State.takeBlock
  dsimp only
  split
  · exact (sameLedger_setPort s _).works.trans (works_wake _ _)
  all_goals exact (sameLedger_setPort s _).works

/-! ## The commands of the host -/

theorem works_done (s : State) (st : Status) : Works w s (s.done st) :=
  (sameLedger_complete s _ _ _).works

theorem works_gives (s : State) (d : List Byte) : Works w s (s.gives d) :=
  (sameLedger_complete s _ _ _).works

/-- The host sets what it may set, and the command completes. -/
theorem works_setCtrl (hw : w.host) (s : State) (c : PartControl) : Works w s (s.setCtrl c) :=
  .configured (l := ledger s allFast none) hw (hostSettings (s.setCtrl c)) s.dir.interest s.dir.allMode

theorem works_setAttn (hw : w.host) (s : State) (a : AttentionUnit) : Works w s (s.setAttn a) :=
  .configured (l := ledger s allFast none) hw (hostSettings (s.setAttn a)) s.dir.interest s.dir.allMode

theorem works_setFilter (hw : w.host) (s : State) (interest : Vector Bool 64) (all : Bool) :
    Works w s (s.setDir { s.dir with interest := interest, allMode := all }) :=
  .configured (l := ledger s allFast none) hw (hostSettings s) interest all

theorem works_setRefresh (s : State) (x : Timer) : Works w s (s.setDir { s.dir with refreshT := x }) :=
  .culled (l := ledger s allFast none) rfl rfl rfl (List.Sublist.refl _) fun _ _ h => ⟨h, fun _ _ h => h⟩

theorem works_cmdIdentify (hw : w.host) (s : State) (ps : List Byte) : Works w s (s.cmdIdentify ps) := by
  unfold State.cmdIdentify
  split
  · exact works_done s _
  · split
    · exact works_done s _
    · exact works_done s _
    · exact (works_setCtrl hw s _).trans ((works_enterReady _).trans (works_done _ _))

theorem works_enterDormant (s : State) : Works w s s.enterDormant := by
  have hc : SameLedger s ((s.setCtrl { s.ctrl with part := .dormant, bypass := true }).updEnds LineEndSt.toBypassed) :=
    fun _ _ => rfl
  unfold State.enterDormant
  exact (hc.trans (sameLedger_setRoll _ _)).works.trans ((works_setRefresh _ _).trans (SameLedger.works fun _ _ => rfl))

theorem works_resetBlocks (hw : w.host) (s : State) (c : Cause) (p : CarPort) : Works w s ((s.resetBlocks c).setPort p) := by
  refine .reset hw rfl rfl fun i => ?_
  change ((Vector.replicate 32 HandleSlot.free)[i]?).getD .free = .free
  rw [Vector.getElem?_replicate]
  split <;> rfl

theorem works_cmdPartReset (hw : w.host) (s : State) (ps : List Byte) : Works w s (s.cmdPartReset ps) := by
  unfold State.cmdPartReset
  split
  · exact (works_done s _).trans (works_resetBlocks hw _ _ _)
  · exact works_done s _

theorem works_cmdSleep (s : State) (ps : List Byte) : Works w s (s.cmdSleep ps) := by
  unfold State.cmdSleep
  split
  · exact works_done s _
  · split
    · exact (works_enterDormant s).trans (works_done _ _)
    · exact works_done s _

theorem works_restoreEnd (s : State) (e : LineEnd) : Works w s (s.restoreEnd e) := by
  unfold State.restoreEnd
  split
  · exact works_changeEnd s e _
  all_goals exact (sameLedger_updEnd s e _).works

theorem works_cmdLineIsolate (s : State) (ps : List Byte) : Works w s (s.cmdLineIsolate ps) := by
  unfold State.cmdLineIsolate
  split
  · exact works_done s _
  · exact (works_isolateEnd s _).trans (works_done _ _)

theorem works_cmdLineRestore (s : State) (ps : List Byte) : Works w s (s.cmdLineRestore ps) := by
  unfold State.cmdLineRestore
  split
  · exact works_done s _
  · exact (works_restoreEnd s _).trans (works_done _ _)

theorem works_cmdLineUnbar (s : State) (ps : List Byte) : Works w s (s.cmdLineUnbar ps) := by
  unfold State.cmdLineUnbar
  split
  · exact works_done s _
  · split
    · exact (sameLedger_moveEnd s _ _).works.trans ((works_trigger _).trans (works_done _ _))
    · exact works_done s _

theorem works_cmdRollCall (s : State) (ps : List Byte) : Works w s (s.cmdRollCall ps) := by
  unfold State.cmdRollCall
  split
  · exact works_done s _
  · split
    · exact works_done s _
    all_goals exact (works_trigger s).trans (works_done _ _)

theorem works_query (b : Prop) [Decidable b] (s : State) (d : List Byte) (x : Status) : Works w s (if b then s.gives d else s.done x) := by
  split
  · exact works_gives s d
  · exact works_done s x

/-- The record that RECORD_OFFER and RECORD_UPDATE carry has revision 1 (R80). -/
theorem paramRecord_rev {ps : List Byte} {r : Rec} (h : paramRecord ps = some r) : r.rev = 1#16 := by
  unfold paramRecord at h
  split at h
  · split at h
    · cases h; rfl
    · cases h
  · cases h

theorem works_cmdRecordOffer (hw : w.host) (s : State) (ps : List Byte) : Works w s (s.cmdRecordOffer ps) := by
  unfold State.cmdRecordOffer
  split
  · exact works_done s _
  · rename_i r hr
    split
    · exact works_done s _
    · split
      · exact works_done s _
      · rename_i hnew
        split
        · exact works_done s _
        · rename_i hlen
          refine (works_makeRoom s).trans ?_
          dsimp only
          split
          · rename_i hf
            refine Works.trans (t := s.makeRoom.setDir _) ?_ ((works_homeChanged _ _).trans (works_gives _ _))
            refine .offered (l := ledger s.makeRoom allFast none) hw fun _ => ⟨?_, of_decide_eq_true hf, ?_, ?_⟩
            · change s.makeRoom.dir.home.length < _
              rw [makeRoom_home]; exact Nat.not_le.1 hlen
            · change s.makeRoom.dir.findHome _ _ = none
              have hn : s.dir.findHome r.tag r.side = none := by simpa using hnew
              rw [Directory.findHome, makeRoom_home]
              exact hn
            · rw [paramRecord_rev hr]; decide
          · exact works_done _ _

theorem works_cmdRecordUpdate (hw : w.host) (s : State) (ps : List Byte) : Works w s (s.cmdRecordUpdate ps) := by
  unfold State.cmdRecordUpdate
  split
  · exact works_done s _
  · split
    · exact works_done s _
    · split
      · exact works_done s _
      · rename_i old hold
        obtain ⟨hm, ht, hs⟩ := findHome_some hold
        exact (works_changeHome hm (by rw [ht, hs]) fun n => absurd hw n).trans (works_gives _ _)

theorem works_cmdRecordWithdraw (hw : w.host) (s : State) (ps : List Byte) : Works w s (s.cmdRecordWithdraw ps) := by
  unfold State.cmdRecordWithdraw
  split
  · exact works_done s _
  · split
    · exact works_done s _
    · split
      · exact works_done s _
      · refine Works.trans (t := s.setDir _) ?_ ((works_homeChanged _ _).trans (works_done _ _))
        exact .withdrawn (l := ledger s allFast none) hw _ _

theorem works_cmdInterestAdd (hw : w.host) (s : State) (ps : List Byte) : Works w s (s.cmdInterestAdd ps) := by
  unfold State.cmdInterestAdd
  split
  · exact works_done s _
  · exact (works_setFilter hw s _ s.dir.allMode).trans (works_gives _ _)

theorem works_cmdInterestClear (hw : w.host) (s : State) (ps : List Byte) : Works w s (s.cmdInterestClear ps) := by
  unfold State.cmdInterestClear
  split
  · exact (works_setFilter hw s _ s.dir.allMode).trans (works_done _ _)
  · exact works_done s _

theorem works_cmdInterestAll (hw : w.host) (s : State) (ps : List Byte) : Works w s (s.cmdInterestAll ps) := by
  unfold State.cmdInterestAll
  split
  · exact works_done s _
  · exact (works_setFilter hw s s.dir.interest _).trans (works_done _ _)

theorem works_cmdRequestState (s : State) (ps : List Byte) : Works w s (s.cmdRequestState ps) := by
  unfold State.cmdRequestState
  split
  · exact works_done s _
  · split
    · exact works_done s _
    · split
      · exact works_done s _
      · split
        · exact (works_decideChange s _ _ _).trans (sameLedger_complete _ _ _ _).works
        · exact ((sameLedger_setTraffic s _).trans (sameLedger_sendUnicast _ _ _)).works

theorem works_cmdLookup (s : State) (ps : List Byte) (hq : w.port → s.resolver.query = none) : Works w s (s.cmdLookup ps) := by
  unfold State.cmdLookup
  split
  · exact (sameLedger_complete s _ _ _).works
  · exact acts_resolve s _ none fun x => ⟨hq x, .inl rfl⟩

theorem works_cmdBind (s : State) (ps : List Byte) (hq : w.port → s.resolver.query = none) : Works w s (s.cmdBind ps) := by
  unfold State.cmdBind
  split
  · exact works_done s _
  · rename_i q _
    split
    · exact works_done s _
    · rename_i i hi
      obtain ⟨his, hf⟩ := State.firstSlot_some hi
      have hfree : s.slot i = .free := by
        cases h : s.slot i <;> rw [h] at hf <;> first | rfl | cases hf
      refine Acts.trans (l' := ledger (s.setSlot i (.reserved q)) allFast (some q.tag)) ?_
        (acts_resolve _ q _ fun x => ⟨hq x, .inr rfl⟩)
      have hl : ledger (s.setSlot i (.reserved q)) allFast (some q.tag) =
          { ledger s allFast none with slot := Function.update s.slot i (.reserved q), due := some q.tag } :=
        congrArg (fun f => (⟨s.dir, f, s.resolver.query.map ForegroundQuery.tag, hostSettings s, allFast, some q.tag⟩ : Ledger))
          (update_slot his _)
      rw [hl]
      refine .reserved (l := ledger s allFast none) his hfree fun x => ⟨?_, rfl⟩
      change s.resolver.query.map _ = none
      rw [hq x]
      rfl

theorem slot_lt {i : Nat} {b : Binding} (h : s.slot i = .held b) : i ∈ slots := by
  by_contra hn
  rw [mem_slots] at hn
  have : s.bindings.handles[i]? = none := Vector.getElem?_eq_none (Nat.not_lt.1 hn)
  rw [State.slot, this] at h
  cases h

theorem sameLedger_abandonBackground (s : State) : SameLedger s s.abandonBackground :=
  fun _ _ => rfl

theorem works_release (s : State) {i : Nat} {b : Binding} (hb : s.binding i = some b) : Works w s (s.release i b) := by
  rw [binding_eq_some] at hb
  have hi := slot_lt hb
  have hhead : Works w s ((s.setDir (s.dir.movePin (b.st.mirrorKey b.question.tag) none)).setSlot i .free) := by
    have hs : ((s.setDir (s.dir.movePin (b.st.mirrorKey b.question.tag) none)).setSlot i .free).slot =
        Function.update s.slot i .free :=
      update_slot (s := s.setDir (s.dir.movePin (b.st.mirrorKey b.question.tag) none)) hi .free
    have hl : ledger ((s.setDir (s.dir.movePin (b.st.mirrorKey b.question.tag) none)).setSlot i .free) allFast none =
        { ledger s allFast none with
          dir := s.dir.movePin (restKey (s.slot i)) (restKey .free), slot := Function.update s.slot i .free } := by
      rw [ledger, hs, hb]
      rfl
    unfold Works
    rw [hl]
    exact .rewritten (l := ledger s allFast none) hi (by rw [show (ledger s allFast none).slot i = _ from hb]; rfl) rfl
      (fun _ _ _ h => h) fun _ _ _ _ _ k hk => by cases hk
  unfold State.release
  dsimp only
  split
  · exact hhead.trans ((sameLedger_abandonBackground _).trans (sameLedger_startBackground _)).works
  · exact hhead

theorem works_cmdUnbind (s : State) (ps : List Byte) : Works w s (s.cmdUnbind ps) := by
  unfold State.cmdUnbind
  split
  · exact works_done s _
  · split
    · exact works_done s _
    · exact (works_release s ‹_›).trans (works_done _ _)

theorem works_cmdBindingGet (s : State) (ps : List Byte) : Works w s (s.cmdBindingGet ps) := by
  unfold State.cmdBindingGet
  split
  · exact works_done s _
  · split
    · exact works_done s _
    · exact (sameLedger_complete s _ _ _).works

theorem works_clearMark (s : State) (i : Nat) : Works w s (s.clearMark i) := by
  unfold State.clearMark
  split
  · rename_i b hb
    rw [binding_eq_some] at hb
    have hi := slot_lt hb
    have hd : s.dir.movePin (restKey (s.slot i)) (restKey (.held { b with changed := false })) = s.dir := by
      rw [hb]
      exact if_pos rfl
    have hl : ledger (s.setSlot i (.held { b with changed := false })) allFast none = { ledger s allFast none with
        dir := s.dir.movePin (restKey (s.slot i)) (restKey (.held { b with changed := false }))
        slot := Function.update s.slot i (.held { b with changed := false }) } := by
      rw [hd, ledger, update_slot hi]
      rfl
    unfold Works
    rw [hl]
    refine .rewritten (l := ledger s allFast none) hi (by rw [show (ledger s allFast none).slot i = _ from hb]; rfl) rfl
      (fun _ _ _ h => h) fun _ _ _ p h k hk => p.held i hi h k ?_
    rw [show (ledger s allFast none).slot i = _ from hb]
    exact hk
  · exact .refl s

theorem works_cmdBindingScan (s : State) (ps : List Byte) : Works w s (s.cmdBindingScan ps) := by
  have h (l : List Nat) (s : State) : Works w s (l.foldl State.clearMark s) := by
    induction l generalizing s with
    | nil => exact .refl s
    | cons i l ih => exact (works_clearMark s i).trans (ih _)
  unfold State.cmdBindingScan
  split
  · exact (h _ s).trans (works_gives _ _)
  · exact works_done s _

theorem works_cmdEventRead (s : State) (ps : List Byte) : Works w s (s.cmdEventRead ps) := by
  unfold State.cmdEventRead
  split
  · exact works_done s _
  · split
    · exact works_done s _
    · dsimp only
      split
      · exact works_gives s _
      · exact (sameLedger_raise s _).works.trans (works_gives _ _)

theorem works_cmdEventMask (hw : w.host) (s : State) (ps : List Byte) : Works w s (s.cmdEventMask ps) := by
  unfold State.cmdEventMask
  split
  · exact works_done s _
  · exact (works_setAttn hw s _).trans (works_done _ _)

theorem works_cmdViewAck (s : State) (ps : List Byte) : Works w s (s.cmdViewAck ps) := by
  unfold State.cmdViewAck
  split
  · exact works_done s _
  · split
    · exact (sameLedger_raise s _).works.trans (works_gives _ _)
    · exact works_gives s _

theorem works_cmdDispositionSet (hw : w.host) (s : State) (ps : List Byte) : Works w s (s.cmdDispositionSet ps) := by
  unfold State.cmdDispositionSet
  split
  · exact works_done s _
  · exact (works_setAttn hw s _).trans (works_done _ _)

theorem works_command (hw : w.host) (s : State) (c : Cmd) (ps : List Byte) (hq : w.port → s.resolver.query = none) :
    Works w s (s.command c ps) := by
  cases c
  case identify => exact works_cmdIdentify hw s ps
  case getInfo => exact works_query _ s _ _
  case sleep => exact works_cmdSleep s ps
  case partReset => exact works_cmdPartReset hw s ps
  case lineStatus => exact works_query _ s _ _
  case lineIsolate => exact works_cmdLineIsolate s ps
  case lineRestore => exact works_cmdLineRestore s ps
  case lineUnbar => exact works_cmdLineUnbar s ps
  case consistRead => exact works_query _ s _ _
  case rollCall => exact works_cmdRollCall s ps
  case recordOffer => exact works_cmdRecordOffer hw s ps
  case recordUpdate => exact works_cmdRecordUpdate hw s ps
  case recordWithdraw => exact works_cmdRecordWithdraw hw s ps
  case recordList => exact works_query _ s _ _
  case requestState => exact works_cmdRequestState s ps
  case lookup => exact works_cmdLookup s ps hq
  case interestAdd => exact works_cmdInterestAdd hw s ps
  case interestClear => exact works_cmdInterestClear hw s ps
  case interestAll => exact works_cmdInterestAll hw s ps
  case bind => exact works_cmdBind s ps hq
  case unbind => exact works_cmdUnbind s ps
  case bindingGet => exact works_cmdBindingGet s ps
  case bindingScan => exact works_cmdBindingScan s ps
  case eventRead => exact works_cmdEventRead s ps
  case eventMask => exact works_cmdEventMask hw s ps
  case viewAck => exact works_cmdViewAck s ps
  case dispositionSet => exact works_cmdDispositionSet hw s ps

theorem works_writeTransaction (hw : w.host) (s : State) (bytes : List Byte) (hp : w.port → s.PortInv) :
    Works w s (s.writeTransaction bytes) := by
  have hf : Works w s (s.fillBuffer bytes) := (sameLedger_setPort s _).works
  have ht (b : BlockCheck) (hn : s.port.state ≠ .inFlight) :
      Works w s (((s.fillBuffer bytes).takeBlock b.inFlight).judgeBlock b) := by
    refine hf.trans ((works_takeBlock _ b.inFlight).trans ?_)
    cases b with
    | command c tag ps =>
      refine works_command hw _ c ps fun x => ?_
      obtain ⟨-, -, -, -, h, -⟩ := hp x
      rw [takeBlock_resolver (s := s.fillBuffer bytes) _ (h hn).2 (h hn).1]
      exact (h hn).1
    | _ => exact works_done _ _
  unfold State.writeTransaction
  split
  · exact .refl s
  · unfold State.releaseSelect
    split
    · exact hf.trans (sameLedger_setPort _ _).works
    · split
      · exact hf.trans (sameLedger_setPort _ _).works
      all_goals
        rename_i h
        exact ht _ (by rw [show s.port.state = _ from h]; decide)

/-! ## Every command -/

theorem works_debounce (s : State) :
    Works w s (if s.consist.debounceT.isRunning then
      let t := s.setConsist { s.consist with cabLevel := s.consist.cabInput, debounceT := .stopped }
      if t.ownCab = s.ownCab then t else t.ownCabChanged
     else s) := by
  split
  · dsimp only
    split
    · exact (sameLedger_setConsist s _).works
    · exact (sameLedger_setConsist s _).works.trans (works_ownCabChanged _)
  · exact .refl s

/-- A timer that is stopped does not expire. -/
theorem works_ite (b : Bool) (h : b = true → Works w s t) : Works w s (if b then t else s) := by
  split
  · exact h ‹_›
  · exact .refl s

/-- Every command is a run of moves. A write of the host and power-on may make those of the host. -/
theorem exec_works (c : Instr) (s : State) (hw : c.fromHost = true → w.host) (hp : w.port → s.PortInv) :
    ∃ t, exec c s = .next t ∧ Works w s t := by
  cases c
  case powerOn => exact ⟨_, rfl, works_resetBlocks (hw rfl) s _ _⟩
  case portReset => exact ⟨_, rfl, works_portReset s⟩
  case portResetRelease => exact ⟨_, rfl, (sameLedger_setPort s _).works⟩
  case contactClose e =>
    refine ⟨_, rfl, ?_⟩
    split
    · exact .refl s
    · exact works_contactClosed s e
  case contactOpen e => exact ⟨_, rfl, works_ite _ fun _ => works_contactOpened s e⟩
  case cabInputChange a =>
    refine ⟨_, rfl, ?_⟩
    split
    · exact .refl s
    · exact (sameLedger_setConsist s _).works
  case debounceTimerExpiry => exact ⟨_, rfl, works_debounce s⟩
  case releaseTimerExpiry e => exact ⟨_, rfl, works_ite _ fun _ => works_changeEnd s e _⟩
  case settleTimerExpiry e => exact ⟨_, rfl, works_ite _ fun _ => works_changeEnd s e _⟩
  case lossTimerExpiry e => exact ⟨_, rfl, works_ite _ fun _ => works_loseEnd s e _⟩
  case beaconTimerExpiry e => exact ⟨_, rfl, works_ite _ fun _ => (sameLedger_updEnd s e _).works⟩
  case leakTimerExpiry e => exact ⟨_, rfl, works_ite _ fun _ => (sameLedger_updEnd s e _).works⟩
  case rollTimerExpiry => exact ⟨_, rfl, works_rollExpiry s⟩
  case refreshWindowExpiry => exact ⟨_, rfl, works_ite _ fun _ => works_endRefresh s⟩
  case changeRequestTimerExpiry =>
    refine ⟨_, rfl, ?_⟩
    split
    · exact works_ite _ fun _ => works_changeTimeout s _
    · exact .refl s
  case queryTimerExpiry =>
    refine ⟨_, rfl, ?_⟩
    split
    · rename_i q hq
      exact works_ite _ fun _ => works_foregroundTimeout s hq
    · exact .refl s
  case backgroundQueryTimerExpiry =>
    refine ⟨_, rfl, ?_⟩
    split
    · exact works_ite _ fun _ => works_backgroundExpiry s _
    · exact .refl s
  case frameTransmitStart e => exact ⟨_, rfl, works_startTransmit s e⟩
  case invalidFrame e => exact ⟨_, rfl, works_receiveInvalid s e⟩
  case beacon | call | roll | roster | steer | publish | withdraw | query | answer | changeReq | changeReply =>
    exact ⟨_, rfl, works_receiveFrame s _ _⟩
  all_goals exact ⟨_, rfl, works_writeTransaction (hw rfl) s _ hp⟩

/-- A step is a run of moves, from an idle queue too. -/
theorem step_works (h : step s = .next t) (hw : w.host) (hp : w.port → s.PortInv) : Works w s t := by
  unfold step at h
  split at h
  · cases h; exact .refl s
  · rename_i c rest _
    obtain ⟨u, hu, hm⟩ := exec_works (w := w) c { s with pending := rest } (fun _ => hw) hp
    rw [hu] at h
    cases h
    exact Works.trans (t := { s with pending := rest }) (SameLedger.works fun _ _ => rfl) hm

/-! ## The invariants and the statements -/

theorem promised_of_inv (h : s.ReservedInv) (hp : s.PortInv) : (ledger s allFast none).Promised where
  tag i hi q hq := .inl (h i hi q.tag (by rw [show s.slot i = _ from hq]; rfl))
  one i hi j hj hri hrj := by
    obtain ⟨-, -, -, -, -, -, hone, -⟩ := hp
    rw [List.countP_eq_length_filter] at hone
    have hmem {k : Nat} (hk : k ∈ slots) (hr : (s.slot k).isReserved = true) :
        k ∈ slots.filter fun i => (s.slot i).isReserved := List.mem_filter.2 ⟨hk, hr⟩
    have hi' := hmem hi hri
    have hj' := hmem hj hrj
    match hl : slots.filter fun i => (s.slot i).isReserved with
    | [] => rw [hl] at hi'; cases hi'
    | [a] =>
      rw [hl, List.mem_singleton] at hi' hj'
      rw [hi', hj']
    | _ :: _ :: _ => rw [hl] at hone; simp at hone

theorem reservedInv_of_promised (h : (ledger s allFast none).Promised) : s.ReservedInv := by
  intro i hi t ht
  cases hs : s.slot i with
  | reserved q =>
    rw [hs] at ht
    cases ht
    exact (h.tag i hi q hs).resolve_right fun h => by cases h
  | held b => rw [hs] at ht; cases ht
  | free => rw [hs] at ht; cases ht

theorem mem_restKey (s : State) (i : Nat) (k : Ident × Tag × Side) :
    k ∈ (match s.binding i with
      | some b => (b.st.mirrorKey b.question.tag).toList
      | none => []) ↔ restKey (s.slot i) = some k := by
  unfold State.binding
  cases s.slot i <;> simp [restKey]

theorem pinInv_iff (s : State) : s.PinInv ↔ (ledger s allFast none).Pinned := by
  constructor
  · rintro ⟨hc, hh⟩
    exact ⟨hc, fun i hi _ k hk => (holds_iff s.dir k).2 (hh i hi k ((mem_restKey s i k).2 hk))⟩
  · rintro ⟨hc, hh⟩
    exact ⟨hc, fun i hi k hk => (holds_iff s.dir k).1 (hh i hi id k ((mem_restKey s i k).1 hk))⟩

/-- Settles O7: every step is a run of moves, and each move keeps the limits, the keys and the revisions. -/
theorem everyStepKeepsTheDirectory : Obligations.EveryStepKeepsTheDirectory := by
  unfold Obligations.EveryStepKeepsTheDirectory
  intro s t hd h
  have hg : Good ⟨True, False, False, True⟩ (ledger s allFast none) :=
    ⟨fun _ => (dirInv_iff s).1 hd, False.elim, fun _ => False.elim⟩
  exact (dirInv_iff t).2 (((step_works (w := ⟨True, False, False, True⟩) h trivial False.elim).good hg).dir trivial)

/-- Settles O10: the pins count the bindings through every move, a binding being loose between the removal of its mirror and the report of it; and
a reserved handle keeps the tag that is asked or owed. -/
theorem everyStepKeepsThePins : Obligations.EveryStepKeepsThePins := by
  refine ⟨fun s t hd hp hr hpin h => ?_, fun s t hp hr h => ?_, ?_⟩
  · have hg : Good ⟨True, True, True, True⟩ (ledger s allFast none) :=
      ⟨fun _ => (dirInv_iff s).1 hd, fun _ => promised_of_inv hr hp, fun _ _ _ => (pinInv_iff s).1 hpin⟩
    exact (pinInv_iff t).2 (((step_works h trivial fun _ => hp).good hg).pins trivial trivial trivial)
  · have hg : Good ⟨False, True, False, True⟩ (ledger s allFast none) :=
      ⟨False.elim, fun _ => promised_of_inv hr hp, False.elim⟩
    exact reservedInv_of_promised (((step_works h trivial fun _ => hp).good hg).port trivial)
  · have hfree (i : Nat) : State.reset.slot i = .free := by
      change ((Vector.replicate 32 HandleSlot.free)[i]?).getD .free = .free
      rw [Vector.getElem?_replicate]
      split <;> rfl
    intro i _ t ht
    rw [hfree i] at ht
    cases ht

/-- Settles O12: of the moves, those that change a setting are the host's own; a remote change of a home record keeps its other fields. -/
theorem onlyTheHostChangesItsSettings : Obligations.OnlyTheHostChangesItsSettings := by
  intro c s hd hc
  obtain ⟨t, ht, hw⟩ := exec_works (w := ⟨True, False, False, False⟩) c s (fun h => by rw [hc] at h; cases h) False.elim
  have hg : Good ⟨True, False, False, False⟩ (ledger s allFast none) :=
    ⟨fun _ => (dirInv_iff s).1 hd, False.elim, fun _ => False.elim⟩
  have hk := hw.kept hg trivial id
  simp only [Ledger.kept, ledger, hostSettings, Prod.mk.injEq, HostSettings.mk.injEq] at hk
  obtain ⟨⟨h1, h2, h3, h4, h5⟩, h6, h7, h8⟩ := hk
  exact ⟨t, ht, h1, h2, h3, h4, h5, h6, h7, h8⟩

end Sys2Proof.Machine.RecordProofs
end

section
/-! The end of the refresh window: the STALE mirrors go, and the reports of their removals change nothing else that the statement names. -/

namespace Sys2Proof.Machine.RecordProofs

open RollCallProofs

/-- What the report of a record leaves: what questions are answered from, the train, the settings, the refresh window and the port. -/
structure Reported (s t : State) : Prop where
  sight : SameSight s t
  train : s.SameTrain t
  refreshT : t.dir.refreshT = s.dir.refreshT
  port : t.port = s.port

theorem Reported.trans {s t u : State} (h : Reported s t) (k : Reported t u) : Reported s u :=
  ⟨h.sight.trans k.sight, h.train.trans k.train, k.refreshT.trans h.refreshT, k.port.trans h.port⟩

theorem reported_freeCount (s : State) (n : Nat) : Reported s { s with freeCount := n } :=
  ⟨{ SameSight.refl s with }, { State.SameTrain.refl s with }, rfl, rfl⟩

theorem reported_recordChanged {s : State} (hn : KeysNodup s.dir) (t : Tag) : Reported s (s.recordChanged t) :=
  have h := s.rebinds_recordChanged t
  ⟨sameSight_recordChanged hn t, h.sameTrain, h.refreshT, h.port⟩

/-- Removals reported, in whatever order is chosen (R97). -/
theorem reported_reportGone (n : Nat) (tags : List Tag) {s : State} (hn : KeysNodup s.dir) : Reported s (State.reportGone n tags s) := by
  induction n generalizing tags s with
  | zero => exact reported_freeCount s _
  | succ n ih =>
    unfold State.reportGone
    split
    · exact reported_freeCount s _
    · exact reported_recordChanged hn _
    · have hfree := reported_freeCount s (s.freeCount + 1)
      have hstep (t : Tag) := hfree.trans (reported_recordChanged (s := { s with freeCount := s.freeCount + 1 }) hn t)
      exact (hstep _).trans (ih _ ((hstep _).sight.keysNodup hn))

/-- The directory without its STALE mirrors, its refresh window closed (R97). -/
def withoutStale (d : Directory) : Directory :=
  { d with mirrors := d.mirrors.filter fun m => decide (m.fresh ≠ .stale), refreshT := .stopped }

theorem withoutStale_mirrors (d : Directory) : (withoutStale d).mirrors = d.mirrors.filter (·.fresh = .current) :=
  List.filter_congr fun m _ => by cases m.fresh <;> rfl

theorem reported_endRefresh {s : State} (hn : KeysNodup s.dir) : Reported (s.setDir (withoutStale s.dir)) s.endRefresh := by
  unfold State.endRefresh
  exact reported_reportGone _ _ (s := s.setDir (withoutStale s.dir)) (List.Nodup.sublist (List.filter_sublist.map _) hn)

/-- Settles O33: the directory is left with the CURRENT mirrors, and the reports of the removals move them in the use order alone. -/
theorem refreshWindowEnds : Obligations.RefreshWindowEnds := by
  intro s hrun hn
  have hexec : exec .refreshWindowExpiry s = .next s.endRefresh := congrArg Host.Outcome.next (if_pos hrun)
  obtain ⟨hsight, ⟨-, -, hkeep, -⟩, hr, hp⟩ := reported_endRefresh (s := s) hn
  refine ⟨s.endRefresh, hexec, ?_, hr, hsight.roll, hsight.consist, hp, hkeep⟩
  rw [← withoutStale_mirrors]
  exact hsight.mirrors

end Sys2Proof.Machine.RecordProofs
end

section
/-! Directory frames received: how an accepted frame comes to its destination, and what a change of a home record leaves alone. -/

namespace Sys2Proof.Machine.RecordProofs

open RollCallProofs TrainProofs

/-! ## From the line to the destination -/

/-- A frame from a car of the roster passes the acceptance test (R100). -/
theorem accepts_of_fromCar {s : State} {h : Header} (hf : s.FromCar h) (p : Payload) : s.accepts ⟨h, p⟩ = true := by
  obtain ⟨hr, he, hs, hi⟩ := hf
  rw [Option.map_eq_some_iff] at hi
  obtain ⟨r, hr', hid⟩ := hi
  simp [State.accepts, hr, he, hs, hr', hid]

theorem fromCar_heardOn {s : State} {h : Header} (e : LineEnd) : (s.heardOn e).FromCar h ↔ s.FromCar h := by
  simp [State.FromCar]

theorem reaches_congr {s u : State} {t : Nat} {out : LineEnd} (hc : u.consist = s.consist)
    (hs : (u.lineEnd out).state = (s.lineEnd out).state) : u.Reaches t out ↔ s.Reaches t out := by
  rw [State.Reaches, State.Reaches, hc, hs]

/-- A frame of the directory handed on from a joined end (R11). -/
theorem receive_locked {s : State} {e : LineEnd} (hl : (s.lineEnd e).state = .locked) (hand : State → State) :
    s.receive e hand = hand (s.heardOn e) := by
  rw [State.receive, hl]
  rfl

/-- A unicast at the car it is for is taken there (R102). -/
theorem takeUnicast_own {s : State} {h : Header} {p : Payload} (e : LineEnd) (here : State → State) (hf : s.FromCar h)
    (hd : h.dst.toNat = s.consist.ownIdx) (h0 : h.dst ≠ 0#8) (hn : s.consist.ownIdx ≤ s.consist.n) :
    s.takeUnicast e ⟨h, p⟩ here = here s := by
  have hz : h.dst.toNat ≠ 0 := fun hz => h0 (BitVec.eq_of_toNat_eq (by simpa using hz))
  rw [State.takeUnicast, accepts_of_fromCar hf p]
  rw [if_neg (by simp), if_neg (by rw [hd]; omega), if_pos hd]

/-- The conditions under which a unicast from a car of the roster is taken at this part. -/
structure Arrives (s : State) (e : LineEnd) (h : Header) : Prop where
  locked : (s.lineEnd e).state = .locked
  car : s.FromCar h
  own : h.dst.toNat = s.consist.ownIdx
  dst : h.dst ≠ 0#8
  idx : s.consist.ownIdx ≤ s.consist.n

theorem receive_unicast {s : State} {e : LineEnd} {h : Header} (ha : Arrives s e h) (p : Payload) (here : State → State) :
    (s.receive e fun s => s.takeUnicast e ⟨h, p⟩ here) = here (s.heardOn e) := by
  rw [receive_locked ha.locked, takeUnicast_own e here ((fromCar_heardOn e).2 ha.car) (by simpa using ha.own) ha.dst
    (by simpa using ha.idx)]

theorem tagLenOk_of_tagOk {g : Tag} (h : TagOk g) : tagLenOk g = true := by
  simp [tagLenOk, h.1, h.2.1]

/-! ## What the report of a home record leaves -/

/-- The train, the settings of Part Control, the port, the Resolver, the home records and the reply memory are left alone. -/
structure Aside (s t : State) : Prop where
  roll : t.roll = s.roll
  consist : t.consist = s.consist
  ctrl : t.ctrl = s.ctrl
  port : t.port = s.port
  resolver : t.resolver = s.resolver
  home : t.dir.home = s.dir.home
  replies : t.traffic.replies = s.traffic.replies

theorem Aside.refl (s : State) : Aside s s :=
  ⟨rfl, rfl, rfl, rfl, rfl, rfl, rfl⟩

theorem Aside.trans {s t u : State} (h : Aside s t) (k : Aside t u) : Aside s u :=
  ⟨k.roll.trans h.roll, k.consist.trans h.consist, k.ctrl.trans h.ctrl, k.port.trans h.port, k.resolver.trans h.resolver,
    k.home.trans h.home, k.replies.trans h.replies⟩

theorem aside_of_rebinds {s t : State} (h : s.Rebinds t) : Aside s t :=
  ⟨h.roll, h.consist, h.ctrl, h.port, h.resolver, h.home,
    (congrArg Traffic.replies h.traffic :)⟩

theorem aside_publishChange (c : HomeChange) (s : State) : Aside s (s.publishChange c) := by
  unfold State.publishChange
  split
  · exact .refl s
  · cases c <;> dsimp only <;> split <;> exact ⟨rfl, rfl, rfl, rfl, rfl, rfl, rfl⟩

theorem aside_eitherOrder {f g : State → State} {s : State} (hf : Aside s (f s)) (hg : Aside (f s) (g (f s))) :
    Aside s (eitherOrder f g s) := by
  refine (hf.trans hg).trans ?_
  unfold eitherOrder
  dsimp only
  split <;> exact ⟨rfl, rfl, rfl, rfl, rfl, rfl, rfl⟩

theorem aside_homeChanged (s : State) (c : HomeChange) : Aside s (s.homeChanged c) :=
  aside_eitherOrder (aside_of_rebinds (s.rebinds_recordChanged c.tag)) (aside_publishChange c _)

theorem aside_sendUnicast (s : State) (t : Nat) (p : Payload) : Aside s (s.sendUnicast t p) := by
  constructor <;> simp

theorem aside_raiseBeside (s : State) (n : Nat) (k : EventKind) (f : Events → Events) : Aside s (s.raiseBeside n k f) := by
  rcases s.raiseBeside_cases n k f with h | ⟨o, -, h⟩ <;> rw [h] <;> exact ⟨rfl, rfl, rfl, rfl, rfl, rfl, rfl⟩

/-- An event beside work that has placed no kind is raised, and no order is chosen. -/
theorem raiseBeside_calm {s : State} {n : Nat} (h : s.attn.events.count ≤ n) (k : EventKind) (f : Events → Events) :
    s.raiseBeside n k f = s.raise f := by
  unfold State.raiseBeside
  exact if_pos (by simp [h])

end Sys2Proof.Machine.RecordProofs
end

section
/-! A CHANGE_REQ at its owner: a repeat, and the decision with what it leaves (R115, R116). -/

namespace Sys2Proof.Machine.RecordProofs

open RollCallProofs TrainProofs

/-! ## The change of a home record -/

/-- A changed record stands in its place with its revision stepped, and the rest of what `Aside` names is left alone (R81). -/
theorem changeHome_changed {s : State} {g : Tag} {sd : Side} {x : Rec} {d : RecState} (h : s.dir.findHome g sd = some x)
    (hd : x.state ≠ d) : Aside (homeReplaced s g sd (restated x d)) (s.changeHome x { x with state := d }) := by
  obtain ⟨rfl, rfl⟩ := findHome_key h
  have hne : ({ x with state := d, rev := x.rev } : Rec) ≠ x := fun he => hd (congrArg Rec.state he).symm
  have hc : s.changeHome x { x with state := d } =
      (homeReplaced s x.tag x.side (restated x d)).homeChanged (.updated (restated x d)) := if_neg hne
  rw [hc]
  exact aside_homeChanged _ _

theorem homeRevision_congr {s t : State} (h : t.dir.home = s.dir.home) (g : Tag) (sd : Side) :
    t.homeRevision g sd = s.homeRevision g sd := by
  rw [State.homeRevision, State.homeRevision, Directory.findHome, Directory.findHome, h]

/-- The revision that a changed record answers with, whatever bindings name its tag. -/
theorem homeRevision_changed {s : State} {g : Tag} {sd : Side} {x : Rec} {d : RecState} (h : s.dir.findHome g sd = some x)
    (hd : x.state ≠ d) : (s.changeHome x { x with state := d }).homeRevision g sd = stepRevision x.rev := by
  obtain ⟨ht, hsd⟩ := findHome_key h
  rw [homeRevision_congr (changeHome_changed h hd).home, homeRevision_of_found (findHome_replaced (r := restated x d) h ht hsd)]
  rfl

theorem stateChanged_attn (s : State) (g : Tag) (sd : Side) (x : Rec) (d : RecState) : (stateChanged s g sd x d).attn = s.attn := by
  unfold stateChanged
  split <;> rfl

theorem raiseBeside_remoteChange (s : State) (n : Nat) (x : RemoteChangeData) :
    (s.raiseBeside n .remoteChange (Events.raiseRemoteChange x)).attn.events.remoteChange = some x := by
  rcases s.raiseBeside_cases n .remoteChange (Events.raiseRemoteChange x) with h | ⟨o, -, h⟩ <;> rw [h] <;> rfl

/-! ## The frame taken -/

/-- The reply memory with an entry kept (R116). -/
def withReply (s : State) (r : ReplyEntry) : State :=
  s.setTraffic { s.traffic with replies := keepReply s.traffic.replies r }

/-- What finds a repeat in the reply memory (R116). -/
abbrev repeats (h : Header) (id : Byte) (g : Tag) (sd : Side) (d : RecState) (l : List ReplyEntry) : Option ReplyEntry :=
  l.find? fun x => x.requester = h.src ∧ x.id = id ∧ x.tag = g ∧ x.side = sd ∧ x.desired = d

variable {s : State} {e out : LineEnd} {h : Header} {id : Byte} {g : Tag} {sd : Side} {d : RecState}

theorem exec_changeReq (ha : Arrives s e h) (hg : TagOk g) :
    exec (.changeReq e h id g sd.code d.code) s =
      .next ((s.heardOn e).takeChangeReq ⟨h, .changeReq id g sd.code d.code⟩ id g sd.code d.code) := by
  have hv : (⟨h, .changeReq id g sd.code d.code⟩ : Frame).valid = true := tagLenOk_of_tagOk hg
  change Host.Outcome.next (s.receiveFrame e _) = _
  rw [State.receiveFrame, if_pos hv]
  exact congrArg Host.Outcome.next (receive_unicast ha _ _)

theorem takeChangeReq_repeat {x : ReplyEntry} (hg : TagOk g) (hx : repeats h id g sd d s.traffic.replies = some x) :
    s.takeChangeReq ⟨h, .changeReq id g sd.code d.code⟩ id g sd.code d.code =
      s.sendUnicast h.srcIdx.toNat (.changeReply id x.outcome.code x.rev) := by
  rw [State.takeChangeReq, (Side.ofCode_eq_some _ sd).2 rfl, (RecState.ofCode_eq_some _ d).2 rfl]
  unfold repeats at hx
  dsimp only
  rw [if_pos (all_tagByteOk.2 hg.2.2), hx]
  rfl

theorem takeChangeReq_new (hg : TagOk g) (hx : repeats h id g sd d s.traffic.replies = none) :
    s.takeChangeReq ⟨h, .changeReq id g sd.code d.code⟩ id g sd.code d.code =
      s.decideRequest ⟨h, .changeReq id g sd.code d.code⟩ id g sd d := by
  rw [State.takeChangeReq, (Side.ofCode_eq_some _ sd).2 rfl, (RecState.ofCode_eq_some _ d).2 rfl]
  unfold repeats at hx
  dsimp only
  rw [if_pos (all_tagByteOk.2 hg.2.2), hx]

/-- A request that is not accepted is kept in the reply memory and answered. -/
theorem decideRequest_refused {p : Payload} {o : ChangeOutcome} {rev : Half} (hd : s.decideChange g sd d = (s, o, rev))
    (ho : o ≠ .accepted) :
    s.decideRequest ⟨h, p⟩ id g sd d =
      (withReply s ⟨h.src, id, g, sd, d, o, rev⟩).sendUnicast h.srcIdx.toNat (.changeReply id o.code rev) := by
  rw [State.decideRequest, hd]
  dsimp only
  rw [if_neg fun hc => ho hc.1]
  rfl

/-- A request for the state that the record has already. -/
theorem decideRequest_same {p : Payload} {x : Rec} (hx : s.dir.findHome g sd = some x) (hp : x.perm = .allowed) (hd : x.state = d) :
    s.decideRequest ⟨h, p⟩ id g sd d =
      (withReply s ⟨h.src, id, g, sd, d, .accepted, x.rev⟩).sendUnicast h.srcIdx.toNat (.changeReply id 0#8 x.rev) := by
  subst hd
  rw [State.decideRequest, decideChange_allowed x.state hx hp, changeHome_same, homeRevision_of_found hx, hx]
  dsimp only
  rw [if_neg fun hc => hc.2 rfl]
  rfl

/-- A request that changes the record: the change, REMOTE_CHANGE, the entry kept, the reply (R115). -/
theorem decideRequest_changed {p : Payload} {x : Rec} (hx : s.dir.findHome g sd = some x) (hp : x.perm = .allowed) (hd : x.state ≠ d) :
    s.decideRequest ⟨h, p⟩ id g sd d =
      (withReply ((s.changeHome x { x with state := d }).raiseBeside s.attn.events.count .remoteChange
        (Events.raiseRemoteChange ⟨g, sd, d, h.src⟩)) ⟨h.src, id, g, sd, d, .accepted, stepRevision x.rev⟩).sendUnicast
          h.srcIdx.toNat (.changeReply id 0#8 (stepRevision x.rev)) := by
  rw [State.decideRequest, decideChange_allowed d hx hp, homeRevision_changed hx hd, hx]
  dsimp only
  rw [if_pos ⟨rfl, fun hc => hd (Option.some.inj hc)⟩]
  rfl

/-! ## The clauses -/

theorem replies_heardOn (s : State) (e : LineEnd) : (s.heardOn e).traffic.replies = s.traffic.replies := by
  rw [heardOn_traffic]

theorem findHome_heardOn (s : State) (e : LineEnd) (g : Tag) (sd : Side) : (s.heardOn e).dir.findHome g sd = s.dir.findHome g sd := by
  rw [heardOn_dir]

theorem exec_changeReq_new (ha : Arrives s e h) (hg : TagOk g) (hx : repeats h id g sd d s.traffic.replies = none) :
    exec (.changeReq e h id g sd.code d.code) s =
      .next ((s.heardOn e).decideRequest ⟨h, .changeReq id g sd.code d.code⟩ id g sd d) := by
  rw [exec_changeReq ha hg, takeChangeReq_new hg (by rw [replies_heardOn]; exact hx)]

/-- The reply goes out toward the requester (R103). -/
theorem reply_queued {u : State} (hc : u.consist = s.consist) (hi : u.ctrl = s.ctrl)
    (hs : (u.lineEnd out).state = (s.lineEnd out).state) (hr : s.Reaches h.srcIdx.toNat out) (p : Payload) :
    u.sendUnicast h.srcIdx.toNat p =
      u.queuedDir out ⟨⟨s.consist.ea, s.ownId, byteOf h.srcIdx.toNat, byteOf s.consist.ownIdx⟩, p⟩ := by
  rw [sendUnicast_reaches ((reaches_congr hc hs).2 hr), unicast, hc, ownId_congr hi]

/-- Settles O51: a repeat gets its entry's reply; a new request is decided on the home record, kept and answered. -/
theorem changeRequestDecided : Obligations.ChangeRequestDecided := by
  unfold Obligations.ChangeRequestDecided
  refine ⟨?again, ?none, ?denied, ?allowed, ?same, ?changed⟩
  case again =>
    intro s e out h id g sd d x hg hl hf ho h0 hn hr hx
    rw [exec_changeReq ⟨hl, hf, ho, h0, hn⟩ hg, takeChangeReq_repeat hg (by rw [replies_heardOn]; exact hx),
      reply_queued (heardOn_consist s e) (heardOn_ctrl s e) (heardOn_state s e out) hr]
  case none =>
    intro s e out h id g sd d hg hl hf ho h0 hn hr hx hh
    rw [exec_changeReq_new ⟨hl, hf, ho, h0, hn⟩ hg hx,
      decideRequest_refused (decideChange_none d (by rw [findHome_heardOn]; exact hh)) (by decide),
      reply_queued (s := s) (out := out) (by exact heardOn_consist s e) (by exact heardOn_ctrl s e) (by exact heardOn_state s e out) hr]
    cases e <;> rfl
  case denied =>
    intro s e out h id g sd d r hg hl hf ho h0 hn hr hx hh hp
    rw [exec_changeReq_new ⟨hl, hf, ho, h0, hn⟩ hg hx,
      decideRequest_refused (decideChange_denied d (by rw [findHome_heardOn]; exact hh) hp) (by decide),
      reply_queued (s := s) (out := out) (by exact heardOn_consist s e) (by exact heardOn_ctrl s e) (by exact heardOn_state s e out) hr]
    cases e <;> rfl
  case same =>
    intro s e out h id g sd d r hg hl hf ho h0 hn hr hx hh hp hd
    rw [exec_changeReq_new ⟨hl, hf, ho, h0, hn⟩ hg hx, decideRequest_same (by rw [findHome_heardOn]; exact hh) hp hd,
      reply_queued (s := s) (out := out) (by exact heardOn_consist s e) (by exact heardOn_ctrl s e) (by exact heardOn_state s e out) hr]
    cases e <;> rfl
  case allowed =>
    intro s e h id g sd d r hg hl hf ho h0 hn hx hh hp
    have hh' : (s.heardOn e).dir.findHome g sd = some r := by rw [findHome_heardOn]; exact hh
    refine ⟨_, exec_changeReq_new ⟨hl, hf, ho, h0, hn⟩ hg hx, ?_⟩
    by_cases hd : r.state = d
    · rw [decideRequest_same hh' hp hd]
      have ha := aside_sendUnicast (withReply (s.heardOn e) ⟨h.src, id, g, sd, d, .accepted, r.rev⟩) h.srcIdx.toNat
        (.changeReply id 0#8 r.rev)
      refine ⟨?_, ?_, fun hne => absurd hd hne, fun _ => ⟨?_, ?_⟩, ?_, ?_, ?_, ?_⟩
      · rw [ha.home]; simp [withReply, hd]
      · rw [ha.replies]; simp [withReply, hd]
      · simp [withReply]
      · simp [withReply]
      · rw [ha.roll]; simp [withReply]
      · rw [ha.consist]; simp [withReply]
      · rw [ha.port]; exact heardOn_port s e
      · rw [ha.ctrl]; simp [withReply]
    · rw [decideRequest_changed hh' hp hd]
      have hu := (changeHome_changed hh' hd).trans (aside_raiseBeside _ (s.heardOn e).attn.events.count .remoteChange
        (Events.raiseRemoteChange ⟨g, sd, d, h.src⟩))
      have hraised := raiseBeside_remoteChange ((s.heardOn e).changeHome r { r with state := d }) (s.heardOn e).attn.events.count
        ⟨g, sd, d, h.src⟩
      generalize ((s.heardOn e).changeHome r { r with state := d }).raiseBeside _ _ _ = u at hu hraised ⊢
      have ha := aside_sendUnicast (withReply u ⟨h.src, id, g, sd, d, .accepted, stepRevision r.rev⟩) h.srcIdx.toNat
        (.changeReply id 0#8 (stepRevision r.rev))
      refine ⟨?_, ?_, fun _ => ?_, fun he => absurd he hd, ?_, ?_, ?_, ?_⟩
      · rw [ha.home]
        change u.dir.home = _
        rw [hu.home]
        simp [homeReplaced, restated, hd]
      · rw [ha.replies]
        change keepReply u.traffic.replies _ = _
        rw [hu.replies]
        simp [homeReplaced, hd]
      · rw [State.sendUnicast_attn]
        exact hraised
      · exact ha.roll.trans (hu.roll.trans (heardOn_roll s e))
      · exact ha.consist.trans (hu.consist.trans (heardOn_consist s e))
      · exact ha.port.trans (hu.port.trans (heardOn_port s e))
      · exact ha.ctrl.trans (hu.ctrl.trans (heardOn_ctrl s e))
  case changed =>
    intro s e out h id g sd d r hg hu hl hf ho h0 hn hr hx hh hp hd
    have hh' : (s.heardOn e).dir.findHome g sd = some r := by rw [findHome_heardOn]; exact hh
    have hu' : (s.heardOn e).Unbound g := unbound_congr (heardOn_bindings s e) hu
    rw [exec_changeReq_new ⟨hl, hf, ho, h0, hn⟩ hg hx, decideRequest_changed hh' hp hd,
      changeHome_restated hu' (by rw [heardOn_roll]; exact hf.1) hh' hd,
      raiseBeside_calm (by rw [stateChanged_attn]), reply_queued (s := s) (out := out) ?_ ?_ ?_ hr, stateChanged, heardOn_traffic]
    · split <;> cases e <;> rfl
    all_goals
      unfold stateChanged
      split <;> cases e <;> cases out <;> rfl

end Sys2Proof.Machine.RecordProofs
end

section
/-! The parameter readers: each accepts the bytes of its fields in range, laid out in their order, and nothing else. -/

namespace Sys2Proof.Machine.RecordProofs

open RollCallProofs TrainProofs

/-! ## Fields of two and four bytes -/

theorem be32_word (i3 i2 i1 i0 : Byte) : be32 (word i3 i2 i1 i0) = [i3, i2, i1, i0] := by
  simp only [be32, List.cons.injEq, and_true]
  refine ⟨?_, ?_, ?_, ?_⟩ <;>
  · apply BitVec.eq_of_getLsbD_eq
    intro i hi
    simp only [word, BitVec.getLsbD_append, BitVec.getLsbD_setWidth, BitVec.getLsbD_ushiftRight, hi]
    grind

theorem be16_half (a1 a0 : Byte) : be16 (half a1 a0) = [a1, a0] := by
  simp only [be16, List.cons.injEq, and_true]
  refine ⟨?_, ?_⟩ <;>
  · apply BitVec.eq_of_getLsbD_eq
    intro i hi
    simp only [half, BitVec.getLsbD_append, BitVec.getLsbD_setWidth, BitVec.getLsbD_ushiftRight, hi]
    grind

theorem half_be16 (h : Half) : half ((h >>> 8).setWidth 8) (h.setWidth 8) = h := by
  apply BitVec.eq_of_getLsbD_eq
  intro i hi
  simp only [half, BitVec.getLsbD_append, BitVec.getLsbD_setWidth, BitVec.getLsbD_ushiftRight]
  by_cases h1 : i < 8
  · simp [h1]
  · simp [h1, show 8 + (i - 8) = i by omega, show i - 8 < 8 by omega]

/-! ## The readers -/

theorem paramIdentify_eq_some {ps : List Byte} {id : Ident} {c : CabEnd} :
    paramIdentify ps = some (id, c) ↔ id ≠ 0#32 ∧ id ≠ 0xFFFFFFFF#32 ∧ ps = be32 id ++ [c.code] := by
  constructor
  · intro h
    unfold paramIdentify at h
    split at h
    · rename_i i3 i2 i1 i0 cab
      split at h
      · rename_i c' hc
        split at h
        · rename_i hid
          obtain ⟨rfl, rfl⟩ := Prod.mk.inj (Option.some.inj h)
          obtain ⟨h0, h1⟩ := (identOk_iff _).1 hid
          rw [be32_word, ← (CabEnd.ofCode_eq_some _ _).1 hc]
          exact ⟨h0, h1, rfl⟩
        · cases h
      · cases h
    · cases h
  · rintro ⟨h0, h1, rfl⟩
    simp only [be32, List.cons_append, List.nil_append, paramIdentify, (CabEnd.ofCode_eq_some _ c).2 rfl, word_be32,
      (identOk_iff id).2 ⟨h0, h1⟩, if_true]

/-- The bytes of a record in RECORD_OFFER and RECORD_UPDATE (R79). -/
def recordBytes (r : Rec) : List Byte :=
  tagBytes r.tag ++ [r.side.code, r.state.code] ++ be16 r.addr ++ [r.perm.code, byteOf r.attrs.length] ++ r.attrs

theorem paramRecord_eq_some {ps : List Byte} {r : Rec} :
    paramRecord ps = some r ↔ TagOk r.tag ∧ r.attrs.length ≤ 8 ∧ r.rev = 1#16 ∧ ps = recordBytes r := by
  constructor
  · intro h
    unfold paramRecord at h
    split at h
    · rename_i t side state a1 a0 perm rest ht
      split at h
      · rename_i sd st pm attrs hsd hst hpm hattrs
        obtain rfl := Option.some.inj h
        obtain ⟨hg, rfl⟩ := paramTag_eq_some.1 ht
        obtain ⟨ha, rfl⟩ := readAttrs_eq_some.1 hattrs
        rw [(Side.ofCode_eq_some _ _).1 hsd, (RecState.ofCode_eq_some _ _).1 hst, (Permission.ofCode_eq_some _ _).1 hpm]
        exact ⟨hg, ha, rfl, by simp [recordBytes, be16_half]⟩
      · cases h
    · cases h
  · rintro ⟨hg, ha, hr, rfl⟩
    obtain ⟨t, sd, st, addr, rev, pm, attrs⟩ := r
    obtain rfl : rev = 1#16 := hr
    have ht : paramTag (recordBytes ⟨t, sd, st, addr, 1#16, pm, attrs⟩) =
        some (t, sd.code :: st.code :: (addr >>> 8).setWidth 8 :: addr.setWidth 8 :: pm.code ::
          (byteOf attrs.length :: attrs ++ [])) :=
      paramTag_eq_some.2 ⟨hg, by simp [recordBytes, be16]⟩
    simp only [paramRecord, ht, (Side.ofCode_eq_some _ sd).2 rfl, (RecState.ofCode_eq_some _ st).2 rfl,
      (Permission.ofCode_eq_some _ pm).2 rfl, readAttrs_eq_some.2 ⟨ha, rfl⟩, half_be16]

theorem paramTagSide_eq_some {ps : List Byte} {g : Tag} {sd : Side} :
    paramTagSide ps = some (g, sd) ↔ TagOk g ∧ ps = tagBytes g ++ [sd.code] := by
  constructor
  · intro h
    unfold paramTagSide at h
    split at h
    · rename_i t side ht
      split at h
      · rename_i sd' hsd
        obtain ⟨rfl, rfl⟩ := Prod.mk.inj (Option.some.inj h)
        rw [← (Side.ofCode_eq_some _ _).1 hsd]
        exact paramTag_eq_some.1 ht
      · cases h
    · cases h
  · intro h
    simp only [paramTagSide, paramTag_eq_some.2 h, (Side.ofCode_eq_some _ sd).2 rfl]

theorem paramOnlyTag_eq_some {ps : List Byte} {g : Tag} : paramOnlyTag ps = some g ↔ TagOk g ∧ ps = tagBytes g := by
  constructor
  · intro h
    unfold paramOnlyTag at h
    split at h
    · rename_i t ht
      obtain rfl := Option.some.inj h
      simpa using paramTag_eq_some.1 ht
    · cases h
  · rintro ⟨hg, rfl⟩
    have ht : paramTag (tagBytes g) = some (g, []) := paramTag_eq_some.2 ⟨hg, by simp⟩
    simp only [paramOnlyTag, ht]

theorem paramRequest_eq_some {ps : List Byte} {id : Ident} {g : Tag} {sd : Side} {d : RecState} :
    paramRequest ps = some (id, g, sd, d) ↔ id ≠ 0#32 ∧ id ≠ 0xFFFFFFFF#32 ∧ TagOk g ∧ ps = requestBytes id g sd d := by
  constructor
  · intro h
    unfold paramRequest at h
    split at h
    · rename_i i3 i2 i1 i0 bs
      split at h
      · rename_i t side desired ht
        split at h
        · rename_i sd' st hsd hst
          split at h
          · rename_i hid
            cases h
            obtain ⟨hg, rfl⟩ := paramTag_eq_some.1 ht
            obtain ⟨h0, h1⟩ := (identOk_iff _).1 hid
            rw [(Side.ofCode_eq_some _ _).1 hsd, (RecState.ofCode_eq_some _ _).1 hst]
            exact ⟨h0, h1, hg, by simp [requestBytes, be32_word]⟩
          · cases h
        · cases h
      · cases h
    · cases h
  · rintro ⟨h0, h1, hg, rfl⟩
    exact paramRequest_requestBytes hg h0 h1 sd d

theorem byteOf_toNat (b : Byte) : byteOf b.toNat = b := by
  simp [byteOf]

theorem paramSelector_eq_some {ps : List Byte} {sel : Selector} :
    paramSelector ps = some sel ↔ sel.ok = true ∧ ps = sel.data := by
  constructor
  · intro h
    unfold paramSelector at h
    split at h
    · rename_i code
      split at h
      · rename_i hc
        cases h
        exact ⟨rfl, by simpa [Selector.data] using BitVec.eq_of_toNat_eq hc⟩
      · rename_i hc
        cases h
        exact ⟨rfl, by simpa [Selector.data] using BitVec.eq_of_toNat_eq hc⟩
      · cases h
    · rename_i code k
      split at h
      · rename_i hk
        split at h
        · rename_i hc
          cases h
          exact ⟨decide_eq_true hk, by simpa [Selector.data, byteOf_toNat] using BitVec.eq_of_toNat_eq hc⟩
        · rename_i hc
          cases h
          exact ⟨decide_eq_true hk, by simpa [Selector.data, byteOf_toNat] using BitVec.eq_of_toNat_eq hc⟩
        · cases h
      · cases h
    · rename_i code i3 i2 i1 i0
      split at h
      · rename_i hc
        obtain ⟨rfl, hid⟩ := hc
        cases h
        exact ⟨decide_eq_true ((identOk_iff _).1 hid), by simp [Selector.data, be32_word]⟩
      · cases h
    · cases h
  · rintro ⟨hok, rfl⟩
    exact paramSelector_data hok

theorem paramQuestion_eq_some {ps : List Byte} {q : Question} :
    paramQuestion ps = some q ↔ TagOk q.tag ∧ q.sel.ok = true ∧ ps = questionBytes q := by
  constructor
  · intro h
    unfold paramQuestion at h
    split at h
    · rename_i t filter rest ht
      split at h
      · rename_i f sel hf hsel
        obtain rfl := Option.some.inj h
        obtain ⟨hg, rfl⟩ := paramTag_eq_some.1 ht
        obtain ⟨hok, rfl⟩ := paramSelector_eq_some.1 hsel
        rw [(SideFilter.ofCode_eq_some _ _).1 hf]
        exact ⟨hg, hok, by simp [questionBytes]⟩
      · cases h
    · cases h
  · rintro ⟨hg, hok, rfl⟩
    exact paramQuestion_questionBytes hg hok

end Sys2Proof.Machine.RecordProofs
end

section
/-! What the Car Port makes of a write transaction, which blocks it refuses, and what a read shifts out. -/

namespace Sys2Proof.Machine.RecordProofs

open RollCallProofs TrainProofs

/-! ## Blocks -/

theorem half_toNat (h l : Byte) : (half h l).toNat = h.toNat * 256 + l.toNat := by
  have hl := l.isLt
  simp only [half, BitVec.toNat_append]
  rw [← Nat.shiftLeft_add_eq_or_of_lt hl, Nat.shiftLeft_eq]

/-- A block shorter than its head has no length field (R156). -/
theorem checkBlock_short {bs : List Byte} (h : bs.length < 4) (n : Nat) : checkBlock bs n = .framing := by
  unfold checkBlock
  split
  · simp only [List.length_cons] at h
    omega
  · rfl

/-- A block whose length field is above 512 or is not the length of its parameters is badly framed (R156). -/
theorem checkBlock_framing {code tag l1 l0 : Byte} {ps : List Byte} {n : Nat}
    (h : 512 < l1.toNat * 256 + l0.toNat ∨ n - 4 ≠ l1.toNat * 256 + l0.toNat) :
    checkBlock (code :: tag :: l1 :: l0 :: ps) n = .framing := by
  rw [checkBlock, half_toNat]
  exact if_pos h

/-- A block whose length field says how long its parameters are passes the check of framing (R156). -/
theorem checkBlock_framed (code tag : Byte) {ps : List Byte} (h : ps.length ≤ 512) {k : BlockCheck}
    (hk : (if tag = 0#8 then .zeroTag code
      else (Cmd.ofCode code).elim (.unknown code tag) fun c => .command c tag ps) = k) :
    checkBlock (code :: tag :: be16Of ps.length ++ ps) (code :: tag :: be16Of ps.length ++ ps).length = k := by
  rw [← hk]
  simp only [be16Of, be16, List.cons_append, List.nil_append, checkBlock, half_be16Of h]
  rw [if_neg]
  · cases Cmd.ofCode code <;> rfl
  · simp only [List.length_cons, Config.maxParams]
    omega

/-- A code that is no command's (R156). -/
theorem ofCode_eq_none : ∀ {code : Byte}, code ∉ [0x01#8, 0x02#8, 0x03#8, 0x04#8, 0x10#8, 0x11#8, 0x12#8, 0x13#8, 0x20#8, 0x21#8,
    0x30#8, 0x31#8, 0x32#8, 0x33#8, 0x34#8, 0x40#8, 0x48#8, 0x49#8, 0x4A#8, 0x50#8, 0x51#8, 0x52#8, 0x53#8, 0x60#8, 0x61#8,
    0x62#8, 0x63#8] → Cmd.ofCode code = none := by
  decide

/-! ## Transactions -/

/-- The part with a block taken that wakes nothing: the port in flight, its held block and its overrun flag gone (R157). -/
def blockTaken (s : State) (c : InFlight) : State :=
  s.setPort { s.port with state := .inFlight, rxBuffer := [], inFlight := some c, status := none, overrun := false }

theorem blockTaken_done (s : State) (c : InFlight) (st : Status) : (blockTaken s c).done st = s.answered c.tag st [] false :=
  rfl

/-- A write transaction outside IN_FLIGHT has its block taken and judged (R154 to R157). -/
theorem writeTransaction_taken {s : State} {tag : Byte} {bs : List Byte} (hs : s.CanTake tag) (hb : bs ≠ []) :
    s.writeTransaction bs =
      (blockTaken s (checkBlock (bs.take Config.rxBufferMax) bs.length).inFlight).judgeBlock
        (checkBlock (bs.take Config.rxBufferMax) bs.length) := by
  obtain ⟨hr, hp, hd, -⟩ := hs
  have hn : bs.length ≠ 0 := fun h => hb (List.length_eq_zero_iff.1 h)
  have htake (c : InFlight) : (s.fillBuffer bs).takeBlock c = blockTaken s c := by
    unfold State.takeBlock
    dsimp only
    split
    · rename_i h
      exact absurd h hd
    · rfl
    · rfl
  rw [State.writeTransaction, hr, if_neg (by simp), State.releaseSelect, if_neg hn]
  split
  · rename_i h
    exact absurd h hp
  · rw [htake]; rfl
  · rw [htake]; rfl

/-- A block that the port itself refuses is answered under the tag it has been taken with (R156, R160). -/
theorem writeTransaction_refused {s : State} {tag : Byte} {bs : List Byte} {k : BlockCheck} {st : Status} (hs : s.CanTake tag)
    (hb : bs ≠ []) (hk : checkBlock (bs.take Config.rxBufferMax) bs.length = k)
    (hst : ∀ t : State, t.judgeBlock k = t.done st) :
    exec (.writeTransaction bs) s = .next (s.answered k.inFlight.tag st [] false) := by
  change Host.Outcome.next (s.writeTransaction bs) = _
  rw [writeTransaction_taken hs hb, hk, hst, blockTaken_done]

theorem take_framed (code tag : Byte) {ps : List Byte} (h : ps.length ≤ 512) :
    (code :: tag :: be16Of ps.length ++ ps).take Config.rxBufferMax = code :: tag :: be16Of ps.length ++ ps := by
  apply List.take_of_length_le
  simp [be16Of, be16, Config.rxBufferMax]
  omega

/-! ## Host rows -/

/-- A host row is the writing of its command's block (R154, R158). -/
theorem exec_host {i : Instr} {c : Cmd} {tag : Byte} {ps : List Byte} (h : i.hostCmd = some (c, tag, ps)) (s : State) :
    exec i s = .next (s.hostCommand c tag ps) := by
  cases i <;> simp only [Instr.hostCmd, reduceCtorEq, Option.some.injEq, Prod.mk.injEq] at h <;>
    (obtain ⟨rfl, rfl, rfl⟩ := h; rfl)

/-- A host row whose command completes at once is its answer. -/
theorem exec_answered {i : Instr} {c : Cmd} {tag : Byte} {ps : List Byte} {s : State} {st : Status} {x : Bool}
    (h : i.hostCmd = some (c, tag, ps)) (hs : s.CanTake tag) (hn : ps.length ≤ 512)
    (hc : (s.waiting c tag).command c ps = (s.waiting c tag).complete st [] x) :
    exec i s = .next (s.answered tag st [] x) := by
  rw [exec_host h, hostCommand_waiting c hs hn, hc, waiting_complete]

/-- Parameters on a command that takes none (R156). -/
theorem command_parameterless {c : Cmd} {ps : List Byte} (hps : ps ≠ [])
    (hc : c = .getInfo ∨ c = .sleep ∨ c = .partReset ∨ c = .lineStatus ∨ c = .consistRead ∨ c = .rollCall ∨ c = .recordList ∨
      c = .interestClear ∨ c = .bindingScan ∨ c = .eventRead) (s : State) : s.command c ps = s.done .invalidParam := by
  rcases hc with rfl | rfl | rfl | rfl | rfl | rfl | rfl | rfl | rfl | rfl
  · exact if_neg hps
  · exact if_pos hps
  · exact if_neg hps
  · exact if_neg hps
  · exact if_neg hps
  · exact if_pos hps
  · exact if_neg hps
  · exact if_neg hps
  · exact if_neg hps
  · exact if_pos hps

theorem lineEnd_ofCode_eq_none : ∀ b : Byte, b ≠ 0#8 → b ≠ 1#8 → LineEnd.ofCode b = none := by
  decide

theorem paramEnd_eq_none {ps : List Byte} (hps : ps ≠ [0#8] ∧ ps ≠ [1#8]) : paramEnd ps = none := by
  unfold paramEnd
  split
  · rename_i b
    exact lineEnd_ofCode_eq_none b (fun h => hps.1 (by rw [h])) (fun h => hps.2 (by rw [h]))
  · rfl

theorem paramMode_eq_none {ps : List Byte} (hps : ps ≠ [0#8] ∧ ps ≠ [1#8]) : paramMode ps = none := by
  unfold paramMode
  split
  · rename_i b
    split
    · rename_i h
      exact absurd (congrArg (fun x => [x]) (BitVec.eq_of_toNat_eq h)) hps.1
    · rename_i h
      exact absurd (congrArg (fun x => [x]) (BitVec.eq_of_toNat_eq h)) hps.2
    · rfl
  · rfl

/-- A parameter other than one byte 00h or 01h on a command that takes an end or a mode (R156). -/
theorem command_not_a_bit {c : Cmd} {ps : List Byte} (hps : ps ≠ [0#8] ∧ ps ≠ [1#8])
    (hc : c = .lineIsolate ∨ c = .lineRestore ∨ c = .lineUnbar ∨ c = .interestAll) (s : State) :
    s.command c ps = s.done .invalidParam := by
  rcases hc with rfl | rfl | rfl | rfl
  · simp only [State.command, State.cmdLineIsolate, paramEnd_eq_none hps]
  · simp only [State.command, State.cmdLineRestore, paramEnd_eq_none hps]
  · simp only [State.command, State.cmdLineUnbar, paramEnd_eq_none hps]
  · simp only [State.command, State.cmdInterestAll, paramMode_eq_none hps]

theorem paramMask_eq_none {ps : List Byte} (h : ps.length ≠ 2 ∨ 2 ≤ (ps.headD 0#8).toNat) : paramMask ps = none := by
  unfold paramMask
  split
  · rename_i hi lo
    rw [if_neg]
    rw [half_toNat]
    simp at h
    omega
  · rfl

theorem paramView_eq_none {ps : List Byte} (h : ps.length ≠ 2) : paramView ps = none := by
  unfold paramView
  split
  · simp at h
  · rfl

theorem faultKind_ofCode_eq_none : ∀ k : Byte, 5 < k.toNat → FaultKind.ofCode k = none := by
  decide

theorem disposition_ofCode_eq_none : ∀ d : Byte, 2 < d.toNat → Disposition.ofCode d = none := by
  decide

/-- A fault kind or disposition out of range, or ISOLATE for a kind that does not allow it (R173). -/
theorem paramDisposition_eq_none {k d : Byte}
    (h : 5 < k.toNat ∨ 2 < d.toNat ∨ (d = 2#8 ∧ (k = 1#8 ∨ k = 2#8 ∨ k = 3#8))) : paramDisposition [k, d] = none := by
  rcases h with hk | hd | ⟨rfl, rfl | rfl | rfl⟩
  · simp only [paramDisposition, faultKind_ofCode_eq_none k hk]
  · simp only [paramDisposition, disposition_ofCode_eq_none d hd]
    split
    · rename_i h
      cases h
    · rfl
  all_goals rfl

/-- Parameters that are not laid out as their command's are (R156). -/
theorem command_unreadable {c : Cmd} {ps : List Byte}
    (h : (c = .identify ∧ paramIdentify ps = none) ∨ ((c = .recordOffer ∨ c = .recordUpdate) ∧ paramRecord ps = none) ∨
      (c = .recordWithdraw ∧ paramTagSide ps = none) ∨ (c = .interestAdd ∧ paramOnlyTag ps = none) ∨
      (c = .requestState ∧ paramRequest ps = none) ∨ (c = .bind ∧ paramQuestion ps = none)) (s : State) :
    s.command c ps = s.done .invalidParam := by
  rcases h with ⟨rfl, hn⟩ | ⟨rfl | rfl, hn⟩ | ⟨rfl, hn⟩ | ⟨rfl, hn⟩ | ⟨rfl, hn⟩ | ⟨rfl, hn⟩
  · simp only [State.command, State.cmdIdentify, hn]
  · simp only [State.command, State.cmdRecordOffer, hn]
  · simp only [State.command, State.cmdRecordUpdate, hn]
  · simp only [State.command, State.cmdRecordWithdraw, hn]
  · simp only [State.command, State.cmdInterestAdd, hn]
  · simp only [State.command, State.cmdRequestState, hn]
  · simp only [State.command, State.cmdBind, hn]

/-! ## Reads -/

/-- The flags byte as the sum of its bits (The status block). -/
theorem statusFlags_eq (b : StatusBlock) :
    b.flags = byteOf ((if b.attention then 1 else 0) + (if b.overrun then 2 else 0) + (if b.stale then 4 else 0)) := by
  unfold StatusBlock.flags
  cases b.attention <;> cases b.overrun <;> cases b.stale <;> rfl

theorem shiftOut_ready {s : State} {b : StatusBlock} (n : Nat) (hr : s.port.resetInput = false) (hp : s.port.state = .ready)
    (hb : s.port.status = some b) : s.shiftOut 0xC3#8 n = (b.bytes ++ List.replicate n 0#8).take n := by
  simp [State.shiftOut, State.readTransaction, hr, hp, hb]

theorem shiftOut_not_ready {s : State} (n : Nat) (hr : s.port.resetInput = false) (hp : s.port.state ≠ .ready) :
    s.shiftOut 0xC3#8 n = List.replicate n 0xFF#8 := by
  rw [State.shiftOut, hr, if_neg (by simp), if_pos rfl, State.readTransaction, hr, if_neg (by simp)]
  split
  · rename_i h _
    exact absurd h hp
  all_goals rfl

/-! ## The obligation -/

/-- Settles O53: the transaction taken and judged step by step, the laws of the parameter readers, and the bytes of a read. -/
theorem commandBlocksAreJudged : Obligations.CommandBlocksAreJudged := by
  refine ⟨fun s i c tag ps h => ?_, fun s bs hr => ?_, fun s hr => ?_, fun s bs hr hb hp => ?_, fun s bs hs hb hl => ?_,
    fun s code tag l1 l0 ps hs hl => ?_, fun s code ps hs hn => ?_, fun s code tag ps hs hc ht hn => ?_,
    fun s i c tag ps h hs hn hps hc => ?_, fun s i c tag ps h hs hn hps hc => ?_, fun s tag ps hs hn hps => ?_,
    fun s tag ps hs hn hps => ?_, fun s tag k d hs hkd => ?_, fun s i c tag ps h hs hn hps => ?_, fun s tag ps hs hn hq => ?_,
    fun _ _ _ => paramIdentify_eq_some, fun _ _ => paramRecord_eq_some, fun _ _ _ => paramTagSide_eq_some,
    fun _ _ => paramOnlyTag_eq_some, fun _ _ _ _ _ => paramRequest_eq_some, fun _ _ => paramQuestion_eq_some,
    fun s n b hr hp hb => ?_, fun s n hr hp => shiftOut_not_ready n hr hp, fun s access n hr ha => ?_⟩
  · rw [exec_host h]
    rfl
  · exact congrArg Host.Outcome.next (if_pos hr)
  · change Host.Outcome.next (s.writeTransaction []) = _
    rw [State.writeTransaction, hr]
    rfl
  · change Host.Outcome.next (s.writeTransaction bs) = _
    have hst : (s.fillBuffer bs).port.state = .inFlight := hp
    have hn : bs.length ≠ 0 := fun h => hb (List.length_eq_zero_iff.1 h)
    rw [State.writeTransaction, hr, if_neg (by simp), State.releaseSelect, if_neg hn, hst]
    rfl
  · exact writeTransaction_refused hs hb (checkBlock_short (lt_of_le_of_lt (List.length_take_le' _ _) hl) _) fun _ => rfl
  · refine writeTransaction_refused hs (List.cons_ne_nil _ _) (k := .framing) ?_ fun _ => rfl
    exact checkBlock_framing (hl.imp_right (by simpa using ·))
  · refine writeTransaction_refused (k := .zeroTag code) hs (List.cons_ne_nil _ _) ?_ fun _ => rfl
    rw [take_framed code 0#8 hn, checkBlock_framed code 0#8 hn (if_pos rfl)]
  · refine writeTransaction_refused (k := .unknown code tag) hs (List.cons_ne_nil _ _) ?_ fun _ => rfl
    rw [take_framed code tag hn]
    exact checkBlock_framed code tag hn (by rw [if_neg ht, ofCode_eq_none hc]; rfl)
  · exact exec_answered h hs hn (command_parameterless hps hc _)
  · exact exec_answered h hs hn (command_not_a_bit hps hc _)
  · refine exec_answered (i := .eventMask tag ps) rfl hs hn ?_
    simp only [State.command, State.cmdEventMask, paramMask_eq_none hps, State.done_eq_complete]
  · refine exec_answered (i := .viewAck tag ps) rfl hs hn ?_
    simp only [State.command, State.cmdViewAck, paramView_eq_none hps, State.done_eq_complete]
  · refine exec_answered (i := .dispositionSet tag [k, d]) rfl hs (by simp) ?_
    simp only [State.command, State.cmdDispositionSet, paramDisposition_eq_none hkd, State.done_eq_complete]
  · exact exec_answered h hs hn (command_unreadable hps _)
  · refine exec_answered (i := .lookup tag ps) rfl hs hn ?_
    simp only [State.command, State.cmdLookup, hq]
    rfl
  · rw [shiftOut_ready n hr hp hb, StatusBlock.bytes, statusFlags_eq]
    rfl
  · rw [State.shiftOut, hr, if_neg (by simp), if_neg ha]

end Sys2Proof.Machine.RecordProofs
end

section
/-! The host's record commands: a home record offered, changed and withdrawn, room made for it, and its publication. -/

namespace Sys2Proof.Machine.RecordProofs

open RollCallProofs TrainProofs

/-! ## Room made -/

section

variable {s : State} {pre post : List Mirror} {v : Mirror}

/-- The directory with other mirrors. -/
def withMirrors (d : Directory) (l : List Mirror) : Directory :=
  { d with mirrors := l }

/-- The directory with other home records. -/
def withHome (d : Directory) (l : List Rec) : Directory :=
  { d with home := l }

/-- The mirror that goes is the victim of R92. -/
theorem evicts_victim (h : s.Evicts pre v post) : s.dir.victim = some v := by
  obtain ⟨hm, -, -, h0, hpre, hpost⟩ := h
  unfold Directory.victim
  cases hv : v.fresh with
  | stale =>
    have hnone : pre.find? (fun m => decide (m.fresh = .stale ∧ m.pins = 0)) = none := by
      rw [List.find?_eq_none]
      intro m hmem hp
      obtain ⟨hst, hp0⟩ := of_decide_eq_true hp
      have hcur := (hpre m hmem hp0).1
      rw [hst] at hcur
      cases hcur
    rw [hm, List.find?_append, hnone, Option.none_or, 
      List.find?_cons_of_pos (p := fun m : Mirror => decide (m.fresh = .stale ∧ m.pins = 0)) (decide_eq_true ⟨hv, h0⟩)]
  | current =>
    have hunpinned : ∀ m ∈ pre, m.pins ≠ 0 := by
      intro m hmem hp0
      have hst := (hpre m hmem hp0).2
      rw [hv] at hst
      cases hst
    have hnone : (pre ++ v :: post).find? (fun m => decide (m.fresh = .stale ∧ m.pins = 0)) = none := by
      rw [List.find?_eq_none]
      intro m hmem hp
      obtain ⟨hst, hp0⟩ := of_decide_eq_true hp
      rcases List.mem_append.1 hmem with hmem | hmem
      · exact hunpinned m hmem hp0
      · rcases List.mem_cons.1 hmem with rfl | hmem
        · rw [hst] at hv
          cases hv
        · have hcur := hpost hv m hmem hp0
          rw [hst] at hcur
          cases hcur
    have hfirst : pre.find? (fun m => decide (m.pins = 0)) = none := by
      rw [List.find?_eq_none]
      intro m hmem hp
      exact hunpinned m hmem (of_decide_eq_true hp)
    rw [hm, hnone]
    simp [List.find?_append, hfirst, h0]

theorem evicts_full (h : s.Evicts pre v post) : s.dir.hasFreeSlot = false := by
  obtain ⟨-, hfull, -⟩ := h
  simp [Directory.hasFreeSlot, hfull]

theorem evicts_removeMirror (h : s.Evicts pre v post) :
    s.dir.removeMirror v.owner v.body.tag v.body.side = withMirrors s.dir (pre ++ post) := by
  obtain ⟨hm, -, hkey, -⟩ := h
  have hkeep : ∀ m ∈ pre ++ post, (!m.hasKey v.owner v.body.tag v.body.side) = true := by
    intro m hmem
    rw [Mirror.hasKey, decide_eq_false (hkey m hmem)]
    rfl
  have hpre : pre.filter (fun m => !m.hasKey v.owner v.body.tag v.body.side) = pre :=
    List.filter_eq_self.2 fun m hmem => hkeep m (List.mem_append_left _ hmem)
  have hpost : post.filter (fun m => !m.hasKey v.owner v.body.tag v.body.side) = post :=
    List.filter_eq_self.2 fun m hmem => hkeep m (List.mem_append_right _ hmem)
  have hv : (!v.hasKey v.owner v.body.tag v.body.side) = false := by simp [Mirror.hasKey]
  rw [Directory.removeMirror, hm, List.filter_append, hpre, List.filter_cons, hv, if_neg (by simp), hpost]
  rfl

theorem unbound_setDir {g : Tag} (h : s.Unbound g) (d : Directory) : (s.setDir d).Unbound g :=
  unbound_congr rfl h

/-- With a full directory the victim goes, and no binding names its tag (R92). -/
theorem makeRoom_evicts (h : s.Evicts pre v post) (hu : s.Unbound v.body.tag) :
    s.makeRoom = s.setDir (withMirrors s.dir (pre ++ post)) := by
  rw [State.makeRoom, evicts_full h, evicts_victim h, if_neg (by simp)]
  dsimp only
  rw [evicts_removeMirror h, recordChanged_unbound (unbound_setDir hu _)]

theorem hasFreeSlot_of_lt {d : Directory} (h : d.home.length + d.mirrors.length < 256) : d.hasFreeSlot = true :=
  decide_eq_true h

theorem evicts_room (h : s.Evicts pre v post) {d : Directory} (hh : d.home = s.dir.home) (hm : d.mirrors = pre ++ post) :
    d.hasFreeSlot = true := by
  obtain ⟨hmir, hfull, -⟩ := h
  refine hasFreeSlot_of_lt ?_
  rw [hh, hm]
  simp only [hmir, Config.maxRecords, List.length_append, List.length_cons] at hfull ⊢
  omega

end

/-! ## The publication of a home change -/

/-- The frame that tells the other cars of a home change (R104). -/
def changePayload : HomeChange → Payload
  | .created r => .publish r.toBody
  | .updated r => .publish r.toBody
  | .removed t sd => .withdraw t sd.code

variable {s : State}

theorem publishChange_not_formed (hf : s.roll.state ≠ .formed) (c : HomeChange) : s.publishChange c = s :=
  if_pos hf

/-- In FORMED, with no burst, a change is told on every joined end at once (R104). -/
theorem publishChange_calm (hf : s.roll.state = .formed) (hb : s.traffic.burst = false) (c : HomeChange) :
    s.publishChange c = s.queuedJoined ⟨⟨s.consist.ea, s.ownId, 0#8, byteOf s.consist.ownIdx⟩, changePayload c⟩ := by
  rw [← broadcast_eq]
  unfold State.publishChange
  rw [if_neg (not_not_intro hf)]
  cases c <;> simp [changePayload, hb]

/-- The remainder of a burst that goes on (R105). -/
theorem setRemainder_running (hb : s.traffic.burst = true) {l : List (Tag × Side)} (hl : l ≠ []) :
    s.setRemainder l = s.setTraffic { s.traffic with remainder := l } := by
  have he : (!l.isEmpty) = s.traffic.burst := by simpa [hb] using hl
  rw [State.setRemainder, he]

/-- During the burst an offered record joins the tail of its remainder and is not told now (R104). -/
theorem publishChange_created (hf : s.roll.state = .formed) (hb : s.traffic.burst = true) (r : Rec) :
    State.publishChange (.created r) s = s.setTraffic { s.traffic with remainder := s.traffic.remainder ++ [(r.tag, r.side)] } := by
  rw [State.publishChange, if_neg (not_not_intro hf)]
  exact (if_pos hb).trans (setRemainder_running hb (by simp))

/-- During the burst a withdrawn record leaves its remainder, and WITHDRAW is sent (R104). -/
theorem publishChange_removed (hf : s.roll.state = .formed) (hb : s.traffic.burst = true) (t : Tag) (sd : Side) :
    State.publishChange (.removed t sd) s =
      (s.setRemainder (s.traffic.remainder.filter fun k => decide (k ≠ (t, sd)))).queuedJoined
        ⟨⟨s.consist.ea, s.ownId, 0#8, byteOf s.consist.ownIdx⟩, .withdraw t sd.code⟩ := by
  rw [State.publishChange, if_neg (not_not_intro hf)]
  dsimp only
  rw [broadcast_eq]
  exact if_pos hb

/-- What no publication touches. -/
theorem publishChange_rest (c : HomeChange) (s : State) :
    (s.publishChange c).dir = s.dir ∧ (s.publishChange c).attn = s.attn ∧ (s.publishChange c).bindings = s.bindings := by
  refine ⟨?_, ?_, publishChange_bindings c s⟩ <;>
  · unfold State.publishChange
    split
    · rfl
    · cases c <;> dsimp only <;> split <;> simp [State.setRemainder]

/-! ## The commands -/

/-- A frame that tells of a home change, as it is queued on an end (R17, R103). -/
abbrev toldEnd (s : State) (l : LineEndSt) (p : Payload) : LineEndSt :=
  if l.state = .locked then
    { l with dirQ := pushDir l.dirQ ⟨⟨s.consist.ea, s.ownId, 0#8, byteOf s.consist.ownIdx⟩, p⟩ }
  else l

theorem queuedJoined_lineA (s : State) (p : Payload) :
    (s.queuedJoined ⟨⟨s.consist.ea, s.ownId, 0#8, byteOf s.consist.ownIdx⟩, p⟩).lineA = toldEnd s s.lineA p := by
  unfold toldEnd
  by_cases hl : s.lineA.state = .locked <;> simp [State.queuedJoined, hl]

theorem queuedJoined_lineB (s : State) (p : Payload) :
    (s.queuedJoined ⟨⟨s.consist.ea, s.ownId, 0#8, byteOf s.consist.ownIdx⟩, p⟩).lineB = toldEnd s s.lineB p := by
  unfold toldEnd
  by_cases hl : s.lineB.state = .locked <;> simp [State.queuedJoined, hl]

theorem reports_gives {c : Cmd} {tag : Byte} {t : State} (hp : t.port = (s.waiting c tag).port) (data : List Byte) :
    (t.gives data).Reports tag .success data := by
  refine ⟨rfl, rfl, ?_, rfl⟩
  simp [State.gives, State.complete, hp, State.waiting]

/-- The directory is as given, the change is told outside a burst, the command reports SUCCESS with these data, and the rest is as it
was. -/
abbrev Told (s t : State) (d : Directory) (p : Payload) (tag : Byte) (data : List Byte) : Prop :=
  t.dir = d ∧
    (s.roll.state = .formed → s.traffic.burst = false →
      t.lineA = toldEnd s s.lineA p ∧ t.lineB = toldEnd s s.lineB p ∧ t.traffic = s.traffic) ∧
    (s.roll.state ≠ .formed → t.lineA = s.lineA ∧ t.lineB = s.lineB ∧ t.traffic = s.traffic) ∧
    t.roll = s.roll ∧ t.consist = s.consist ∧ t.bindings = s.bindings ∧ t.resolver = s.resolver ∧ t.attn = s.attn ∧
    t.ctrl = s.ctrl ∧ t.Reports tag .success data

/-- A command that changes the directory, tells of it and completes (R80, R82, R83). -/
theorem told_publishChange (s : State) (c : Cmd) (tag : Byte) (d : Directory) (hc : HomeChange) (data : List Byte) :
    Told s ((((s.waiting c tag).setDir d).publishChange hc).gives data) d (changePayload hc) tag data := by
  obtain ⟨hdir, hattn, hbind⟩ := publishChange_rest hc ((s.waiting c tag).setDir d)
  have ha := aside_publishChange hc ((s.waiting c tag).setDir d)
  refine ⟨hdir, fun hf hb => ?_, fun hf => ?_, ha.roll, ha.consist, hbind, ha.resolver, hattn, ha.ctrl,
    reports_gives (s := s) (c := c) ha.port data⟩
  · rw [publishChange_calm (s := (s.waiting c tag).setDir d) hf hb]
    exact ⟨queuedJoined_lineA ((s.waiting c tag).setDir d) _, queuedJoined_lineB ((s.waiting c tag).setDir d) _, rfl⟩
  · rw [publishChange_not_formed (s := (s.waiting c tag).setDir d) hf]
    exact ⟨rfl, rfl, rfl⟩

/-! ### RECORD_OFFER -/

/-- A record as the host offers it, of revision 1 (R79). -/
abbrev offered (r : Rec) : Rec :=
  { r with rev := 1#16 }

theorem paramRecord_recordBytes {r : Rec} (hr : r.Good) : paramRecord (recordBytes r) = some (offered r) := by
  obtain ⟨ht, ha, -⟩ := hr
  exact paramRecord_eq_some.2 ⟨ht, ha, rfl, rfl⟩

theorem length_recordBytes {r : Rec} (hr : r.Good) : (recordBytes r).length ≤ Config.maxParams := by
  obtain ⟨ht, ha, -⟩ := hr
  have := length_tagBytes ht
  simp only [recordBytes, be16, List.length_append, List.length_cons, List.length_nil, Config.maxParams]
  omega

variable {tag : Byte} {r : Rec}

theorem exec_offer (hs : s.CanTake tag) (hr : r.Good) :
    exec (.recordOffer tag (recordBytes r)) s = .next ((s.waiting .recordOffer tag).cmdRecordOffer (recordBytes r)) :=
  congrArg Host.Outcome.next (hostCommand_waiting .recordOffer hs (length_recordBytes hr))

theorem exec_update (hs : s.CanTake tag) (hr : r.Good) :
    exec (.recordUpdate tag (recordBytes r)) s = .next ((s.waiting .recordUpdate tag).cmdRecordUpdate (recordBytes r)) :=
  congrArg Host.Outcome.next (hostCommand_waiting .recordUpdate hs (length_recordBytes hr))

/-- An offer that is taken: room is made, the record joins the tail, and the change is reported (R80). -/
theorem cmdRecordOffer_taken (hr : r.Good) (hp : s.ctrl.part = .ready) (hu : s.Unbound r.tag)
    (hh : s.dir.findHome r.tag r.side = none) (hn : s.dir.home.length < 32) {d : Directory} (hd : s.makeRoom = s.setDir d)
    (hfree : d.hasFreeSlot = true) :
    s.cmdRecordOffer (recordBytes r) =
      ((s.setDir (withHome d (d.home ++ [offered r]))).publishChange (.created (offered r))).gives
        [0#8, 1#8, byteOf (bucketIndex r.tag)] := by
  have hc : ((s.setDir d).setDir ((s.setDir d).dir.addHome (offered r))).homeChanged (.created (offered r)) =
      (s.setDir (withHome d (d.home ++ [offered r]))).publishChange (.created (offered r)) :=
    homeChanged_unbound (c := .created (offered r)) (unbound_setDir (unbound_setDir hu d) _)
  have hfree' : (s.setDir d).dir.hasFreeSlot = true := hfree
  simp only [State.cmdRecordOffer, paramRecord_recordBytes hr, hp, hh, hd, Config.maxHome]
  rw [if_neg (by decide), if_neg (by simp), if_neg (by omega), if_pos hfree', hc]
  rfl

theorem makeRoom_of_free (h : s.dir.hasFreeSlot = true) : s.makeRoom = s :=
  if_pos h

/-! ### RECORD_UPDATE and RECORD_WITHDRAW -/

/-- A record as an update leaves it: the new values, the revision stepped (R81). -/
abbrev updated (r old : Rec) : Rec :=
  { r with rev := stepRevision old.rev }

theorem homeRevision_replaced {old : Rec} (hh : s.dir.findHome r.tag r.side = some old) {u : State}
    (hu : u.dir = (homeReplaced s r.tag r.side (updated r old)).dir) : u.homeRevision r.tag r.side = stepRevision old.rev := by
  have hfound := findHome_replaced (r := updated r old) hh rfl rfl
  rw [← hu] at hfound
  exact homeRevision_of_found hfound

/-- An update that changes a value takes the values in place and reports the change (R81, R82). -/
theorem cmdRecordUpdate_changed {old : Rec} (hr : r.Good) (hp : s.ctrl.part = .ready) (hu : s.Unbound r.tag)
    (hh : s.dir.findHome r.tag r.side = some old) (hne : ({ r with rev := old.rev } : Rec) ≠ old) :
    s.cmdRecordUpdate (recordBytes r) =
      ((homeReplaced s r.tag r.side (updated r old)).publishChange (.updated (updated r old))).gives (be16 (stepRevision old.rev)) := by
  obtain ⟨ht, hsd⟩ := findHome_key hh
  have hc : s.changeHome old (offered r) =
      (homeReplaced s r.tag r.side (updated r old)).publishChange (.updated (updated r old)) := by
    have hu' : (homeReplaced s r.tag r.side (updated r old)).Unbound r.tag := unbound_setDir hu _
    rw [← homeChanged_unbound (c := .updated (updated r old)) hu', State.changeHome, ht, hsd]
    exact if_neg hne
  simp only [State.cmdRecordUpdate, paramRecord_recordBytes hr, hp, hh]
  rw [if_neg (by decide), hc, homeRevision_replaced hh (publishChange_rest _ _).1]

/-- An update that changes nothing (R82). -/
theorem cmdRecordUpdate_same (hr : r.Good) (hp : s.ctrl.part = .ready) (hh : s.dir.findHome r.tag r.side = some r) :
    s.cmdRecordUpdate (recordBytes r) = s.gives (be16 r.rev) := by
  have hc : s.changeHome r (offered r) = s := if_pos rfl
  simp only [State.cmdRecordUpdate, paramRecord_recordBytes hr, hp, hh]
  rw [if_neg (by decide), hc, homeRevision_of_found hh]

theorem exec_withdrawRecord (hs : s.CanTake tag) {g : Tag} (hg : TagOk g) (sd : Side) :
    exec (.recordWithdraw tag (tagBytes g ++ [sd.code])) s =
      .next ((s.waiting .recordWithdraw tag).cmdRecordWithdraw (tagBytes g ++ [sd.code])) := by
  refine congrArg Host.Outcome.next (hostCommand_waiting .recordWithdraw hs ?_)
  have := length_tagBytes hg
  simp only [List.length_append, List.length_cons, List.length_nil, Config.maxParams]
  omega

/-- A withdrawal of a record that is held (R83). -/
theorem cmdRecordWithdraw_held {g : Tag} {sd : Side} (hg : TagOk g) (hp : s.ctrl.part = .ready) (hu : s.Unbound g)
    (hh : s.dir.findHome g sd ≠ none) :
    s.cmdRecordWithdraw (tagBytes g ++ [sd.code]) =
      ((s.setDir (withHome s.dir (s.dir.home.filter fun x => ¬(x.tag = g ∧ x.side = sd)))).publishChange
        (.removed g sd)).gives [] := by
  obtain ⟨x, hx⟩ := Option.ne_none_iff_exists'.1 hh
  have hd : s.dir.removeHome g sd = withHome s.dir (s.dir.home.filter fun x => ¬(x.tag = g ∧ x.side = sd)) := by
    simp [Directory.removeHome, withHome]
  have hu' : (s.setDir (s.dir.removeHome g sd)).Unbound g := unbound_setDir hu _
  simp only [State.cmdRecordWithdraw, paramTagSide_eq_some.2 ⟨hg, rfl⟩, hp, hx]
  rw [if_neg (by decide), homeChanged_unbound (c := .removed g sd) hu', hd]
  rfl

/-- In UNIDENTIFIED the record commands are refused (R79, R82, R83). -/
theorem cmdRecord_unidentified (hr : r.Good) (hp : s.ctrl.part = .unidentified) :
    s.cmdRecordOffer (recordBytes r) = s.done .stateError ∧ s.cmdRecordUpdate (recordBytes r) = s.done .stateError ∧
      s.cmdRecordWithdraw (tagBytes r.tag ++ [r.side.code]) = s.done .stateError := by
  refine ⟨?_, ?_, ?_⟩
  · simp only [State.cmdRecordOffer, paramRecord_recordBytes hr, hp, if_true]
  · simp only [State.cmdRecordUpdate, paramRecord_recordBytes hr, hp, if_true]
  · simp only [State.cmdRecordWithdraw, paramTagSide_eq_some.2 ⟨hr.1, rfl⟩, hp, if_true]

/-! ## The obligation -/

theorem findHome_of_filter {d : Directory} {g : Tag} {sd : Side} {old : Rec}
    (h : d.home.filter (fun x => x.tag = g ∧ x.side = sd) = [old]) : d.findHome g sd = some old := by
  rw [Directory.findHome, ← List.head?_filter, h]
  rfl

theorem cmdRecordOffer_held (hr : r.Good) (hp : s.ctrl.part = .ready) (hh : s.dir.findHome r.tag r.side ≠ none) :
    s.cmdRecordOffer (recordBytes r) = s.done .invalidParam := by
  simp only [State.cmdRecordOffer, paramRecord_recordBytes hr, hp]
  rw [if_neg (by decide), if_pos (Option.isSome_iff_ne_none.2 hh)]

theorem cmdRecordOffer_33rd (hr : r.Good) (hp : s.ctrl.part = .ready) (hh : s.dir.findHome r.tag r.side = none)
    (hn : s.dir.home.length = 32) : s.cmdRecordOffer (recordBytes r) = s.done .noSpace := by
  simp only [State.cmdRecordOffer, paramRecord_recordBytes hr, hp, hh, hn]
  rfl

theorem cmdRecordUpdate_unknown (hr : r.Good) (hp : s.ctrl.part = .ready) (hh : s.dir.findHome r.tag r.side = none) :
    s.cmdRecordUpdate (recordBytes r) = s.done .notFound := by
  simp only [State.cmdRecordUpdate, paramRecord_recordBytes hr, hp, hh]
  rfl

theorem cmdRecordWithdraw_unknown {g : Tag} {sd : Side} (hg : TagOk g) (hp : s.ctrl.part = .ready)
    (hh : s.dir.findHome g sd = none) : s.cmdRecordWithdraw (tagBytes g ++ [sd.code]) = s.done .notFound := by
  simp only [State.cmdRecordWithdraw, paramTagSide_eq_some.2 ⟨hg, rfl⟩, hp, hh]
  rfl

/-- Settles O57: the record commands as a change of the home list and its publication, and the interest commands. -/
theorem recordCommandsOfTheHost : Obligations.RecordCommandsOfTheHost := by
  unfold Obligations.RecordCommandsOfTheHost
  refine ⟨?offer, ?held, ?full, ?update, ?same, ?unknown, ?withdraw, ?notHeld, ?unidentified, ?list, ?add, ?clear, ?all, ?evict,
    ?burstOffer, ?burstUpdate, ?burstWithdraw⟩
  case offer =>
    intro s tag r hs hp hr hu hh hn hfree
    have hroom : (s.waiting .recordOffer tag).makeRoom = (s.waiting .recordOffer tag).setDir s.dir :=
      makeRoom_of_free (hasFreeSlot_of_lt hfree)
    refine ⟨_, ?_, told_publishChange s .recordOffer tag (withHome s.dir (s.dir.home ++ [offered r])) (.created (offered r)) _⟩
    exact (exec_offer hs hr).trans (congrArg Host.Outcome.next
      (cmdRecordOffer_taken (s := s.waiting .recordOffer tag) hr hp (unbound_congr rfl hu) hh hn hroom (hasFreeSlot_of_lt hfree)))
  case held =>
    intro s tag r hs hp hr hh
    exact (exec_offer hs hr).trans (congrArg Host.Outcome.next (cmdRecordOffer_held (s := s.waiting .recordOffer tag) hr hp hh))
  case full =>
    intro s tag r hs hp hr hh hn
    exact (exec_offer hs hr).trans (congrArg Host.Outcome.next (cmdRecordOffer_33rd (s := s.waiting .recordOffer tag) hr hp hh hn))
  case update =>
    intro s tag r old hs hp hr hu hh hne
    refine ⟨_, ?_, told_publishChange s .recordUpdate tag _ (.updated (updated r old)) _⟩
    exact (exec_update hs hr).trans (congrArg Host.Outcome.next
      (cmdRecordUpdate_changed (s := s.waiting .recordUpdate tag) hr hp (unbound_congr rfl hu) (findHome_of_filter hh) hne))
  case same =>
    intro s tag r hs hp hr hh
    exact (exec_update hs hr).trans (congrArg Host.Outcome.next (cmdRecordUpdate_same (s := s.waiting .recordUpdate tag) hr hp hh))
  case unknown =>
    intro s tag r hs hp hr hh
    exact (exec_update hs hr).trans (congrArg Host.Outcome.next (cmdRecordUpdate_unknown (s := s.waiting .recordUpdate tag) hr hp hh))
  case withdraw =>
    intro s tag r hs hp hr hu hh
    refine ⟨_, ?_, told_publishChange s .recordWithdraw tag _ (.removed r.tag r.side) _⟩
    exact (exec_withdrawRecord hs hr.1 r.side).trans (congrArg Host.Outcome.next
      (cmdRecordWithdraw_held (s := s.waiting .recordWithdraw tag) hr.1 hp (unbound_congr rfl hu) hh))
  case notHeld =>
    intro s tag r hs hp hr hh
    exact (exec_withdrawRecord hs hr.1 r.side).trans (congrArg Host.Outcome.next
      (cmdRecordWithdraw_unknown (s := s.waiting .recordWithdraw tag) hr.1 hp hh))
  case unidentified =>
    intro s tag r i hs hp hr hi
    rcases hi with rfl | rfl | rfl
    · exact (exec_offer hs hr).trans (congrArg Host.Outcome.next (cmdRecord_unidentified (s := s.waiting .recordOffer tag) hr hp).1)
    · exact (exec_update hs hr).trans
        (congrArg Host.Outcome.next (cmdRecord_unidentified (s := s.waiting .recordUpdate tag) hr hp).2.1)
    · exact (exec_withdrawRecord hs hr.1 r.side).trans
        (congrArg Host.Outcome.next (cmdRecord_unidentified (s := s.waiting .recordWithdraw tag) hr hp).2.2)
  case list =>
    intro s tag hs
    exact congrArg Host.Outcome.next (hostCommand_waiting .recordList hs (by simp))
  case add =>
    intro s tag g hs hg
    have hn : (tagBytes g).length ≤ Config.maxParams := (length_tagBytes hg).trans (by decide)
    change Host.Outcome.next (s.hostCommand .interestAdd tag (tagBytes g)) = _
    rw [hostCommand_waiting .interestAdd hs hn, State.command, State.cmdInterestAdd, paramOnlyTag_eq_some.2 ⟨hg, rfl⟩]
    rfl
  case clear =>
    intro s tag hs
    exact congrArg Host.Outcome.next (hostCommand_waiting .interestClear hs (by simp))
  case all =>
    intro s tag m hs
    have hm : paramMode [if m then 1#8 else 0#8] = some m := by cases m <;> rfl
    change Host.Outcome.next (s.hostCommand .interestAll tag _) = _
    rw [hostCommand_waiting .interestAll hs (by simp), State.command, State.cmdInterestAll, hm]
    rfl
  case evict =>
    intro s tag r pre post v hs hp hr hu huv hh hn hev
    have hroom : (s.waiting .recordOffer tag).makeRoom = (s.waiting .recordOffer tag).setDir (withMirrors s.dir (pre ++ post)) :=
      makeRoom_evicts (s := s.waiting .recordOffer tag) hev (unbound_congr rfl huv)
    refine ⟨_, ?_, told_publishChange s .recordOffer tag
      (withHome (withMirrors s.dir (pre ++ post)) (s.dir.home ++ [offered r])) (.created (offered r)) _⟩
    exact (exec_offer hs hr).trans (congrArg Host.Outcome.next
      (cmdRecordOffer_taken (s := s.waiting .recordOffer tag) hr hp (unbound_congr rfl hu) hh hn hroom (evicts_room hev rfl rfl)))
  case burstOffer =>
    intro s tag r hs hp hr hu hf hb hh hn hfree
    have hroom : (s.waiting .recordOffer tag).makeRoom = (s.waiting .recordOffer tag).setDir s.dir :=
      makeRoom_of_free (hasFreeSlot_of_lt hfree)
    refine (exec_offer hs hr).trans (congrArg Host.Outcome.next ?_)
    rw [cmdRecordOffer_taken (s := s.waiting .recordOffer tag) hr hp (unbound_congr rfl hu) hh hn hroom (hasFreeSlot_of_lt hfree),
      publishChange_created (by exact hf) (by exact hb)]
    rfl
  case burstUpdate =>
    intro s tag r old hs hp hr hu hf hb hh hne
    refine (exec_update hs hr).trans (congrArg Host.Outcome.next ?_)
    rw [cmdRecordUpdate_changed (s := s.waiting .recordUpdate tag) hr hp (unbound_congr rfl hu) hh hne,
      publishChange_updated (by exact hf)]
    by_cases hk : (r.tag, r.side) ∈ s.traffic.remainder
    · rw [if_pos hk, if_pos (by exact ⟨hb, hk⟩)]
      rfl
    · rw [if_neg hk, if_neg (by exact fun hc => hk hc.2)]
      rfl
  case burstWithdraw =>
    intro s tag r hs hp hr hu hf hb hh
    refine (exec_withdrawRecord hs hr.1 r.side).trans (congrArg Host.Outcome.next ?_)
    rw [cmdRecordWithdraw_held (s := s.waiting .recordWithdraw tag) hr.1 hp (unbound_congr rfl hu) hh,
      publishChange_removed (by exact hf) (by exact hb)]
    have he (l : List (Tag × Side)) : (!l.isEmpty) = decide (l ≠ []) := by cases l <;> rfl
    rw [← he]
    rfl

end Sys2Proof.Machine.RecordProofs
end

section
/-! What the report of a record makes of the bindings: those of its tag re-resolved, the others left alone (R145). -/

namespace Sys2Proof.Machine.RecordProofs

open RollCallProofs TrainProofs

variable {s : State}

/-! ## The bindings of one tag -/

/-- The handles re-resolved one by one by tag are those of the tag, and no others. -/
theorem foldl_reResolveIf_eq (is : List Nat) (his : is ⊆ slots) (g : Tag) (s : State) :
    is.foldl (State.reResolveIf g) s = (is.filter fun i => decide (tagAt (s.slot i) = some g)).foldl State.reResolve s := by
  induction is generalizing s with
  | nil => rfl
  | cons i is ih =>
    have hi : i ∈ slots := his List.mem_cons_self
    have htags : (is.filter fun j => decide (tagAt ((s.reResolveIf g i).slot j) = some g)) =
        is.filter fun j => decide (tagAt (s.slot j) = some g) :=
      List.filter_congr fun j _ => by rw [reResolveIf_tagAt hi]
    rw [List.foldl_cons, ih (fun j hj => his (List.mem_cons_of_mem _ hj)), htags, List.filter_cons]
    have hb := tagAt_slot s i
    unfold State.reResolveIf
    split
    · rename_i b hs
      rw [hs] at hb
      by_cases hg : b.question.tag = g
      · rw [if_pos hg, hb, if_pos (by simp [hg]), List.foldl_cons]
      · rw [if_neg hg, hb, if_neg (by simp [hg])]
    · rename_i hs
      rw [hs] at hb
      rw [hb, if_neg (by simp)]

/-- The handles of a tag hold their bindings rebound as the part `v` sees them, the others what they held in `v`; BINDING_CHANGED is
pending if it was or if some binding's contents differ; and questions are answered as in `v` (R143, R145, R150). -/
structure ReboundAt (g : Tag) (v t : State) : Prop where
  sight : SameSight v t
  slot : ∀ i ∈ slots, t.slot i = if tagAt (v.slot i) = some g then reboundSlot v (v.slot i) else v.slot i
  changed : t.attn.events.bindingChanged =
    (v.attn.events.bindingChanged || (slots.filter fun i => decide (tagAt (v.slot i) = some g)).any fun i => slotChanges v (v.slot i))
  port : t.port = v.port
  resolver : t.resolver = v.resolver

theorem reboundAt_recordChanged (hn : KeysNodup s.dir) (g : Tag) : ReboundAt g s (s.recordChanged g) := by
  have hb := s.rebinds_recordChanged g
  have hlt : ∀ i ∈ slots.filter fun i => decide (tagAt (s.slot i) = some g), i < Config.maxHandles :=
    fun i hi => mem_slots.1 (List.mem_of_mem_filter hi)
  obtain ⟨hslot, hchanged⟩ := foldl_reResolve_handles (slots_nodup.filter _) hlt hn
  have hstart := sameHandles_startBackground (slots.foldl (State.reResolveIf g) s)
  refine ⟨sameSight_recordChanged hn g, fun i hi => ?_, ?_, hb.port, hb.resolver⟩
  · rw [State.recordChanged, hstart.slot, foldl_reResolveIf_eq slots (fun _ h => h), hslot]
    simp [hi]
  · rw [State.recordChanged, hstart.attn, foldl_reResolveIf_eq slots (fun _ h => h), hchanged]

/-- Work beside the Binding Table: what is seen, the handles, the events, the port and the Resolver are left alone. -/
structure Beside (s t : State) : Prop where
  sight : SameSight s t
  handles : SameHandles s t
  port : t.port = s.port
  resolver : t.resolver = s.resolver

theorem Beside.trans {s t u : State} (h : Beside s t) (k : Beside t u) : Beside s u :=
  ⟨h.sight.trans k.sight, h.handles.trans k.handles, k.port.trans h.port, k.resolver.trans h.resolver⟩

theorem ReboundAt.beside {g : Tag} {v t u : State} (h : ReboundAt g v t) (k : Beside t u) : ReboundAt g v u :=
  ⟨h.sight.trans k.sight, fun i hi => by rw [k.handles.slot, h.slot i hi], by rw [k.handles.attn, h.changed],
    k.port.trans h.port, k.resolver.trans h.resolver⟩

theorem ReboundAt.of_beside {g : Tag} {v w t : State} (hn : KeysNodup v.dir) (k : Beside v w) (h : ReboundAt g w t) :
    ReboundAt g v t := by
  refine ⟨k.sight.trans h.sight, fun i hi => ?_, ?_, h.port.trans k.port, h.resolver.trans k.resolver⟩
  · rw [h.slot i hi, k.handles.slot, k.sight.reboundSlot hn]
  · rw [h.changed, k.handles.attn, k.sight.slotChanges hn]
    simp only [k.handles.slot]

/-- A directory changed and the change reported: the bindings of the tag are those of `s`, re-resolved as the part now stands. -/
theorem ReboundAt.rebound {g : Tag} {d : Directory} {t : State} (hn : KeysNodup d) (h : ReboundAt g (s.setDir d) t) :
    s.Rebound t fun x => decide (x = g) := by
  have hslots (i : Nat) : (s.setDir d).slot i = s.slot i := rfl
  refine ⟨fun i hi => ?_, ?_⟩
  · rw [h.slot i hi, ← h.sight.reboundSlot hn, hslots]
    cases hs : s.slot i with
    | held b => by_cases hg : b.question.tag = g <;> simp [tagAt, reboundSlot, hg]
    | reserved q => rfl
    | free => rfl
  · rw [h.changed, ← h.sight.slotChanges hn, List.any_filter]
    refine congrArg (s.attn.events.bindingChanged || ·) (congrArg (slots.any ·) (funext fun i => ?_))
    rw [hslots]
    unfold State.binding
    cases hs : s.slot i with
    | held b => by_cases hg : b.question.tag = g <;> simp [tagAt, slotChanges, hg]
    | reserved q => rfl
    | free => rfl

end Sys2Proof.Machine.RecordProofs
end

section
/-! PUBLISH and WITHDRAW received: taken into the directory and passed on (R85 to R92, R101). -/

namespace Sys2Proof.Machine.RecordProofs

open RollCallProofs TrainProofs

/-! ## From the line to the directory and on -/

/-- The conditions under which a broadcast from a car of the roster is taken (R100, R101). -/
structure Spreads (s : State) (e : LineEnd) (h : Header) : Prop where
  locked : (s.lineEnd e).state = .locked
  car : s.FromCar h
  dst : h.dst = 0#8

variable {s : State} {e : LineEnd} {h : Header}

theorem receive_broadcast (hs : Spreads s e h) (p : Payload) (here : State → State) :
    (s.receive e fun s => s.takeBroadcast e ⟨h, p⟩ here) = eitherOrder here (fun s => s.passOn e ⟨h, p⟩) (s.heardOn e) := by
  rw [receive_locked hs.locked, State.takeBroadcast, accepts_of_fromCar ((fromCar_heardOn e).2 hs.car)]
  exact if_pos (by simpa using hs.dst)

theorem passOn_eq (s : State) (e : LineEnd) (f : Frame) :
    s.passOn e f = if (s.lineEnd e.other).state = .locked then s.queuedDir e.other f else s := by
  unfold State.passOn State.joined
  by_cases hl : (s.lineEnd e.other).state = .locked
  · rw [if_pos (decide_eq_true hl), if_pos hl, State.offerDir, State.updEnd, offerDir_eq, if_pos hl]
    rfl
  · rw [if_neg (by simpa using hl), if_neg hl]

/-- The part with another directory and another event set. -/
def restored (s : State) (d : Directory) (f : Events → Events) : State :=
  (s.setDir d).raise f

/-- A broadcast whose taking changes the directory and the event set alone is passed on unchanged, in whichever order (R101). -/
theorem broadcast_restored {f : Frame} {here : State → State} {d : Directory} {ev : Events → Events}
    (hh : ∀ u : State, u.dir = s.dir → u.bindings = s.bindings → u.attn = s.attn → here u = restored u d ev) :
    eitherOrder here (fun s => s.passOn e f) (s.heardOn e) =
      if (s.lineEnd e.other).state = .locked then ((restored s d ev).heardOn e).queuedDir e.other f
      else (restored s d ev).heardOn e := by
  have hother (u : State) (hu : (u.lineEnd e.other).state = ((s.heardOn e).lineEnd e.other).state) :
      u.passOn e f = if (s.lineEnd e.other).state = .locked then u.queuedDir e.other f else u := by
    rw [passOn_eq, hu, heardOn_state]
  have hfirst : here (s.heardOn e) = restored (s.heardOn e) d ev :=
    hh _ (heardOn_dir s e) (heardOn_bindings s e) (by rw [heardOn_attn])
  have hpassed : (restored (s.heardOn e) d ev).passOn e f =
      if (s.lineEnd e.other).state = .locked then ((restored s d ev).heardOn e).queuedDir e.other f
      else (restored s d ev).heardOn e := by
    rw [hother _ (by cases e <;> rfl)]
    split <;> cases e <;> rfl
  have hsecond : here ((s.heardOn e).passOn e f) = (restored (s.heardOn e) d ev).passOn e f := by
    rw [hh, hother _ rfl, hpassed]
    · split <;> cases e <;> rfl
    all_goals
      rw [hother _ rfl]
      split <;> cases e <;> rfl
  rw [eitherOrder_of_comm, hfirst, hpassed]
  rw [hfirst, hsecond]

/-- Passing on is work beside the Binding Table, as is the choice of an order. -/
theorem beside_passOn (s : State) (e : LineEnd) (f : Frame) : Beside s (s.passOn e f) := by
  rw [passOn_eq]
  split <;> cases e <;> exact ⟨⟨rfl, rfl, rfl, rfl, .refl _⟩, ⟨rfl, rfl⟩, rfl, rfl⟩

theorem beside_eitherOrder (f g : State → State) (s : State) : Beside (g (f s)) (eitherOrder f g s) := by
  unfold eitherOrder
  dsimp only
  split <;> exact ⟨⟨rfl, rfl, rfl, rfl, .refl _⟩, ⟨rfl, rfl⟩, rfl, rfl⟩

/-- A broadcast whose taking changes the directory and reports the change (R145). -/
theorem broadcast_reported {f : Frame} {here : State → State} {d : Directory} {g : Tag} (hn : KeysNodup d)
    (hh : here (s.heardOn e) = ((s.heardOn e).setDir d).recordChanged g) :
    ReboundAt g (s.setDir d) (eitherOrder here (fun s => s.passOn e f) (s.heardOn e)) := by
  have hheard : Beside (s.setDir d) ((s.heardOn e).setDir d) := by
    cases e <;> exact ⟨⟨rfl, rfl, rfl, rfl, .refl _⟩, ⟨rfl, rfl⟩, rfl, rfl⟩
  have hrep : ReboundAt g (s.setDir d) (here (s.heardOn e)) := by
    rw [hh]
    exact .of_beside hn hheard (reboundAt_recordChanged (s := (s.heardOn e).setDir d) hn g)
  exact hrep.beside ((beside_passOn _ e f).trans (beside_eitherOrder here (fun s => s.passOn e f) _))

/-! ## The directory taken -/

/-- The mirrors of a directory that have not this key. -/
abbrev others (d : Directory) (o : Ident) (r : Rec) : List Mirror :=
  d.mirrors.filter fun x => ¬(x.owner = o ∧ x.body.tag = r.tag ∧ x.body.side = r.side)

theorem removeMirror_eq (d : Directory) (o : Ident) (r : Rec) :
    d.removeMirror o r.tag r.side = withMirrors d (others d o r) := by
  have hp : (fun m : Mirror => !m.hasKey o r.tag r.side) = fun m => decide ¬(m.owner = o ∧ m.body.tag = r.tag ∧ m.body.side = r.side) := by
    funext m
    rw [Mirror.hasKey, decide_not]
  rw [Directory.removeMirror, hp]
  rfl

theorem others_of_none {d : Directory} {o : Ident} {r : Rec} (h : d.findMirror o r.tag r.side = none) : others d o r = d.mirrors := by
  refine List.filter_eq_self.2 fun m hm => ?_
  exact decide_eq_true fun hk => List.find?_eq_none.1 h m hm (decide_eq_true hk)

theorem goodBody_toBody {r : Rec} (hr : r.Good) : goodBody r.toBody = some r := by
  obtain ⟨ht, -, hv⟩ := hr
  simp only [goodBody, Rec.toBody, (Side.ofCode_eq_some _ r.side).2 rfl, (RecState.ofCode_eq_some _ r.state).2 rfl,
    (Permission.ofCode_eq_some _ r.perm).2 rfl]
  exact if_pos ⟨all_tagByteOk.2 ht.2.2, hv⟩

variable {r : Rec} {m : Mirror}

/-- A mirror taken from a body, as it stands at the most recent end (R87, R88). -/
abbrev mirrored (h : Header) (r : Rec) (pins : Nat) : Mirror :=
  ⟨h.src, r, .current, pins⟩

theorem takePublished_held (hr : r.Good) (hm : s.dir.findMirror h.src r.tag r.side = some m) :
    s.takePublished h.src r.toBody =
      (s.setDir (withMirrors s.dir (others s.dir h.src r ++ [mirrored h r m.pins]))).recordChanged r.tag := by
  obtain ⟨ho, -, -⟩ := Directory.findMirror_key hm
  simp only [State.takePublished, goodBody_toBody hr, hm]
  rw [updateMirror_eq, ho, removeMirror_eq]
  rfl

theorem takePublished_new (hr : r.Good) (hm : s.dir.findMirror h.src r.tag r.side = none)
    (hi : s.dir.allMode = true ∨ s.dir.interested r.tag = true ∨ s.namesTag r.tag = true) :
    s.takePublished h.src r.toBody = s.storeMirror h.src r := by
  simp only [State.takePublished, goodBody_toBody hr, hm]
  exact if_pos (by simpa [or_assoc] using hi)

theorem storeMirror_of_free (hf : s.dir.hasFreeSlot = true) (o : Ident) (r : Rec) :
    s.storeMirror o r = (s.setDir (withMirrors s.dir (s.dir.mirrors ++ [⟨o, r, .current, 0⟩]))).recordChanged r.tag := by
  have hg : s.dir.givenUp = none := if_pos hf
  rw [State.storeMirror, hg, makeRoom_of_free hf]
  exact addMirror_of_free hf o r

theorem takePublished_ignored (hr : r.Good) (hm : s.dir.findMirror h.src r.tag r.side = none) (ha : s.dir.allMode = false)
    (hi : s.dir.interested r.tag = false) (hu : s.namesTag r.tag = false) : s.takePublished h.src r.toBody = s := by
  simp only [State.takePublished, goodBody_toBody hr, hm, ha, hi, hu]
  rfl

theorem takeWithdrawn_held {o : Ident} (ht : TagOk r.tag) (hm : (s.dir.findMirror o r.tag r.side).isSome = true) :
    s.takeWithdrawn o r.tag r.side.code = (s.setDir (withMirrors s.dir (others s.dir o r))).recordChanged r.tag := by
  obtain ⟨m, hm⟩ := Option.isSome_iff_exists.1 hm
  simp only [State.takeWithdrawn, (Side.ofCode_eq_some _ r.side).2 rfl, hm, removeMirror_eq]
  exact if_pos (all_tagByteOk.2 ht.2.2)

theorem takeWithdrawn_none {o : Ident} (hm : s.dir.findMirror o r.tag r.side = none) : s.takeWithdrawn o r.tag r.side.code = s := by
  simp only [State.takeWithdrawn, (Side.ofCode_eq_some _ r.side).2 rfl, hm]
  exact ite_self s

/-- A new key stored in a full directory: the victim goes, and DIRECTORY_FULL is raised if it was CURRENT (R88, R92). -/
theorem storeMirror_evicts {pre post : List Mirror} {v : Mirror} (hev : s.Evicts pre v post) (hu : s.Unbound r.tag)
    (huv : s.Unbound v.body.tag) (o : Ident) :
    s.storeMirror o r = restored s (withMirrors s.dir (pre ++ post ++ [⟨o, r, .current, 0⟩]))
      fun ev => if v.fresh = .current then ev.raiseDirectoryFull v.body.tag else ev := by
  have hroom : s.makeRoom.addMirror o r = s.setDir (withMirrors s.dir (pre ++ post ++ [⟨o, r, .current, 0⟩])) := by
    have hfree : (s.setDir (withMirrors s.dir (pre ++ post))).dir.hasFreeSlot = true := evicts_room hev rfl rfl
    rw [makeRoom_evicts hev huv, addMirror_of_free hfree]
    exact recordChanged_unbound (unbound_setDir (unbound_setDir hu _) _)
  rw [State.storeMirror, hroom, Directory.givenUp, evicts_full hev, evicts_victim hev, Option.bind_some, if_neg (by simp)]
  by_cases hv : v.fresh = .current
  · simp only [hv, if_true]
    exact raiseBeside_calm (Nat.le_refl _) _ _
  · simp only [hv, if_false]
    rfl

/-! ## The clauses -/

theorem exec_publish (hs : Spreads s e h) (hr : r.Good) :
    exec (.publish e h r.toBody) s =
      .next (eitherOrder (fun s => s.takePublished h.src r.toBody) (fun s => s.passOn e ⟨h, .publish r.toBody⟩) (s.heardOn e)) := by
  have hv : (⟨h, .publish r.toBody⟩ : Frame).valid = true := by
    simp [Frame.valid, Payload.valid, RecordBody.lengthsOk, Rec.toBody, tagLenOk_of_tagOk hr.1, hr.2.1]
  change Host.Outcome.next (s.receiveFrame e _) = _
  rw [State.receiveFrame, if_pos hv]
  exact congrArg Host.Outcome.next (receive_broadcast hs _ _)

theorem exec_withdraw (hs : Spreads s e h) (ht : TagOk r.tag) :
    exec (.withdraw e h r.tag r.side.code) s =
      .next (eitherOrder (fun s => s.takeWithdrawn h.src r.tag r.side.code) (fun s => s.passOn e ⟨h, .withdraw r.tag r.side.code⟩)
        (s.heardOn e)) := by
  have hv : (⟨h, .withdraw r.tag r.side.code⟩ : Frame).valid = true := tagLenOk_of_tagOk ht
  change Host.Outcome.next (s.receiveFrame e _) = _
  rw [State.receiveFrame, if_pos hv]
  exact congrArg Host.Outcome.next (receive_broadcast hs _ _)

/-- A report about a tag that no binding names, in a part with the bindings of `s`. -/
theorem recordChanged_restored {u : State} {g : Tag} (hu : s.Unbound g) (hb : u.bindings = s.bindings) (d : Directory) :
    (u.setDir d).recordChanged g = restored u d id :=
  recordChanged_unbound (unbound_setDir (unbound_congr hb hu) d)

theorem restored_same {u : State} {d : Directory} (h : u.dir = d) : u = restored u d id := by
  subst h
  rfl

theorem keysNodup_withMirrors {d : Directory} (hn : KeysNodup d) (h : Header) (r : Rec) (n : Nat) :
    KeysNodup (withMirrors d (others d h.src r ++ [mirrored h r n])) := by
  have hk := keysNodup_append (keysNodup_removeMirror hn h.src r.tag r.side) (m := mirrored h r n) (removeMirror_not_holds d _ _ _)
  rwa [removeMirror_eq] at hk

/-- Settles O48: what becomes of the mirror, with the report of it where bindings name its tag, and the frame passed on. -/
theorem broadcastsTaken : Obligations.BroadcastsTaken := by
  unfold Obligations.BroadcastsTaken
  refine ⟨?held, ?new, ?ignored, ?withdrawn, ?unknown, ?evict, ?publishBound, ?withdrawBound⟩
  case held =>
    intro s e h r m hr hu hl hf hd hm
    rw [exec_publish ⟨hl, hf, hd⟩ hr, broadcast_restored fun u hdir hb _ => by
      rw [takePublished_held hr (by rw [hdir]; exact hm), recordChanged_restored hu hb, hdir]]
    rfl
  case new =>
    intro s e h r hr hu hl hf hd hm hi hfree
    rw [exec_publish ⟨hl, hf, hd⟩ hr, broadcast_restored fun u hdir hb _ => by
      rw [takePublished_new hr (by rw [hdir]; exact hm) (by rw [hdir, ← or_assoc]; exact .inl hi),
        storeMirror_of_free (by rw [hdir]; exact hasFreeSlot_of_lt hfree), recordChanged_restored hu hb, hdir]]
    rfl
  case ignored =>
    intro s e h r hr hu hl hf hd hm ha hi
    rw [exec_publish ⟨hl, hf, hd⟩ hr, broadcast_restored fun u hdir hb _ => by
      rw [takePublished_ignored hr (by rw [hdir]; exact hm) (by rw [hdir]; exact ha) (by rw [hdir]; exact hi)
        (unbound_congr hb hu).1]
      exact restored_same hdir]
    rfl
  case withdrawn =>
    intro s e h r ht hu hl hf hd hm
    have hm' : (s.dir.findMirror h.src r.tag r.side).isSome = true := by
      rw [Directory.findMirror, List.find?_isSome]
      obtain ⟨m, hmem⟩ := List.exists_mem_of_ne_nil _ hm
      obtain ⟨hmem, hk⟩ := List.mem_filter.1 hmem
      exact ⟨m, hmem, hk⟩
    rw [exec_withdraw ⟨hl, hf, hd⟩ ht, broadcast_restored fun u hdir hb _ => by
      rw [takeWithdrawn_held ht (by rw [hdir]; exact hm'), recordChanged_restored hu hb, hdir]]
    rfl
  case unknown =>
    intro s e h r ht hl hf hd hm
    rw [exec_withdraw ⟨hl, hf, hd⟩ ht, broadcast_restored fun u hdir hb _ => by
      rw [takeWithdrawn_none (by rw [hdir]; exact hm)]
      exact restored_same hdir]
    rfl
  case evict =>
    intro s e h r pre post v hr hu huv hl hf hd hm hi hev
    rw [exec_publish ⟨hl, hf, hd⟩ hr, broadcast_restored fun u hdir hb _ => by
      rw [takePublished_new hr (by rw [hdir]; exact hm) (by rw [hdir, ← or_assoc]; exact .inl hi),
        storeMirror_evicts (by rw [State.Evicts, hdir]; exact hev) (unbound_congr hb hu) (unbound_congr hb huv), hdir]]
    rfl
  case publishBound =>
    intro s e h r hr hn hl hf hd hkept
    obtain ⟨n, htake⟩ : ∃ n, (s.heardOn e).takePublished h.src r.toBody =
        ((s.heardOn e).setDir (withMirrors s.dir (others s.dir h.src r ++ [mirrored h r n]))).recordChanged r.tag := by
      have hdir := heardOn_dir s e
      cases hm : s.dir.findMirror h.src r.tag r.side with
      | some m => exact ⟨m.pins, by rw [takePublished_held hr (by rw [hdir]; exact hm), hdir]⟩
      | none =>
        obtain ⟨hi, hfree⟩ := hkept.resolve_left (by simp [hm])
        have hnames : (s.heardOn e).namesTag r.tag = s.namesTag r.tag := by cases e <;> rfl
        refine ⟨0, ?_⟩
        rw [takePublished_new hr (by rw [hdir]; exact hm) (by rw [hdir, hnames]; exact hi),
          storeMirror_of_free (by rw [hdir]; exact hasFreeSlot_of_lt hfree), others_of_none hm, hdir]
    have hkeys := keysNodup_withMirrors hn h r n
    have hre := broadcast_reported (s := s) (e := e) (f := ⟨h, .publish r.toBody⟩)
      (here := fun s => s.takePublished h.src r.toBody) (g := r.tag) hkeys htake
    refine ⟨_, exec_publish ⟨hl, hf, hd⟩ hr, hre.rebound hkeys, ?_, hre.sight.home, hre.sight.roll, hre.sight.consist, hre.port,
      hre.resolver⟩
    refine hre.sight.mirrors.trans (.of_eq ?_)
    exact List.map_append
  case withdrawBound =>
    intro s e h r ht hn hl hf hd hm
    have htake : (s.heardOn e).takeWithdrawn h.src r.tag r.side.code =
        ((s.heardOn e).setDir (withMirrors s.dir (others s.dir h.src r))).recordChanged r.tag := by
      rw [takeWithdrawn_held ht (by rw [heardOn_dir]; exact hm), heardOn_dir]
    have hkeys : KeysNodup (withMirrors s.dir (others s.dir h.src r)) := by
      rw [← removeMirror_eq]
      exact keysNodup_removeMirror hn _ _ _
    have hre := broadcast_reported (s := s) (e := e) (f := ⟨h, .withdraw r.tag r.side.code⟩)
      (here := fun s => s.takeWithdrawn h.src r.tag r.side.code) (g := r.tag) hkeys htake
    exact ⟨_, exec_withdraw ⟨hl, hf, hd⟩ ht, hre.rebound hkeys, hre.sight.mirrors, hre.sight.home, hre.sight.roll,
      hre.sight.consist, hre.port, hre.resolver⟩

end Sys2Proof.Machine.RecordProofs
end

section
/-! An ANSWER received: its bodies stored, and the query it ends (R89, R109, R128, R139, R148). -/

namespace Sys2Proof.Machine.RecordProofs

open RollCallProofs TrainProofs

/-! ## A new mirror at the most recent end -/

section

variable {d : Directory} {m : Mirror}

theorem findMirror_putLast (h : d.findMirror m.owner m.body.tag m.body.side = none) :
    (putLast d m).findMirror m.owner m.body.tag m.body.side = some m := by
  unfold Directory.findMirror at *
  rw [putLast, List.find?_append, h]
  simp [Mirror.hasKey]

theorem removeMirror_putLast (h : d.findMirror m.owner m.body.tag m.body.side = none) :
    (putLast d m).removeMirror m.owner m.body.tag m.body.side = d := by
  have hd : d.mirrors.filter (fun x => !x.hasKey m.owner m.body.tag m.body.side) = d.mirrors :=
    List.filter_eq_self.2 fun x hx => by simpa using List.find?_eq_none.1 h x hx
  have hm : [m].filter (fun x => !x.hasKey m.owner m.body.tag m.body.side) = [] := by simp [Mirror.hasKey]
  have hl : (putLast d m).mirrors.filter (fun x => !x.hasKey m.owner m.body.tag m.body.side) = d.mirrors := by
    rw [putLast, List.filter_append, hd, hm, List.append_nil]
  rw [Directory.removeMirror, hl]
  rfl

theorem touch_putLast (h : d.findMirror m.owner m.body.tag m.body.side = none) :
    (putLast d m).touch m.owner m.body.tag m.body.side = putLast d m := by
  have hr : (putLast d m).mirrors.filter (fun x => !x.hasKey m.owner m.body.tag m.body.side) = d.mirrors :=
    congrArg Directory.mirrors (removeMirror_putLast h)
  rw [Directory.touch, findMirror_putLast h]
  dsimp only
  rw [hr]
  rfl

/-- A pin put on the new mirror (R151). -/
theorem movePin_putLast (h : d.findMirror m.owner m.body.tag m.body.side = none) :
    (putLast d m).movePin none (some (m.owner, m.body.tag, m.body.side)) = putLast d { m with pins := m.pins + 1 } := by
  have hd : d.mirrors.map (fun x => if x.hasKey m.owner m.body.tag m.body.side then { x with pins := x.pins + 1 } else x) = d.mirrors :=
    (List.map_congr_left (g := id) fun x hx => if_neg (List.find?_eq_none.1 h x hx)).trans (List.map_id _)
  have hm : m.hasKey m.owner m.body.tag m.body.side = true := by simp [Mirror.hasKey]
  rw [Directory.movePin, if_neg (by simp)]
  simp only [Directory.repin, putLast, List.map_append, hd, List.map_cons, List.map_nil, hm, if_true]

end

/-! ## Bodies of one key stored -/

variable {s : State}

/-- Good records of one key, as an ANSWER may carry them. -/
structure OneKey (g : Tag) (sd : Side) (l : List Rec) : Prop where
  good : ∀ x ∈ l, x.Good
  tag : ∀ x ∈ l, x.tag = g
  side : ∀ x ∈ l, x.side = sd

theorem filterMap_goodBody {g : Tag} {sd : Side} {l : List Rec} (h : OneKey g sd l) :
    (l.map Rec.toBody).filterMap goodBody = l := by
  have hg : ∀ x ∈ l, goodBody x.toBody = some x := fun x hx => goodBody_toBody (h.good x hx)
  rw [List.filterMap_map]
  exact (List.filterMap_congr hg).trans List.filterMap_some

theorem storeAnswer_append (s : State) (o : Ident) (bs : List RecordBody) (r : Rec) (hr : r.Good) :
    s.storeAnswer o (bs ++ [r.toBody]) = (s.storeAnswer o bs).keepBody o r := by
  simp [State.storeAnswer, List.filterMap_append, goodBody_toBody hr, List.foldl_append]

/-- Bodies of one new key leave one mirror, that of the last of them (R88, R89). -/
theorem storeAnswer_oneKey {g : Tag} {sd : Side} {pre : List Rec} {r : Rec} {o : Ident} (hl : OneKey g sd (pre ++ [r]))
    (hu : s.Unbound g) (hn : s.dir.findMirror o g sd = none) (hf : s.dir.hasFreeSlot = true) :
    s.storeAnswer o ((pre ++ [r]).map Rec.toBody) = s.setDir (putLast s.dir ⟨o, r, .current, 0⟩) := by
  induction pre using List.reverseRecOn generalizing r with
  | nil =>
    obtain rfl : r.tag = g := hl.tag r (by simp)
    obtain rfl : r.side = sd := hl.side r (by simp)
    have hk : s.keepBody o r = s.storeMirror o r := by rw [State.keepBody, hn]
    have hs := storeAnswer_append s o [] r (hl.good r (by simp))
    change s.storeAnswer o [r.toBody] = _
    rw [List.nil_append] at hs
    rw [hs]
    change s.keepBody o r = _
    rw [hk, storeMirror_of_free hf]
    exact recordChanged_unbound (unbound_setDir hu _)
  | append_singleton pre x ih =>
    have hx : OneKey g sd (pre ++ [x]) := ⟨fun y hy => hl.good y (List.mem_append_left _ hy),
      fun y hy => hl.tag y (List.mem_append_left _ hy), fun y hy => hl.side y (List.mem_append_left _ hy)⟩
    obtain rfl : x.tag = g := hx.tag x (by simp)
    obtain rfl : x.side = sd := hx.side x (by simp)
    have ht : r.tag = x.tag := hl.tag r (by simp)
    have hsd : r.side = x.side := hl.side r (by simp)
    have hfound : (s.setDir (putLast s.dir ⟨o, x, .current, 0⟩)).dir.findMirror o r.tag r.side = some ⟨o, x, .current, 0⟩ := by
      rw [ht, hsd]
      exact findMirror_putLast (m := ⟨o, x, .current, 0⟩) hn
    have hremoved : (putLast s.dir ⟨o, x, .current, 0⟩).removeMirror o r.tag r.side = s.dir := by
      rw [ht, hsd]
      exact removeMirror_putLast (m := ⟨o, x, .current, 0⟩) hn
    rw [List.map_append, List.map_singleton, storeAnswer_append s o _ r (hl.good r (by simp)), ih hx, State.keepBody, hfound]
    dsimp only
    rw [updateMirror_eq]
    change ((s.setDir _).setDir (putLast ((putLast s.dir ⟨o, x, .current, 0⟩).removeMirror o r.tag r.side) _)).recordChanged r.tag = _
    rw [hremoved, ht]
    exact recordChanged_unbound (unbound_setDir (unbound_setDir hu _) _)

/-! ## The record chosen -/

theorem answerCandidates_oneKey {q : ForegroundQuery} {sd : Side} {l : List Rec} (h : OneKey q.tag sd l) :
    answerCandidates q (l.map Rec.toBody) = l.map fun r => ⟨.mirror, .current, q.index, q.target, r⟩ := by
  have hf : l.filter (fun r => decide (r.tag = q.tag)) = l := List.filter_eq_self.2 fun x hx => decide_eq_true (h.tag x hx)
  rw [answerCandidates, filterMap_goodBody h, hf]

/-- The filter ANY passes every candidate when all are of one side (R122). -/
theorem preferred_any_oneSide (a : Bool) {sd : Side} {l : List Hit} (h : ∀ x ∈ l, x.body.side = sd) : preferred a .any l = l := by
  have hf (ts : TrainSide) : l.filter (fun x => decide (trainSide a x.body.side = ts)) = if trainSide a sd = ts then l else [] := by
    split
    · rename_i hts
      exact List.filter_eq_self.2 fun x hx => decide_eq_true (by rw [h x hx, hts])
    · rename_i hts
      exact List.filter_eq_nil_iff.2 fun x hx => by simpa [h x hx] using hts
  unfold preferred
  simp only [SideFilter.preference, List.map_cons, List.map_nil, hf]
  cases l with
  | nil => simp
  | cons x l => cases trainSide a sd <;> simp

theorem pickAnswer_isSome {l : List Hit} (h : l ≠ []) : ∃ x ∈ l, s.pickAnswer l = some x := by
  cases hp : s.pickAnswer l with
  | some x => exact ⟨x, pickAnswer_mem hp, rfl⟩
  | none =>
    unfold State.pickAnswer at hp
    split at hp
    · exact absurd rfl h
    · cases hp
    · cases hp

/-- The part once the bodies of an ANSWER are stored and the foreground query is cleared (R89, R128). -/
def answerStored (s : State) (o : Ident) (r : Rec) (n : Nat) : State :=
  { s with dir := putLast s.dir ⟨o, r, .current, 0⟩, resolver := ⟨none, .stopped⟩, freeCount := n }

/-- An ANSWER of good records of one new key ends the resolution with one of them, found as a mirror (R128). -/
theorem answerForeground_oneKey {q : ForegroundQuery} {sd : Side} {pre : List Rec} {r : Rec} (hl : OneKey q.tag sd (pre ++ [r]))
    (hfil : q.filter = .any) (hu : s.Unbound q.tag) (hn : s.dir.findMirror q.target q.tag sd = none)
    (hf : s.dir.hasFreeSlot = true) :
    ∃ x ∈ pre ++ [r], ∃ n, s.answerForeground q ((pre ++ [r]).map Rec.toBody) =
      (answerStored s q.target r n).endResolution (.found ⟨.mirror, .current, q.index, q.target, x⟩) := by
  have hpref : preferred ((s.setDir (putLast s.dir ⟨q.target, r, .current, 0⟩)).consist.aligned q.index) q.filter
      (answerCandidates q ((pre ++ [r]).map Rec.toBody)) =
        (pre ++ [r]).map fun x => (⟨.mirror, .current, q.index, q.target, x⟩ : Hit) := by
    rw [hfil, answerCandidates_oneKey hl]
    refine preferred_any_oneSide (sd := sd) _ fun x hx => ?_
    obtain ⟨y, hy, rfl⟩ := List.mem_map.1 hx
    exact hl.side y hy
  obtain ⟨c, hc, hpick⟩ := pickAnswer_isSome (s := s.setDir (putLast s.dir ⟨q.target, r, .current, 0⟩))
    (l := (pre ++ [r]).map fun x => (⟨.mirror, .current, q.index, q.target, x⟩ : Hit)) (by simp)
  obtain ⟨x, hx, rfl⟩ := List.mem_map.1 hc
  have hr : r ∈ pre ++ [r] := by simp
  have htouch : (putLast s.dir ⟨q.target, r, .current, 0⟩).touch q.target x.tag x.side = putLast s.dir ⟨q.target, r, .current, 0⟩ := by
    have hk := touch_putLast (d := s.dir) (m := ⟨q.target, r, .current, 0⟩)
    rw [hl.tag x hx, hl.side x hx]
    dsimp only at hk
    rw [hl.tag r hr, hl.side r hr] at hk
    exact hk hn
  have huse (n : Nat) : (answerStored s q.target r n).use ⟨.mirror, .current, q.index, q.target, x⟩ = answerStored s q.target r n :=
    congrArg (answerStored s q.target r n).setDir htouch
  rw [State.answerForeground, storeAnswer_oneKey hl hu hn hf]
  rw [hpref, hpick]
  have hend (n : Nat) := congrArg (fun t : State => t.endResolution (.found ⟨.mirror, .current, q.index, q.target, x⟩)) (huse n)
  by_cases hlen : ((pre ++ [r]).map fun x => (⟨.mirror, .current, q.index, q.target, x⟩ : Hit)).length ≤ 1
  · rw [if_pos hlen]
    exact ⟨x, hx, s.freeCount, hend s.freeCount⟩
  · rw [if_neg hlen]
    exact ⟨x, hx, s.freeCount + 1, hend (s.freeCount + 1)⟩

end Sys2Proof.Machine.RecordProofs
end

section
/-! An ANSWER at its destination: to which query it belongs, and how that query ends (R109, R128, R133, R139, R148). -/

namespace Sys2Proof.Machine.RecordProofs

open RollCallProofs TrainProofs

variable {s : State} {e : LineEnd} {h : Header}

/-! ## The query that an ANSWER belongs to -/

theorem exec_answer (ha : Arrives s e h) {id : Byte} {bs : List RecordBody} (hv : (Payload.answer id bs).valid = true) :
    exec (.answer e h id bs) s = .next ((s.heardOn e).takeAnswer ⟨h, .answer id bs⟩ id bs) := by
  have hv' : (⟨h, .answer id bs⟩ : Frame).valid = true := hv
  change Host.Outcome.next (s.receiveFrame e _) = _
  rw [State.receiveFrame, if_pos hv']
  exact congrArg Host.Outcome.next (receive_unicast ha _ _)

theorem takeAnswer_foreground {q : ForegroundQuery} (hq : s.resolver.query = some q) (ht : q.target = h.src) (p : Payload)
    (bs : List RecordBody) : s.takeAnswer ⟨h, p⟩ q.id bs = s.answerForeground q bs := by
  rw [State.takeAnswer, hq]
  exact if_pos ⟨rfl, ht⟩

/-- The ANSWER does not belong to the foreground query. -/
abbrev NotForeground (s : State) (h : Header) (id : Byte) : Prop :=
  (s.resolver.query.all fun q => !(q.id == id && q.target == h.src)) = true

/-- The ANSWER does not belong to the background query. -/
abbrev NotBackground (s : State) (h : Header) (id : Byte) : Prop :=
  (s.bindings.query.all fun q => !(q.id == id && q.target == h.src)) = true

theorem NotForeground.not_belongs {id : Byte} (hf : NotForeground s h id) {q : ForegroundQuery} (hq : s.resolver.query = some q) :
    ¬(q.id = id ∧ q.target = h.src) := by
  rintro ⟨hi, ht⟩
  simp [NotForeground, hq, hi, ht] at hf

theorem NotBackground.not_belongs {id : Byte} (hb : NotBackground s h id) {q : BackgroundQuery} (hq : s.bindings.query = some q) :
    ¬(q.id = id ∧ q.target = h.src) := by
  rintro ⟨hi, ht⟩
  simp [NotBackground, hq, hi, ht] at hb

theorem takeAnswer_background {q : BackgroundQuery} (hf : NotForeground s h q.id) (hq : s.bindings.query = some q)
    (ht : q.target = h.src) (p : Payload) (bs : List RecordBody) : s.takeAnswer ⟨h, p⟩ q.id bs = s.answerBackground q bs := by
  cases hr : s.resolver.query with
  | none => simp only [State.takeAnswer, hr, hq, ht, and_self, if_true]
  | some x => simp only [State.takeAnswer, hr, hq, ht, hf.not_belongs hr, if_false, and_self, if_true]

/-- An ANSWER that belongs to neither query is late and has no effect (R109). -/
theorem takeAnswer_late {id : Byte} (hf : NotForeground s h id) (hb : NotBackground s h id) (p : Payload) (bs : List RecordBody) :
    s.takeAnswer ⟨h, p⟩ id bs = s := by
  cases hr : s.resolver.query <;> cases hq : s.bindings.query
  case none.none => simp only [State.takeAnswer, hr, hq]
  case none.some => simp only [State.takeAnswer, hr, hq, hb.not_belongs hq, if_false]
  case some.none => simp only [State.takeAnswer, hr, hq, hf.not_belongs hr, if_false]
  case some.some => simp only [State.takeAnswer, hr, hq, hf.not_belongs hr, hb.not_belongs hq, if_false]

/-! ## The end of a command in flight -/

theorem complete_inFlight {f : InFlight} (hf : s.port.inFlight = some f) (st : Status) (data : List Byte) (x : Bool) :
    s.complete st data x = s.endedWith f.tag st data x := by
  rw [State.complete, State.endedWith, hf]
  rfl

/-- A LOOKUP answered with no records (R133). -/
theorem answerForeground_nil {q : ForegroundQuery} (hn : s.firstSlot HandleSlot.isReserved = none) :
    s.answerForeground q [] = s.clearForeground.completeLookup (.noRecord (some q.index)) := by
  have hl (a : Bool) : preferred a q.filter (answerCandidates q []) = [] :=
    List.eq_nil_of_subset_nil (preferred_subset a q.filter [])
  have hs : s.storeAnswer q.target [] = s := rfl
  rw [State.answerForeground, hs, hl]
  exact endResolution_lookup (s := s.clearForeground) hn _

/-- The binding of a new handle, with the mirror it rests on and pins at the most recent end (R139, R151). -/
def bindingMade (v : State) (d : Directory) (m : Mirror) (i : Nat) (b : Binding) : State :=
  (v.setDir (putLast d m)).setSlot i (.held b)

/-- A BIND that ends on the mirror stored last (R136, R139, R151). -/
theorem createBinding_putLast {v : State} {d : Directory} {m : Mirror} {i : Nat} {qu : Question} {a : Answer}
    (hd : v.dir = putLast d m) (hn : d.findMirror m.owner m.body.tag m.body.side = none) (hf : v.roll.state = .formed)
    (hk : (BindState.resolved a).mirrorKey qu.tag = some (m.owner, m.body.tag, m.body.side)) (hc : m.fresh = .current) :
    v.createBinding i qu (.resolved a) =
      (bindingMade v d { m with pins := m.pins + 1 } i ⟨qu, .resolved a, false, false⟩).complete .success
        ((bindingMade v d { m with pins := m.pins + 1 } i ⟨qu, .resolved a, false, false⟩).bindingData i
          ⟨qu, .resolved a, false, false⟩) false := by
  have hpin : v.dir.movePin none ((BindState.resolved a).mirrorKey qu.tag) = putLast d { m with pins := m.pins + 1 } := by
    rw [hd, hk]
    exact movePin_putLast hn
  have hfound : (putLast d { m with pins := m.pins + 1 }).findMirror m.owner m.body.tag m.body.side =
      some { m with pins := m.pins + 1 } :=
    findMirror_putLast (m := { m with pins := m.pins + 1 }) hn
  have hstale : (v.setDir (putLast d { m with pins := m.pins + 1 })).staleOf qu.tag (.resolved a) = false := by
    simp only [State.staleOf, State.setDir_roll, State.setDir_dir, hf, hk, hfound]
    simp [ConsistState.unsettled, hc]
  rw [State.createBinding, hpin, hstale]
  rfl

/-- The binding that an ANSWER to a BIND gives: RESOLVED on the mirror held of the key (R139). -/
def answerBinding (s : State) (q : ForegroundQuery) (qu : Question) (r : Rec) : Binding :=
  ⟨qu, .resolved ⟨.mirror, q.target, r.side, trainSide (s.consist.aligned q.index) r.side, s.consist.position q.index, q.index,
    r.addr, r.state, r.rev⟩, false, false⟩

/-- A BIND ended by one of the records of one new key rests on the mirror of the last of them (R139). -/
theorem endResolution_bind {q : ForegroundQuery} {qu : Question} {r x : Rec} {i n : Nat} (hf : s.roll.state = .formed)
    (hi : s.firstSlot HandleSlot.isReserved = some i) (hs : s.slot i = .reserved qu) (ht : r.tag = qu.tag) (hxt : x.tag = r.tag)
    (hxs : x.side = r.side) (hn : s.dir.findMirror q.target r.tag r.side = none) :
    (answerStored s q.target r n).endResolution (.found ⟨.mirror, .current, q.index, q.target, x⟩) =
      (bindingMade (answerStored s q.target r n) s.dir ⟨q.target, r, .current, 1⟩ i (answerBinding s q qu r)).complete .success
        ((bindingMade (answerStored s q.target r n) s.dir ⟨q.target, r, .current, 1⟩ i (answerBinding s q qu r)).bindingData i
          (answerBinding s q qu r)) false := by
  have hi' : (answerStored s q.target r n).firstSlot HandleSlot.isReserved = some i := hi
  have hs' : (answerStored s q.target r n).slot i = .reserved qu := hs
  have hheld : (answerStored s q.target r n).asHeld ⟨.mirror, .current, q.index, q.target, x⟩ =
      ⟨.mirror, .current, q.index, q.target, r⟩ := by
    refine State.asHeld_mirror (m := ⟨q.target, r, .current, 0⟩) _ rfl ?_
    change (putLast s.dir ⟨q.target, r, .current, 0⟩).findMirror q.target x.tag x.side = _
    rw [hxt, hxs]
    exact findMirror_putLast (m := ⟨q.target, r, .current, 0⟩) hn
  rw [State.endResolution, hi']
  dsimp only
  rw [hs']
  change (answerStored s q.target r n).createBinding i qu (.resolved (State.answerOf _ (State.asHeld _ _))) = _
  rw [hheld]
  refine createBinding_putLast (m := ⟨q.target, r, .current, 0⟩) rfl hn hf ?_ rfl
  rw [ht]
  rfl

/-- The part once the background query is abandoned and the binding it served is UNRESOLVED with reason NO_RECORD, marked (R148, R150). -/
def unresolvedAt (s : State) (i : Nat) (b : Binding) : State :=
  (s.abandonBackground.setSlot i (.held { b with st := .unresolved .noRecord, stale := false, changed := true })).raise
    Events.raiseBindingChanged

/-- A PENDING binding whose background query is answered with no records (R148). -/
theorem answerBackground_nil {q : BackgroundQuery} {b : Binding} (hf : s.roll.state = .formed) (hq : s.bindings.query = some q)
    (hb : s.binding q.slot = some b) (hp : b.st = .pending) :
    s.answerBackground q [] = (unresolvedAt s q.slot b).startBackground := by
  have hs : s.storeAnswer q.target [] = s := rfl
  have hb' : s.abandonBackground.binding q.slot = some b := hb
  have hstale : s.abandonBackground.staleOf b.question.tag (.unresolved .noRecord) = false := by
    have hf' : s.abandonBackground.roll.state = .formed := hf
    rw [State.staleOf, hf']
    rfl
  rw [State.answerBackground, hs, hq, if_neg (by simp)]
  dsimp only
  rw [hb']
  dsimp only
  rw [hstale, State.takeContents, hp]
  rw [if_neg (by simp)]
  rfl

/-! ## The obligation -/

theorem valid_answer (id : Byte) {g : Tag} {sd : Side} {l : List Rec} (hl : OneKey g sd l) (hn : l.length ≤ 4) :
    (Payload.answer id (l.map Rec.toBody)).valid = true := by
  have hok : (l.map Rec.toBody).all RecordBody.lengthsOk = true := by
    rw [List.all_map, List.all_eq_true]
    intro x hx
    obtain ⟨ht, ha, -⟩ := hl.good x hx
    simp [RecordBody.lengthsOk, Rec.toBody, tagLenOk_of_tagOk ht, ha]
  simp [Payload.valid, hok, hn]

/-- Settles O50: the query an ANSWER belongs to, its bodies stored, and the command or binding it ends. -/
theorem answerReceived : Obligations.AnswerReceived := by
  unfold Obligations.AnswerReceived
  refine ⟨?late, ?lookupNone, ?lookupFound, ?background, ?bind⟩
  case late =>
    intro s e h id bs hv hl hf ho h0 hn hfore hback
    have hfore' : NotForeground (s.heardOn e) h id := by cases e <;> exact hfore
    have hback' : NotBackground (s.heardOn e) h id := by cases e <;> exact hback
    rw [exec_answer ⟨hl, hf, ho, h0, hn⟩ hv, takeAnswer_late hfore' hback']
  case lookupNone =>
    intro s e h q f r hl hf ho h0 hn hq ht hp hslot hr
    have hq' : (s.heardOn e).resolver.query = some q := by cases e <;> exact hq
    have hslot' : (s.heardOn e).firstSlot HandleSlot.isReserved = none := by cases e <;> exact hslot
    have hp' : (s.heardOn e).clearForeground.port.inFlight = some f := by cases e <;> exact hp
    have hr' : (s.heardOn e).clearForeground.consist.entry q.index = some r := by cases e <;> exact hr
    have hsettled : (s.heardOn e).clearForeground.roll.state = .formed := by cases e <;> exact hf.1
    rw [exec_answer ⟨hl, hf, ho, h0, hn⟩ rfl, takeAnswer_foreground hq' ht, answerForeground_nil hslot', State.completeLookup,
      complete_inFlight hp', noRecordData_of_entry hr', hsettled]
    cases e <;> rfl
  case lookupFound =>
    intro s e h q f r hr hu hl hf ho h0 hn hq ht hfil htag hp hslot hfree hm
    have hone : OneKey q.tag r.side ([] ++ [r]) := by
      refine ⟨fun x hx => ?_, by simp [htag], by simp⟩
      obtain rfl : x = r := by simpa using hx
      exact hr
    have hq' : (s.heardOn e).resolver.query = some q := by cases e <;> exact hq
    obtain ⟨x, hx, n, he⟩ := answerForeground_oneKey (s := s.heardOn e) hone hfil
      (htag ▸ unbound_congr (heardOn_bindings s e) hu) (by rw [heardOn_dir, ht, ← htag]; exact hm)
      (by rw [heardOn_dir]; exact hasFreeSlot_of_lt hfree)
    obtain rfl : x = r := by simpa using hx
    have hslot' : (answerStored (s.heardOn e) q.target x n).firstSlot HandleSlot.isReserved = none := by cases e <;> exact hslot
    have hp' : (answerStored (s.heardOn e) q.target x n).port.inFlight = some f := by cases e <;> exact hp
    have hsettled : (answerStored (s.heardOn e) q.target x n).roll.state = .formed := by cases e <;> exact hf.1
    have hexec : exec (.answer e h q.id (([] ++ [x]).map Rec.toBody)) s = .next
        ((answerStored (s.heardOn e) q.target x n).endedWith f.tag .found
          ((answerStored (s.heardOn e) q.target x n).foundData ⟨.mirror, .current, q.index, q.target, x⟩) false) := by
      rw [exec_answer ⟨hl, hf, ho, h0, hn⟩ (valid_answer q.id hone (by simp)), takeAnswer_foreground hq' ht]
      refine congrArg Host.Outcome.next (he.trans ?_)
      rw [endResolution_lookup hslot', State.completeLookup, complete_inFlight hp', hsettled]
      rfl
    refine ⟨_, hexec, ?_⟩
    rw [ht]
    cases e <;> exact ⟨rfl, rfl, ⟨rfl, rfl, rfl, rfl⟩, rfl, rfl, rfl, rfl, rfl, rfl⟩
  case background =>
    intro s e h q b hl hf ho h0 hn hq ht hfore hb hp
    have hfore' : NotForeground (s.heardOn e) h q.id := by cases e <;> exact hfore
    have hq' : (s.heardOn e).bindings.query = some q := by rw [heardOn_bindings]; exact hq
    have hb' : (s.heardOn e).binding q.slot = some b := by cases e <;> exact hb
    have hf' : (s.heardOn e).roll.state = .formed := by rw [heardOn_roll]; exact hf.1
    have hlt : q.slot < Config.maxHandles := mem_slots.1 (slot_lt (binding_eq_some.1 hb))
    have hexec : exec (.answer e h q.id []) s = .next (unresolvedAt (s.heardOn e) q.slot b).startBackground := by
      rw [exec_answer ⟨hl, hf, ho, h0, hn⟩ rfl, takeAnswer_background hfore' hq' ht, answerBackground_nil hf' hq' hb' hp]
    have hslot (j : Nat) := State.slot_setSlot (s.heardOn e).abandonBackground q.slot j
      (.held { b with st := .unresolved .noRecord, stale := false, changed := true }) hlt
    have hstart := sameHandles_startBackground (unresolvedAt (s.heardOn e) q.slot b)
    have hrest := (unresolvedAt (s.heardOn e) q.slot b).rebinds_startBackground
    refine ⟨_, hexec, ?_, fun j _ hj => ?_, ?_, ?_, hrest.roll.trans (heardOn_roll s e), hrest.consist.trans (heardOn_consist s e),
      hrest.port.trans (heardOn_port s e), hrest.resolver.trans (by cases e <;> rfl)⟩
    · rw [hstart.slot]
      exact (hslot q.slot).trans (if_pos rfl)
    · rw [hstart.slot]
      refine (hslot j).trans ((if_neg (Ne.symm hj)).trans ?_)
      cases e <;> rfl
    · rw [hstart.attn]
      rfl
    · exact (sameLedger_startBackground _).dir.trans (heardOn_dir s e)
  case bind =>
    intro s e h q f pre r i qu hlen hall hu hl hf ho h0 hn hq ht hfil hp hi hs hqu hfree hm
    have hone : OneKey q.tag r.side (pre ++ [r]) := by
      have hmem : ∀ x ∈ pre ++ [r], x ∈ r :: pre := fun x hx => by simpa [or_comm] using hx
      exact ⟨fun x hx => (hall x (hmem x hx)).1, fun x hx => (hall x (hmem x hx)).2.1, fun x hx => (hall x (hmem x hx)).2.2⟩
    have htag : r.tag = q.tag := hone.tag r (by simp)
    have hq' : (s.heardOn e).resolver.query = some q := by cases e <;> exact hq
    have hm' : (s.heardOn e).dir.findMirror q.target q.tag r.side = none := by rw [heardOn_dir, ht]; exact hm
    have hi' : (s.heardOn e).firstSlot HandleSlot.isReserved = some i := by cases e <;> exact hi
    have hs' : (s.heardOn e).slot i = .reserved qu := by cases e <;> exact hs
    have hf' : (s.heardOn e).roll.state = .formed := by rw [heardOn_roll]; exact hf.1
    have hlt : i < Config.maxHandles := mem_slots.1 (List.mem_of_find?_eq_some hi)
    obtain ⟨x, hx, n, he⟩ := answerForeground_oneKey (s := s.heardOn e) hone hfil (unbound_congr (heardOn_bindings s e) hu) hm'
      (by rw [heardOn_dir]; exact hasFreeSlot_of_lt hfree)
    have hbind := endResolution_bind (s := s.heardOn e) (n := n) (x := x) hf' hi' hs' (htag.trans hqu.symm)
      ((hone.tag x hx).trans htag.symm) (hone.side x hx) (by rw [htag]; exact hm')
    have hp' : (bindingMade (answerStored (s.heardOn e) q.target r n) (s.heardOn e).dir ⟨q.target, r, .current, 1⟩ i
        (answerBinding (s.heardOn e) q qu r)).port.inFlight = some f := by cases e <;> exact hp
    rw [complete_inFlight hp'] at hbind
    have hbodies : pre.map Rec.toBody ++ [r.toBody] = (pre ++ [r]).map Rec.toBody := by simp
    have hexec := exec_answer (s := s) (e := e) (h := h) ⟨hl, hf, ho, h0, hn⟩
      (valid_answer q.id hone (by simpa using Nat.succ_le_succ hlen))
    rw [takeAnswer_foreground hq' ht, he, hbind, ← hbodies] at hexec
    have hslot (j : Nat) := State.slot_setSlot ((answerStored (s.heardOn e) q.target r n).setDir
      (putLast (s.heardOn e).dir ⟨q.target, r, .current, 1⟩)) i j (.held (answerBinding (s.heardOn e) q qu r)) hlt
    refine ⟨_, hexec, ?_, fun j _ hj => ?_, ?_⟩
    · refine (hslot i).trans ((if_pos rfl).trans ?_)
      rw [answerBinding, heardOn_consist, ht]
    · refine (hslot j).trans ((if_neg (Ne.symm hj)).trans ?_)
      cases e <;> rfl
    · rw [← ht]
      cases e <;> exact ⟨rfl, rfl, ⟨rfl, rfl, rfl, rfl⟩, rfl, rfl, rfl, rfl, rfl, rfl⟩

end Sys2Proof.Machine.RecordProofs
end

section
/-! The errand of the command in flight: what the Car Port, the Resolver, the change request and the reserved handle hold of it, read off the
state as one value; and the work that leaves it alone. -/

namespace Sys2Proof.Machine.TrafficProofs

open RollCallProofs TrainProofs RecordProofs

/-! ## The errand -/

/-- What the port invariant speaks of: the Car Port, the two kinds of remote work with their timers, how many handles are reserved, and the
consist state. -/
structure Errand where
  port : CarPort
  resolver : Resolver
  change : Option ChangeRequest
  changeT : Timer
  reserved : Nat
  consist : ConsistState

def reservedCount (s : State) : Nat :=
  slots.countP fun i => (s.slot i).isReserved

def errand (s : State) : Errand :=
  ⟨s.port, s.resolver, s.traffic.change, s.traffic.changeT, reservedCount s, s.roll.state⟩

theorem errand_consist (s : State) : (errand s).consist = s.roll.state :=
  rfl

/-- The command in flight completes with this status block. -/
def Errand.answered (d : Errand) (b : StatusBlock) : Errand :=
  { d with port := { d.port with state := .ready, inFlight := none, status := some b } }

/-- What holds of an errand at every stage of a step: the port's fields go together, at most one handle is reserved, and a timer runs exactly
while its work waits. -/
structure Errand.Sound (d : Errand) : Prop where
  inFlight : d.port.inFlight.isSome = decide (d.port.state = .inFlight)
  status : d.port.status.isSome = decide (d.port.state = .ready)
  buffer : d.port.rxBuffer = []
  one : d.reserved ≤ 1
  timer : d.resolver.timer = if d.resolver.query.isSome then .running Config.queryMs else .stopped
  changeT : d.changeT = if d.change.isSome then .running Config.changeMs else .stopped

/-- The command in flight waits for exactly one kind of remote work, and without a command none waits (R114, R117, R139). -/
structure Errand.Matched (d : Errand) : Prop extends d.Sound where
  busy : d.port.state = .inFlight → (d.resolver.query.isSome != d.change.isSome) = true
  idle : d.port.state ≠ .inFlight → d.resolver.query = none ∧ d.change = none
  free : d.resolver.query = none → d.reserved = 0

/-- The port invariant, of the errand: remote work waits in FORMED alone (R112, R126). -/
structure Errand.Settled (d : Errand) : Prop extends d.Matched where
  formed : d.resolver.query.isSome ∨ d.change.isSome → d.consist = .formed

/-- A command is in flight and waits for nothing: its outcome is owed within the step. Its handle may still be reserved. -/
structure Errand.Owed (d : Errand) : Prop extends d.Sound where
  busy : d.port.state = .inFlight
  query : d.resolver.query = none
  change : d.change = none

/-- An outcome is owed and no handle is reserved. -/
structure Errand.Taken (d : Errand) : Prop extends d.Owed where
  free : d.reserved = 0

theorem portInv_iff (s : State) : s.PortInv ↔ (errand s).Settled := by
  constructor
  · rintro ⟨h1, h2, h3, h4, h5, h6, h7, h8, h9, h10, h11⟩
    exact ⟨⟨⟨h1, h2, h3, h7, h10, h11⟩, h4, h5, h6⟩, fun h => h.elim h8 h9⟩
  · rintro ⟨⟨⟨h1, h2, h3, h7, h10, h11⟩, h4, h5, h6⟩, h8⟩
    exact ⟨h1, h2, h3, h4, h5, h6, h7, fun h => h8 (.inl h), fun h => h8 (.inr h), h10, h11⟩

/-! ## Stages of a step -/

variable {d : Errand}

/-- A command completed leaves nothing waiting. -/
theorem Errand.Taken.answered (h : d.Taken) (b : StatusBlock) : (d.answered b).Settled := by
  have hq : (d.answered b).resolver.query = none := h.query
  have hc : (d.answered b).change = none := h.change
  refine ⟨⟨⟨rfl, rfl, h.buffer, h.one, h.timer, h.changeT⟩, fun hs => ?_, fun _ => ⟨hq, hc⟩, fun _ => h.free⟩, fun hw => ?_⟩
  · cases hs
  · simp [hq, hc] at hw

theorem Errand.Matched.query_busy (h : d.Matched) {q : ForegroundQuery} (hq : d.resolver.query = some q) :
    d.port.state = .inFlight ∧ d.change = none := by
  have hs : d.port.state = .inFlight := by
    by_contra hn
    rw [(h.idle hn).1] at hq
    cases hq
  have hb := h.busy hs
  rw [hq] at hb
  exact ⟨hs, by simpa using hb⟩

theorem Errand.Matched.change_busy (h : d.Matched) {c : ChangeRequest} (hc : d.change = some c) :
    d.port.state = .inFlight ∧ d.resolver.query = none := by
  have hs : d.port.state = .inFlight := by
    by_contra hn
    rw [(h.idle hn).2] at hc
    cases hc
  have hb := h.busy hs
  rw [hc] at hb
  exact ⟨hs, by simpa using hb⟩

/-- The foreground query cleared: its outcome is owed. -/
theorem Errand.Matched.cleared (h : d.Matched) {q : ForegroundQuery} (hq : d.resolver.query = some q) :
    Errand.Owed { d with resolver := ⟨none, .stopped⟩ } :=
  ⟨⟨h.inFlight, h.status, h.buffer, h.one, rfl, h.changeT⟩, (h.query_busy hq).1, rfl, (h.query_busy hq).2⟩

/-- The change request cleared: its outcome is owed. -/
theorem Errand.Matched.dropped (h : d.Matched) {c : ChangeRequest} (hc : d.change = some c) :
    Errand.Taken { d with change := none, changeT := .stopped } :=
  ⟨⟨⟨h.inFlight, h.status, h.buffer, h.one, h.timer, rfl⟩, (h.change_busy hc).1, (h.change_busy hc).2, rfl⟩,
    h.free (h.change_busy hc).2⟩

/-- The consist forms: what waits may wait on (R49). -/
theorem Errand.Matched.settled_formed (h : d.Matched) (hf : d.consist = .formed) : d.Settled :=
  ⟨h, fun _ => hf⟩

theorem Errand.Matched.in_consist (h : d.Matched) (c : ConsistState) : Errand.Matched { d with consist := c } :=
  ⟨⟨h.inFlight, h.status, h.buffer, h.one, h.timer, h.changeT⟩, h.busy, h.idle, h.free⟩

theorem Errand.Taken.in_consist (h : d.Taken) (c : ConsistState) : Errand.Taken { d with consist := c } :=
  ⟨⟨⟨h.inFlight, h.status, h.buffer, h.one, h.timer, h.changeT⟩, h.busy, h.query, h.change⟩, h.free⟩

/-! ## Work that leaves the errand alone -/

@[simp] theorem errand_setConsist (s : State) (x : ConsistTable) : errand (s.setConsist x) = errand s := rfl
@[simp] theorem errand_setDir (s : State) (x : Directory) : errand (s.setDir x) = errand s := rfl
@[simp] theorem errand_setAttn (s : State) (x : AttentionUnit) : errand (s.setAttn x) = errand s := rfl
@[simp] theorem errand_setCtrl (s : State) (x : PartControl) : errand (s.setCtrl x) = errand s := rfl
@[simp] theorem errand_raise (s : State) (f : Events → Events) : errand (s.raise f) = errand s := rfl
@[simp] theorem errand_updEnds (s : State) (f : LineEndSt → LineEndSt) : errand (s.updEnds f) = errand s := rfl
@[simp] theorem errand_broadcast (s : State) (p : Payload) : errand (s.broadcast p) = errand s := rfl
@[simp] theorem errand_setRemainder (s : State) (l : List (Tag × Side)) : errand (s.setRemainder l) = errand s := rfl
@[simp] theorem errand_abandonBackground (s : State) : errand s.abandonBackground = errand s := rfl
@[simp] theorem errand_freeCount (s : State) (n : Nat) : errand { s with freeCount := n } = errand s := rfl
@[simp] theorem errand_pending (s : State) (l : List Instr) : errand { s with pending := l } = errand s := rfl

@[simp] theorem errand_setEnd (s : State) (e : LineEnd) (l : LineEndSt) : errand (s.setEnd e l) = errand s := by
  cases e <;> rfl

@[simp] theorem errand_updEnd (s : State) (e : LineEnd) (f : LineEndSt → LineEndSt) : errand (s.updEnd e f) = errand s :=
  errand_setEnd s e _

@[simp] theorem errand_offerCtrl (s : State) (e : LineEnd) (f : Frame) : errand (s.offerCtrl e f) = errand s :=
  errand_updEnd s e _

@[simp] theorem errand_offerDir (s : State) (e : LineEnd) (f : Frame) : errand (s.offerDir e f) = errand s :=
  errand_updEnd s e _

@[simp] theorem errand_sendUnicast (s : State) (t : Nat) (p : Payload) : errand (s.sendUnicast t p) = errand s := by
  unfold State.sendUnicast
  split
  · exact errand_offerDir s _ _
  · rfl

@[simp] theorem errand_raiseBeside (s : State) (n : Nat) (k : EventKind) (f : Events → Events) :
    errand (s.raiseBeside n k f) = errand s := by
  rcases s.raiseBeside_cases n k f with h | ⟨o, -, h⟩ <;> rw [h] <;> rfl

@[simp] theorem errand_reportFault (s : State) (k : FaultKind) : errand (s.reportFault k) = errand s := by
  unfold State.reportFault
  split <;> rfl

/-- Of two pieces of work done in either order, the errand has the first and then the second. -/
@[simp] theorem errand_eitherOrder (f g : State → State) (s : State) : errand (eitherOrder f g s) = errand (g (f s)) := by
  unfold eitherOrder
  dsimp only
  split <;> rfl

/-- Work that sees to the stores of other blocks alone. -/
theorem errand_of_sameStores {s t : State} (h : SameStores s t) (hr : t.roll.state = s.roll.state) : errand t = errand s := by
  have hs : reservedCount t = reservedCount s := by
    unfold reservedCount State.slot
    rw [h.bindings]
  rw [errand, errand, h.port, h.resolver, h.traffic, hs, hr]

theorem errand_foldl {α : Type} {f : State → α → State} (hf : ∀ s a, errand (f s a) = errand s) (l : List α) (s : State) :
    errand (l.foldl f s) = errand s := by
  induction l generalizing s with
  | nil => rfl
  | cons a l ih => rw [List.foldl_cons, ih, hf]

/-- Work of the Binding Table that reserves no handle and frees none. -/
theorem errand_of_rebinds {s t : State} (h : s.Rebinds t) (hc : reservedCount t = reservedCount s) : errand t = errand s := by
  have hchange : t.traffic.change = s.traffic.change := (congrArg Traffic.change h.traffic :)
  have htimer : t.traffic.changeT = s.traffic.changeT := (congrArg Traffic.changeT h.traffic :)
  rw [errand, errand, h.port, h.resolver, hchange, htimer, hc, h.roll]

theorem reservedCount_congr {s t : State} (h : t.slot = s.slot) : reservedCount t = reservedCount s := by
  rw [reservedCount, h, reservedCount]

/-! ## Handles -/

/-- A handle replaced counts for what it holds now instead of what it held. -/
theorem reservedCount_setSlot {s : State} {i : Nat} (hi : i ∈ slots) (x : HandleSlot) :
    reservedCount (s.setSlot i x) + (if (s.slot i).isReserved then 1 else 0) =
      reservedCount s + (if x.isReserved then 1 else 0) := by
  have h := countP_update hi s.slot x HandleSlot.isReserved
  rwa [← update_slot hi] at h

theorem reservedCount_eq_zero {s : State} (h : s.firstSlot HandleSlot.isReserved = none) : reservedCount s = 0 := by
  rw [reservedCount, List.countP_eq_zero]
  intro i hi
  rw [State.firstSlot_none h i hi]
  decide

/-- A handle replaced by one that is reserved if and only if it was. -/
theorem errand_setSlot {s : State} {i : Nat} (hi : i ∈ slots) {x : HandleSlot} (h : x.isReserved = (s.slot i).isReserved) :
    errand (s.setSlot i x) = errand s := by
  have hc := reservedCount_setSlot (s := s) hi x
  rw [h] at hc
  exact errand_of_rebinds (s.rebinds_setSlot i x) (Nat.add_right_cancel hc)

theorem errand_setSlot_held {s : State} {i : Nat} {b : Binding} (hb : s.binding i = some b) {x : HandleSlot}
    (hx : x.isReserved = false) : errand (s.setSlot i x) = errand s := by
  rw [binding_eq_some] at hb
  exact errand_setSlot (slot_lt hb) (by rw [hx, hb]; rfl)

/-! ## The Binding Table -/

@[simp] theorem errand_use (s : State) (h : Hit) : errand (s.use h) = errand s := by
  unfold State.use
  split <;> rfl

@[simp] theorem errand_useFound (s : State) (f : Found) : errand (s.useFound f) = errand s :=
  errand_of_rebinds (s.rebinds_useFound f) (reservedCount_congr (funext (sameHandles_useFound s f).slot))

@[simp] theorem errand_startBackground (s : State) : errand s.startBackground = errand s :=
  errand_of_rebinds s.rebinds_startBackground (reservedCount_congr (sameLedger_startBackground s).slot)

theorem errand_takeContents {s : State} {i : Nat} {b : Binding} (hb : s.binding i = some b) (st : BindState) (x : Bool) :
    errand (s.takeContents i b st x) = errand s := by
  unfold State.takeContents
  dsimp only
  split
  · rfl
  · exact errand_setSlot_held
      (s := s.setDir (s.dir.movePin (b.st.mirrorKey b.question.tag) (st.mirrorKey b.question.tag))) hb rfl

theorem binding_useFound (s : State) (f : Found) (i : Nat) : (s.useFound f).binding i = s.binding i := by
  rw [State.binding, (sameHandles_useFound s f).slot, State.binding]

@[simp] theorem errand_reResolve (s : State) (i : Nat) : errand (s.reResolve i) = errand s := by
  unfold State.reResolve
  split
  · rfl
  · rename_i b hb
    dsimp only
    rw [← binding_useFound s (s.search b.question)] at hb
    rw [errand_of_rebinds (State.rebinds_reviewBackground _ _ _) (reservedCount_congr (sameLedger_reviewBackground _ _ _).slot),
      errand_takeContents hb, errand_useFound]

@[simp] theorem errand_reResolveAll (s : State) : errand s.reResolveAll = errand s := by
  rw [State.reResolveAll, errand_startBackground, errand_foldl errand_reResolve]

@[simp] theorem errand_recordChanged (s : State) (t : Tag) : errand (s.recordChanged t) = errand s := by
  have h (s : State) (i : Nat) : errand (s.reResolveIf t i) = errand s := by
    unfold State.reResolveIf
    split
    · split
      · exact errand_reResolve s i
      · rfl
    · rfl
  rw [State.recordChanged, errand_startBackground, errand_foldl h]

@[simp] theorem errand_bindingsUnsettled (s : State) : errand s.bindingsUnsettled = errand s := by
  have h (s : State) (i : Nat) : errand (s.markStale i) = errand s := by
    unfold State.markStale
    split
    · rfl
    · exact errand_takeContents ‹_› _ _
  rw [State.bindingsUnsettled, errand_foldl h, errand_abandonBackground]

@[simp] theorem errand_bindingsAdopt (s : State) : errand s.bindingsAdopt = errand s := by
  rw [State.bindingsAdopt, errand_reResolveAll, errand_abandonBackground]

@[simp] theorem errand_freshQuery (s : State) (o : Option Byte) (t : Nat) (g : Tag) : errand (s.freshQuery o t g) = errand s := by
  rw [State.freshQuery, errand_sendUnicast]
  rfl

/-! ## Records and their publication -/

theorem errand_burstFrom (l : List (Tag × Side)) (s : State) : errand (s.burstFrom l) = errand s := by
  induction l generalizing s with
  | nil => rfl
  | cons k l ih =>
    unfold State.burstFrom State.publishHome
    split
    · rw [ih]
      split <;> rfl
    · rfl

@[simp] theorem errand_burstContinue (s : State) : errand s.burstContinue = errand s := by
  unfold State.burstContinue
  split
  · exact errand_burstFrom _ s
  · rfl

@[simp] theorem errand_makeRoom (s : State) : errand s.makeRoom = errand s := by
  rcases s.makeRoom_cases with ⟨-, h⟩ | ⟨-, -, h⟩ | ⟨m, -, -, h⟩ <;> rw [h]
  rw [errand_recordChanged, errand_setDir]

theorem errand_keepBody (s : State) (o : Ident) (r : Rec) : errand (s.keepBody o r) = errand s := by
  have hadd (u : State) : errand (u.addMirror o r) = errand u := by
    unfold State.addMirror
    split
    · rw [errand_recordChanged, errand_setDir]
    · rfl
  unfold State.keepBody
  split
  · rw [State.updateMirror, errand_recordChanged, errand_setDir]
  · rcases s.storeMirror_cases o r with ⟨-, h⟩ | ⟨g, -, h⟩ <;> rw [h]
    · rw [hadd, errand_makeRoom]
    · rw [errand_raiseBeside, hadd, errand_makeRoom]

@[simp] theorem errand_storeAnswer (s : State) (o : Ident) (bs : List RecordBody) : errand (s.storeAnswer o bs) = errand s :=
  errand_foldl (fun s r => errand_keepBody s o r) _ s

@[simp] theorem errand_takePublished (s : State) (o : Ident) (b : RecordBody) : errand (s.takePublished o b) = errand s := by
  unfold State.takePublished
  split
  · rfl
  · rename_i r _
    have h := errand_keepBody s o r
    unfold State.keepBody at h
    split
    · rename_i hm
      rwa [hm] at h
    · rename_i hm
      rw [hm] at h
      split
      · exact h
      · rfl

@[simp] theorem errand_takeWithdrawn (s : State) (o : Ident) (t : Tag) (side : Byte) :
    errand (s.takeWithdrawn o t side) = errand s := by
  unfold State.takeWithdrawn
  split
  · rfl
  · split
    · split
      · rfl
      · rw [errand_recordChanged, errand_setDir]
    · rfl

@[simp] theorem errand_homeChanged (s : State) (c : HomeChange) : errand (s.homeChanged c) = errand s := by
  have h (s : State) : errand (s.publishChange c) = errand s := by
    unfold State.publishChange
    split
    · rfl
    · cases c <;> dsimp only <;> split <;> rfl
  rw [State.homeChanged, errand_eitherOrder, h, errand_recordChanged]

@[simp] theorem errand_changeHome (s : State) (x y : Rec) : errand (s.changeHome x y) = errand s := by
  unfold State.changeHome
  split
  · rfl
  · rw [errand_homeChanged, errand_setDir]

@[simp] theorem errand_decideChange (s : State) (t : Tag) (sd : Side) (x : RecState) :
    errand (s.decideChange t sd x).1 = errand s := by
  unfold State.decideChange
  split
  · rfl
  · split
    · rfl
    · exact errand_changeHome s _ _

@[simp] theorem errand_endRefresh (s : State) : errand s.endRefresh = errand s := by
  have h (n : Nat) (l : List Tag) (s : State) : errand (State.reportGone n l s) = errand s := by
    induction n generalizing l s with
    | zero => rfl
    | succ n ih =>
      unfold State.reportGone
      split
      · rfl
      · exact errand_recordChanged s _
      · rw [ih, errand_recordChanged, errand_freeCount]
  rw [State.endRefresh, h, errand_setDir]

end Sys2Proof.Machine.TrafficProofs
end

section
/-! The errand completed and abandoned: the end of a resolution, an entry into ROLLING, an adoption, and with them a roll-call trigger and the
life of a line end. -/

namespace Sys2Proof.Machine.TrafficProofs

open RollCallProofs TrainProofs RecordProofs

variable {s t u : State}

/-! ## Completion -/

theorem settled_complete (h : (errand s).Taken) (st : Status) (data : List Byte) (x : Bool) :
    (errand (s.complete st data x)).Settled :=
  h.answered _

theorem settled_done (h : (errand s).Taken) (st : Status) : (errand (s.done st)).Settled :=
  settled_complete h _ _ _

theorem settled_gives (h : (errand s).Taken) (data : List Byte) : (errand (s.gives data)).Settled :=
  settled_complete h _ _ _

/-- The reserved handle takes its binding: it is the only one, and with it the BIND completes (R139). -/
theorem settled_createBinding (h : (errand s).Owed) {i : Nat} {q : Question} (hi : i ∈ slots) (hq : s.slot i = .reserved q)
    (st : BindState) : (errand (s.createBinding i q st)).Settled := by
  have hd := State.rebinds_movePin s none (st.mirrorKey q.tag)
  have hset (x : Binding) : (errand ((s.setDir (s.dir.movePin none (st.mirrorKey q.tag))).setSlot i (.held x))).Taken := by
    have hc : reservedCount ((s.setDir (s.dir.movePin none (st.mirrorKey q.tag))).setSlot i (.held x)) + 1 = reservedCount s + 0 := by
      have := reservedCount_setSlot (s := s.setDir (s.dir.movePin none (st.mirrorKey q.tag))) hi (.held x)
      rw [show (s.setDir (s.dir.movePin none (st.mirrorKey q.tag))).slot i = _ from hq] at this
      exact this
    have hone : reservedCount s ≤ 1 := h.one
    have hzero : reservedCount ((s.setDir (s.dir.movePin none (st.mirrorKey q.tag))).setSlot i (.held x)) = 0 := by omega
    exact ⟨⟨⟨h.inFlight, h.status, h.buffer, hzero.trans_le (Nat.zero_le 1), h.timer, h.changeT⟩, h.busy, h.query, h.change⟩, hzero⟩
  exact settled_complete (hset _) _ _ _

theorem settled_completeLookup (h : (errand s).Taken) (o : Outcome) : (errand (s.completeLookup o)).Settled := by
  cases o <;> exact settled_complete h _ _ _

/-- An owed outcome is given: to the BIND whose handle is reserved, or to the LOOKUP (R132 to R134, R138, R139). -/
theorem settled_endResolution (h : (errand s).Owed) (o : Outcome) : (errand (s.endResolution o)).Settled := by
  unfold State.endResolution
  split
  · rename_i i hi
    obtain ⟨his, hr⟩ := State.firstSlot_some hi
    split
    · rename_i q hq
      cases o with
      | consistChanged =>
        have hq' : (s.useFound (s.search q)).slot i = .reserved q := by rw [(sameHandles_useFound s _).slot, hq]
        exact settled_createBinding (by rw [errand_useFound]; exact h) his hq' _
      | _ => exact settled_createBinding h his hq _
    · rename_i hq; rw [hq] at hr; cases hr
    · rename_i hq; rw [hq] at hr; cases hr
  · rename_i hn
    exact settled_completeLookup ⟨h, reservedCount_eq_zero hn⟩ o

/-- The foreground query ended with an outcome (R127 to R129). -/
theorem settled_endQuery (h : (errand s).Matched) {q : ForegroundQuery} (hq : s.resolver.query = some q) (o : Outcome) :
    (errand (s.clearForeground.endResolution o)).Settled :=
  settled_endResolution (s := s.clearForeground) (h.cleared hq) o

/-- The change request ended with an outcome (R112 to R114). -/
theorem settled_endChange (h : (errand s).Matched) {c : ChangeRequest} (hc : s.traffic.change = some c) (st : Status)
    (data : List Byte) (x : Bool) : (errand (s.clearChange.complete st data x)).Settled :=
  settled_complete (s := s.clearChange) (h.dropped hc) st data x

/-- An outcome does not touch the Resolver and the Directory Traffic unit. -/
theorem endResolution_keeps (s : State) (o : Outcome) :
    (s.endResolution o).resolver = s.resolver ∧ (s.endResolution o).traffic = s.traffic := by
  have huse (f : Found) : (s.useFound f).traffic = s.traffic := by
    cases f with
    | hit h =>
      change (s.use h).traffic = _
      unfold State.use
      split <;> rfl
    | _ => rfl
  have hlook : (s.completeLookup o).resolver = s.resolver ∧ (s.completeLookup o).traffic = s.traffic := by
    cases o <;> exact ⟨rfl, rfl⟩
  unfold State.endResolution
  split
  · split
    · cases o with
      | consistChanged => exact ⟨(s.rebinds_useFound _).resolver, huse _⟩
      | _ => exact ⟨rfl, rfl⟩
    all_goals exact hlook
  · exact hlook

/-! ## Remote work abandoned -/

theorem matched_abandonChange (h : (errand s).Matched) :
    (errand s.abandonChange).Matched ∧ s.abandonChange.traffic.change = none := by
  unfold State.abandonChange
  split
  · exact ⟨h, ‹_›⟩
  · exact ⟨(settled_endChange h ‹_› _ _ _).toMatched, rfl⟩

theorem matched_abandonForeground (h : (errand s).Matched) :
    (errand s.abandonForeground).Matched ∧ s.abandonForeground.resolver.query = none ∧
      s.abandonForeground.traffic = s.traffic := by
  unfold State.abandonForeground
  split
  · exact ⟨h, ‹_›, rfl⟩
  · obtain ⟨hr, ht⟩ := endResolution_keeps s.clearForeground .consistChanged
    exact ⟨(settled_endQuery h ‹_› _).toMatched, by rw [hr]; rfl, by rw [ht]; rfl⟩

/-- With no remote work waiting, none is abandoned. -/
theorem abandon_taken (h : (errand s).Taken) : s.abandonChange = s ∧ s.abandonForeground = s :=
  ⟨abandonChange_of_none h.change, abandonForeground_of_none h.query⟩

/-- Entry into ROLLING or DEGRADED leaves nothing waiting (R32, R114, R129). -/
theorem settled_reportUnsettled (h : (errand s).Matched) : (errand s.reportUnsettled).Settled := by
  obtain ⟨hc, hcn⟩ := matched_abandonChange (s := s.setRemainder []) h
  obtain ⟨hf, hfn, hft⟩ := matched_abandonForeground hc
  rw [State.reportUnsettled, errand_bindingsUnsettled]
  refine ⟨hf, fun hw => ?_⟩
  have hcn' : (errand (s.setRemainder []).abandonChange.abandonForeground).change = none := by
    rw [← hcn, ← hft]
    rfl
  have hfn' : (errand (s.setRemainder []).abandonChange.abandonForeground).resolver.query = none := hfn
  rw [hcn', hfn'] at hw
  simp at hw

theorem errand_reportUnsettled (h : (errand s).Taken) : errand s.reportUnsettled = errand s := by
  obtain ⟨hc, hf⟩ := abandon_taken (s := s.setRemainder []) h
  rw [State.reportUnsettled, hc, hf, errand_bindingsUnsettled, errand_setRemainder]

/-! ## Work that minds the errand -/

/-- The port invariant is kept, and so is the debt of a command that has been taken and not completed yet. -/
structure Minds (s t : State) : Prop where
  settled : (errand s).Settled → (errand t).Settled
  taken : (errand s).Taken → (errand t).Taken

theorem Minds.of_eq (h : errand t = errand s) : Minds s t := by
  constructor <;> rw [h] <;> exact id

theorem Minds.refl (s : State) : Minds s s :=
  .of_eq rfl

theorem Minds.trans (h : Minds s t) (k : Minds t u) : Minds s u :=
  ⟨k.settled ∘ h.settled, k.taken ∘ h.taken⟩

/-- A change of the consist state, and the work behind it of an entry into ROLLING or DEGRADED. -/
theorem minds_unsettled {c : ConsistState} (h : errand t = { errand s with consist := c }) : Minds s t.reportUnsettled := by
  refine ⟨fun hs => settled_reportUnsettled (by rw [h]; exact hs.toMatched.in_consist c), fun ht => ?_⟩
  have ht' : (errand t).Taken := by rw [h]; exact ht.in_consist c
  rw [errand_reportUnsettled ht']
  exact ht'

theorem minds_enterRolling (s : State) : Minds s s.enterRolling :=
  minds_unsettled (c := .rolling) rfl

theorem minds_enterDegraded (s : State) : Minds s s.enterDegraded := by
  refine minds_unsettled (c := .degraded) ?_
  rw [errand_raise, errand_reportFault]
  rfl

theorem errand_originate (s : State) (e : LineEnd) : errand (s.originate e) = errand s := by
  have hr : (s.originate e).roll.state = s.roll.state := by rw [originate_roll]
  have hs : SameStores s (s.originate e) := by
    unfold State.originate
    exact (sameStores_setRoll s _).trans ((sameStores_offerCtrl _ _ _).trans (sameStores_setRoll _ _))
  exact errand_of_sameStores hs hr

theorem minds_startRolling (s : State) : Minds s s.startRolling := by
  unfold State.startRolling
  split
  · exact .of_eq rfl
  · exact minds_enterRolling s

/-! ## Adoption and trigger -/

theorem errand_adoptHead (s : State) (r : List RosterEntry) (x : Epoch) (f : Option (LineEnd × Frame)) :
    errand (adoptHead s r x f) = { errand s with consist := .formed } := by
  have hs := sameStores_adoptHead s r x f
  have hr : (adoptHead s r x f).roll.state = (s.setRoll { s.roll with state := .formed }).roll.state := by
    rw [← (serves_adopt s r x f).train.roll, State.adopt_roll, State.setRoll_roll]
  exact errand_of_sameStores (s := s.setRoll { s.roll with state := .formed }) ⟨hs.dir, hs.traffic, hs.resolver, hs.bindings,
    hs.port, hs.ctrl, hs.mask, hs.disp, hs.changed⟩ hr

/-- An adoption completes the command that waits, and nothing waits any more (R49, R114, R129). -/
theorem minds_adopt (s : State) (r : List RosterEntry) (x : Epoch) (f : Option (LineEnd × Frame)) : Minds s (s.adopt r x f) := by
  have hhead := errand_adoptHead s r x f
  have hformed : (errand (s.adopt r x f)).consist = .formed := by
    rw [errand_consist, State.adopt_roll]
  have htail : errand (s.adopt r x f) = errand (adoptHead s r x f).purge.trafficAdopt.abandonForeground := by
    rw [adopt_eq, errand_eitherOrder, errand_bindingsAdopt, State.burstStart, errand_burstFrom]
  refine ⟨fun h => ⟨?_, fun _ => hformed⟩, fun h => ?_⟩
  · rw [htail]
    have hm : (errand (adoptHead s r x f).purge).Matched := by
      change (errand (adoptHead s r x f)).Matched
      rw [hhead]
      exact h.toMatched.in_consist _
    exact (matched_abandonForeground (s := (adoptHead s r x f).purge.trafficAdopt) (matched_abandonChange hm).1).1
  · have ht : (errand (adoptHead s r x f).purge).Taken := by
      change (errand (adoptHead s r x f)).Taken
      rw [hhead]
      exact h.in_consist _
    have hadopt : errand (adoptHead s r x f).purge.trafficAdopt = errand (adoptHead s r x f).purge := by
      rw [State.trafficAdopt, (abandon_taken ht).1]
      rfl
    rw [htail, (abandon_taken (by rw [hadopt]; exact ht)).2, hadopt]
    exact ht

theorem minds_trigger (s : State) : Minds s s.trigger := by
  rcases trigger_cases s with ⟨-, -, h⟩ | ⟨e, -, -, h⟩ | ⟨-, -, h⟩ <;> rw [h]
  · exact minds_adopt s _ _ _
  · exact (minds_startRolling s).trans (.of_eq (errand_originate _ e))
  · refine (minds_startRolling s).trans (.of_eq ?_)
    rw [State.sendCalls, errand_offerCtrl, errand_offerCtrl]

/-! ## Line ends -/

theorem errand_moveEnd (s : State) (e : LineEnd) (f : LineEndSt → LineEndSt) : errand (s.moveEnd e f) = errand s := by
  unfold State.moveEnd
  dsimp only
  split
  · exact errand_setEnd s e _
  · rw [errand_raise, errand_setEnd]

theorem minds_changeEnd (s : State) (e : LineEnd) (f : LineEndSt → LineEndSt) : Minds s (s.changeEnd e f) := by
  rcases changeEnd_cases s e f with ⟨-, h⟩ | h <;> rw [h]
  · exact .of_eq (errand_moveEnd s e f)
  · exact (Minds.of_eq (errand_moveEnd s e f)).trans (minds_trigger _)

theorem minds_isolateEnd (s : State) (e : LineEnd) : Minds s (s.isolateEnd e) := by
  unfold State.isolateEnd
  split
  · exact .of_eq (errand_updEnd s e _)
  · exact .refl s
  all_goals exact minds_changeEnd s e _

theorem minds_reportEndFault (s : State) (k : FaultKind) (e : LineEnd) : Minds s (s.reportEndFault k e) := by
  unfold State.reportEndFault
  split
  · exact .refl s
  · exact .of_eq rfl
  · exact (minds_isolateEnd s e).trans (.of_eq (errand_raiseBeside _ _ _ _))

theorem minds_loseEnd (s : State) (e : LineEnd) (f : LineEndSt → LineEndSt) : Minds s (s.loseEnd e f) := by
  have hflap (u : State) : Minds u (u.flapRise e) := by
    unfold State.flapRise
    dsimp only
    split
    · exact (Minds.of_eq (errand_updEnd u e _)).trans (minds_reportEndFault _ _ _)
    · exact .of_eq (errand_updEnd u e _)
  unfold State.loseEnd
  dsimp only
  split
  · exact (minds_changeEnd s e f).trans (hflap _)
  · exact minds_changeEnd s e f

theorem minds_barEnd (s : State) (e : LineEnd) : Minds s (s.barEnd e) := by
  unfold State.barEnd
  split
  · exact minds_changeEnd s e _
  · exact .of_eq (errand_updEnd s e _)
  all_goals exact .refl s

theorem minds_restoreEnd (s : State) (e : LineEnd) : Minds s (s.restoreEnd e) := by
  unfold State.restoreEnd
  split
  · exact minds_changeEnd s e _
  all_goals exact .of_eq (errand_updEnd s e _)

theorem minds_enterReady (s : State) : Minds s s.enterReady := by
  unfold State.enterReady
  exact (Minds.of_eq (by rw [errand_updEnds, errand_setCtrl])).trans (minds_trigger _)

theorem minds_wake (s : State) (c : Cause) : Minds s (s.wake c) :=
  (minds_enterReady s).trans (.of_eq (errand_raiseBeside _ _ _ _))

end Sys2Proof.Machine.TrafficProofs
end

section
/-! Frames, timers and inputs: each keeps the port invariant (R112 to R114, R126 to R129, R161). -/

namespace Sys2Proof.Machine.TrafficProofs

open RollCallProofs TrainProofs RecordProofs

variable {s : State}

/-! ## The roll call -/

theorem minds_takeCall (s : State) (e : LineEnd) (f : Frame) : Minds s (s.takeCall e f) := by
  have hraise : Minds s (s.raiseE f.hdr.epoch) := .of_eq rfl
  have hoffer (u : State) : Minds u (u.offerCtrl e.other f) := .of_eq (errand_offerCtrl u _ _)
  have horig (u : State) : Minds u (u.originate e) := .of_eq (errand_originate u e)
  unfold State.takeCall
  split
  · unfold State.callAtIntermediate
    refine hraise.trans ?_
    dsimp only
    split
    · exact (hoffer _).trans (minds_enterRolling _)
    · exact hoffer _
    · split
      · exact hoffer _
      · exact .refl _
    · exact .refl _
  · unfold State.callAtTerminal
    refine hraise.trans ?_
    dsimp only
    split
    · exact (minds_enterRolling _).trans (horig _)
    · exact horig _
    · split
      · exact horig _
      · exact .refl _
    · exact .refl _
  · exact .refl s

theorem errand_restart (s : State) : errand (s.setRoll s.roll.restart) = errand s :=
  errand_of_sameStores (sameStores_setRoll s _) (by rw [State.setRoll_roll, restart_fields])

theorem minds_rollExpiry (s : State) : Minds s s.rollExpiry := by
  have hretry (u : State) : Minds u u.retryRoll := by
    unfold State.retryRoll
    split
    · exact .of_eq (errand_originate u _)
    all_goals exact .of_eq (errand_restart u)
  unfold State.rollExpiry
  split
  · exact .refl s
  · split
    · refine Minds.trans (t := s.setRoll { s.roll with attempts := s.roll.attempts + 1 }) (.of_eq rfl) ?_
      dsimp only
      split
      · exact minds_enterDegraded _
      · exact hretry _
    · exact hretry s
    all_goals exact .refl s

theorem minds_takeRoll (s : State) (e : LineEnd) (f : Frame) (es : List CarEntry) : Minds s (s.takeRoll e f es) := by
  have haccept : Minds s (s.acceptRoll f.hdr.epoch) := by
    refine Minds.trans (t := s.setRoll { s.roll with epoch := f.hdr.epoch }) (.of_eq rfl) ?_
    unfold State.acceptRoll
    dsimp only
    split
    · exact minds_enterRolling _
    · exact .refl _
  unfold State.takeRoll
  split
  · exact .refl s
  · split
    · exact .refl s
    · refine haccept.trans ?_
      dsimp only
      split
      · exact minds_reportEndFault _ _ _
      · split
        · exact (minds_barEnd _ e).trans (.of_eq (errand_reportFault _ _))
        · split
          · refine .of_eq ?_
            rw [State.appendRoll, errand_restart, errand_offerCtrl]
          all_goals
            unfold State.completeRoll
            exact minds_adopt _ _ _ _

theorem minds_takeRoster (s : State) (e : LineEnd) (f : Frame) (es : List CarEntry) : Minds s (s.takeRoster e f es) := by
  unfold State.takeRoster
  dsimp only
  split
  · exact .refl s
  · split
    · exact minds_trigger s
    · split
      · split
        · exact .refl s
        · exact minds_trigger s
      · exact minds_adopt s _ _ _

/-- D and the cab conflict flag computed again do not bear on the errand, nor do the bindings re-resolved with them. -/
theorem errand_recomputeDirection (s : State) : errand s.recomputeDirection = errand s := by
  have hcabs : errand s.recomputeCabs = errand s :=
    errand_of_sameStores (sameStores_recomputeCabs s) (by rw [State.recomputeCabs_roll])
  unfold State.recomputeDirection
  dsimp only
  split
  · exact hcabs
  · rw [errand_reResolveAll, ← hcabs]
    rfl

theorem errand_ownCabChanged (s : State) : errand s.ownCabChanged = errand s := by
  unfold State.ownCabChanged
  split
  · rw [State.sendSteer, errand_offerCtrl, errand_offerCtrl, errand_recomputeDirection, errand_setConsist]
  all_goals rfl

theorem errand_takeSteer (s : State) (e : LineEnd) (f : Frame) (cab : Byte) : errand (s.takeSteer e f cab) = errand s := by
  unfold State.takeSteer
  split
  · dsimp only
    split
    · rw [errand_offerCtrl, errand_recomputeDirection, errand_setConsist]
    · rw [errand_recomputeDirection, errand_setConsist]
  · rfl

/-! ## Directory frames -/

theorem errand_takeBroadcast (s : State) (e : LineEnd) (f : Frame) {here : State → State}
    (hh : ∀ u, errand (here u) = errand u) : errand (s.takeBroadcast e f here) = errand s := by
  unfold State.takeBroadcast
  split
  · rw [errand_eitherOrder, State.passOn]
    split
    · rw [errand_offerDir, hh]
    · exact hh s
  · rfl

theorem settled_takeUnicast (h : (errand s).Settled) (e : LineEnd) (f : Frame) {here : State → State}
    (hh : (errand (here s)).Settled) : (errand (s.takeUnicast e f here)).Settled := by
  unfold State.takeUnicast
  split
  · exact h
  · split
    · exact h
    · split
      · exact hh
      · split
        · split
          · exact h
          · split
            · rw [errand_offerDir]; exact h
            · exact h
        · exact h

theorem errand_answerQuery (s : State) (f : Frame) (id : Byte) (t : Tag) : errand (s.answerQuery f id t) = errand s := by
  unfold State.answerQuery
  split
  · exact errand_sendUnicast s _ _
  · rfl

/-- A foreground query answered: the bodies are stored, and its command completes (R128). -/
theorem settled_answerForeground (h : (errand s).Settled) {q : ForegroundQuery} (hq : s.resolver.query = some q)
    (bs : List RecordBody) : (errand (s.answerForeground q bs)).Settled := by
  have howed (u : State) (hu : errand u = errand s) : (errand u.clearForeground).Owed := by
    have hm : (errand u).Matched := by rw [hu]; exact h.toMatched
    have hqu : (errand u).resolver.query = some q := by rw [hu]; exact hq
    exact hm.cleared hqu
  unfold State.answerForeground
  dsimp only
  generalize preferred _ _ _ = l
  have ho := howed (if l.length ≤ 1 then s.storeAnswer q.target bs
    else { s.storeAnswer q.target bs with freeCount := (s.storeAnswer q.target bs).freeCount + 1 }) (by
      split <;> exact errand_storeAnswer s q.target bs)
  split
  · exact settled_endResolution (by rw [errand_use]; exact ho) _
  · exact settled_endResolution ho _

/-- A binding that the background query gives up is no matter of the command in flight (R148). -/
theorem errand_givenUp {i : Nat} {b : Binding} (hb : s.abandonBackground.binding i = some b) (st : BindState) (x : Bool) :
    errand (s.abandonBackground.takeContents i b st x).startBackground = errand s := by
  rw [errand_startBackground, errand_takeContents hb, errand_abandonBackground]

theorem errand_answerBackground (s : State) (q : BackgroundQuery) (bs : List RecordBody) :
    errand (s.answerBackground q bs) = errand s := by
  unfold State.answerBackground
  dsimp only
  rw [← errand_storeAnswer s q.target bs]
  split
  · rfl
  · split
    · exact errand_givenUp ‹_› _ _
    · rw [errand_startBackground, errand_abandonBackground]

theorem errand_backgroundTimeout (s : State) (q : BackgroundQuery) : errand (s.backgroundTimeout q) = errand s := by
  unfold State.backgroundTimeout
  dsimp only
  split
  · exact errand_givenUp ‹_› _ _
  · rw [errand_startBackground, errand_abandonBackground]

theorem settled_takeAnswer (h : (errand s).Settled) (f : Frame) (id : Byte) (bs : List RecordBody) :
    (errand (s.takeAnswer f id bs)).Settled := by
  have hback (u : State) (hu : (errand u).Settled) : (errand (match u.bindings.query with
      | some q => if q.id = id ∧ q.target = f.hdr.src then u.answerBackground q bs else u
      | none => u)).Settled := by
    split
    · split
      · rw [errand_answerBackground]; exact hu
      · exact hu
    · exact hu
  unfold State.takeAnswer
  dsimp only
  split
  · split
    · exact settled_answerForeground h ‹_› bs
    · exact hback s h
  · exact hback s h

theorem errand_takeChangeReq (s : State) (f : Frame) (id : Byte) (t : Tag) (side desired : Byte) :
    errand (s.takeChangeReq f id t side desired) = errand s := by
  have hdecide (sd : Side) (x : RecState) : errand (s.decideRequest f id t sd x) = errand s := by
    have hd := errand_decideChange s t sd x
    unfold State.decideRequest
    generalize s.decideChange t sd x = y at hd ⊢
    obtain ⟨u, o, rev⟩ := y
    dsimp only at hd ⊢
    rw [State.sendReply, errand_sendUnicast, ← hd]
    split
    · exact errand_raiseBeside u _ _ _
    · rfl
  unfold State.takeChangeReq
  split
  · split
    · split
      · rw [State.sendReply, errand_sendUnicast]
      · exact hdecide _ _
    · rfl
  · rfl

/-- A CHANGE_REPLY ends the change request it answers, and its command (R113). -/
theorem settled_takeChangeReply (h : (errand s).Settled) (f : Frame) (id o : Byte) (rev : Half) :
    (errand (s.takeChangeReply f id o rev)).Settled := by
  unfold State.takeChangeReply
  split
  · split
    · exact settled_endChange h.toMatched ‹_› _ _ _
    · exact h
  · exact h

/-! ## Reception and transmission -/

theorem minds_countLock (s : State) (e : LineEnd) : Minds s (s.countLock e) := by
  unfold State.countLock
  split
  · exact minds_changeEnd s e _
  · exact .of_eq (errand_updEnd s e _)

theorem settled_receive (h : (errand s).Settled) (e : LineEnd) {hand : State → State}
    (hh : ∀ u, (errand u).Settled → (errand (hand u)).Settled) : (errand (s.receive e hand)).Settled := by
  have hheard : (errand (s.updEnd e LineEndSt.heard)).Settled := by rw [errand_updEnd]; exact h
  unfold State.receive
  split
  · exact (minds_countLock s e).settled h
  · exact hh _ hheard
  · exact hheard
  all_goals exact h

theorem minds_receiveBeacon (s : State) (e : LineEnd) (n : Neighbour) : Minds s (s.receiveBeacon e n) := by
  unfold State.receiveBeacon
  split
  · exact (Minds.of_eq (errand_updEnd s e _)).trans (minds_countLock _ e)
  · dsimp only
    split
    · exact (minds_changeEnd s e _).trans (minds_trigger _)
    · exact minds_changeEnd s e _
  · exact minds_changeEnd s e _
  all_goals exact .refl s

theorem errand_receiveInvalid (s : State) (e : LineEnd) : errand (s.receiveInvalid e) = errand s := by
  unfold State.receiveInvalid
  split
  · exact errand_updEnd s e _
  all_goals rfl

theorem settled_receiveFrame (h : (errand s).Settled) (e : LineEnd) (f : Frame) : (errand (s.receiveFrame e f)).Settled := by
  unfold State.receiveFrame
  split
  · split
    case h_1 => exact (minds_receiveBeacon s e _).settled h
    case h_2 => exact settled_receive h e fun u => (minds_takeCall u e f).settled
    case h_3 => exact settled_receive h e fun u => (minds_takeRoll u e f _).settled
    case h_4 => exact settled_receive h e fun u => (minds_takeRoster u e f _).settled
    case h_5 => exact settled_receive h e fun u => (Minds.of_eq (errand_takeSteer u e f _)).settled
    case h_6 =>
      exact settled_receive h e fun u => (Minds.of_eq (errand_takeBroadcast u e f fun v => errand_takePublished v _ _)).settled
    case h_7 =>
      exact settled_receive h e fun u => (Minds.of_eq (errand_takeBroadcast u e f fun v => errand_takeWithdrawn v _ _ _)).settled
    case h_8 =>
      exact settled_receive h e fun u hu => settled_takeUnicast hu e f ((Minds.of_eq (errand_answerQuery u f _ _)).settled hu)
    case h_9 => exact settled_receive h e fun u hu => settled_takeUnicast hu e f (settled_takeAnswer hu f _ _)
    case h_10 =>
      exact settled_receive h e fun u hu => settled_takeUnicast hu e f ((Minds.of_eq (errand_takeChangeReq u f _ _ _ _)).settled hu)
    case h_11 => exact settled_receive h e fun u hu => settled_takeUnicast hu e f (settled_takeChangeReply hu f _ _ _)
  · rw [errand_receiveInvalid]; exact h

theorem errand_startTransmit (s : State) (e : LineEnd) : errand (s.startTransmit e) = errand s := by
  unfold State.startTransmit
  dsimp only
  split
  · split
    · exact errand_setEnd s e _
    · split
      · rw [errand_burstContinue, errand_setEnd]
      · exact errand_setEnd s e _
    · exact errand_setEnd s e _
  · rfl

/-! ## Timers and inputs -/

/-- The change request's timer restarted, or the request given up (R112). -/
theorem settled_changeTimeout (h : (errand s).Settled) {c : ChangeRequest} (hc : s.traffic.change = some c) :
    (errand (s.changeTimeout c)).Settled := by
  unfold State.changeTimeout
  split
  · rw [State.sendChangeReq, errand_sendUnicast]
    have hb := h.busy
    have hi := h.idle
    have hf := h.formed
    simp only [errand, hc] at hb hi hf
    exact ⟨⟨⟨h.inFlight, h.status, h.buffer, h.one, h.timer, rfl⟩, hb, fun hn => by simpa using (hi hn).2, h.free⟩,
      fun _ => hf (.inr rfl)⟩
  · exact settled_endChange h.toMatched hc _ _ _

/-- The foreground query's timer restarted, or the query given up (R127). -/
theorem settled_foregroundTimeout (h : (errand s).Settled) {q : ForegroundQuery} (hq : s.resolver.query = some q) :
    (errand (s.foregroundTimeout q)).Settled := by
  unfold State.foregroundTimeout
  split
  · rw [State.resendQuery, errand_sendUnicast]
    have hb := h.busy
    have hi := h.idle
    have hf := h.formed
    simp only [errand, hq] at hb hi hf
    exact ⟨⟨⟨h.inFlight, h.status, h.buffer, h.one, rfl, h.changeT⟩, hb, fun hn => by simpa using (hi hn).1, fun hn => by cases hn⟩,
      fun _ => hf (.inl rfl)⟩
  · exact settled_endQuery h.toMatched hq _

theorem errand_backgroundExpiry (s : State) (q : BackgroundQuery) : errand (s.backgroundExpiry q) = errand s := by
  unfold State.backgroundExpiry
  split
  · rw [State.resendQuery, errand_sendUnicast]
    rfl
  · exact errand_backgroundTimeout s q

theorem minds_contactClosed (s : State) (e : LineEnd) : Minds s (s.contactClosed e) := by
  unfold State.contactClosed
  refine Minds.trans (t := s.updEnd e fun l => { l with contact := true }) (.of_eq (errand_updEnd s e _)) ?_
  dsimp only
  split
  · exact minds_changeEnd _ e _
  · split
    · exact minds_wake _ _
    · exact .refl _
  all_goals exact .refl _

theorem minds_contactOpened (s : State) (e : LineEnd) : Minds s (s.contactOpened e) := by
  unfold State.contactOpened
  refine Minds.trans (t := s.updEnd e fun l => { l with contact := false }) (.of_eq (errand_updEnd s e _)) ?_
  dsimp only
  split
  · exact minds_changeEnd _ e _
  · exact minds_loseEnd _ e _
  · exact minds_loseEnd _ e _
  · exact minds_loseEnd _ e _
  all_goals exact .refl _

/-- The port reset ends the command in flight without an outcome: nothing waits, and no handle is reserved (R161). -/
theorem settled_portReset (h : (errand s).Settled) : (errand s.portReset).Settled := by
  have hempty {u : State} (hq : u.resolver = ⟨none, .stopped⟩) (hc : u.traffic.change = none) (ht : u.traffic.changeT = .stopped)
      (hr : reservedCount u = 0) : (errand (u.setPort ⟨.empty, [], none, none, false, true⟩)).Settled := by
    have he : errand (u.setPort ⟨.empty, [], none, none, false, true⟩) =
        ⟨⟨.empty, [], none, none, false, true⟩, ⟨none, .stopped⟩, none, .stopped, 0, u.roll.state⟩ := by
      rw [errand, State.setPort_traffic, State.setPort_resolver, hq, hc, ht, ← hr]
      rfl
    rw [he]
    exact ⟨⟨⟨rfl, rfl, rfl, Nat.zero_le 1, rfl, rfl⟩, fun hs => (by cases hs), fun _ => ⟨rfl, rfl⟩, fun _ => rfl⟩,
      fun hw => by simp at hw⟩
  unfold State.portReset
  dsimp only
  split
  · unfold State.abandonCommand
    dsimp only
    split
    · rename_i i hi
      obtain ⟨his, hr⟩ := State.firstSlot_some hi
      refine hempty rfl rfl rfl ?_
      have hc := reservedCount_setSlot (s := s.clearForeground.clearChange) his .free
      rw [hr] at hc
      have hone : reservedCount s.clearForeground.clearChange ≤ 1 := h.one
      simp only [if_true, show HandleSlot.free.isReserved = false from rfl] at hc
      simp at hc
      omega
    · exact hempty rfl rfl rfl (reservedCount_eq_zero ‹_›)
  · rename_i hn
    have hidle : s.port.state ≠ .inFlight := by
      have hi := h.inFlight
      rw [show (errand s).port.inFlight = _ from hn] at hi
      exact of_decide_eq_false hi.symm
    obtain ⟨hq, hc⟩ := h.idle hidle
    have ht := h.timer
    have hct := h.changeT
    rw [hq] at ht
    rw [hc] at hct
    exact hempty (congrArg₂ Resolver.mk hq ht) hc hct (h.free hq)

end Sys2Proof.Machine.TrafficProofs
end

section
/-! The commands of the host: a command taken is completed, or left waiting for another car, within its step. And with them every command. -/

namespace Sys2Proof.Machine.TrafficProofs

open RollCallProofs TrainProofs RecordProofs

variable {s t : State}

/-! ## Remote work started -/

/-- Another car is asked in FORMED alone (R124). -/
theorem search_ask_formed {q : Question} {i : Nat} {id : Ident} (h : s.search q = .ask i id) : s.roll.state = .formed := by
  have htarget (tg : Target) (ht : s.searchTarget q tg = .ask i id) : s.roll.state = .formed := by
    unfold State.searchTarget at ht
    split at ht
    · cases ht
    · split at ht
      · cases ht
      · split at ht
        · cases ht
        · split at ht
          · exact (‹_ ∧ _› : _ ∧ _).2
          · cases ht
  unfold State.search at h
  split at h
  · cases h
  · cases h
  · split at h <;> cases h
  · exact htarget _ h

/-- A question resolved completes its command or leaves it waiting for an ANSWER (R119 to R126). -/
theorem settled_resolve (h : (errand s).Owed) (q : Question) : (errand (s.resolve q)).Settled := by
  unfold State.resolve
  split
  case h_1 => exact settled_endResolution (by rw [errand_use]; exact h) _
  case h_5 t id hs =>
    unfold State.startForeground
    dsimp only
    have hf : (errand (s.freshQuery (s.bindings.query.map BackgroundQuery.id) t q.tag)).Owed := by
      rw [errand_freshQuery]; exact h
    have hroll : (s.freshQuery (s.bindings.query.map BackgroundQuery.id) t q.tag).roll.state = .formed := by
      rw [(State.rebinds_freshQuery _ _ _ _).roll]
      exact search_ask_formed hs
    generalize s.freshQuery (s.bindings.query.map BackgroundQuery.id) t q.tag = u at hf hroll ⊢
    have hc : u.traffic.change = none := hf.change
    refine ⟨⟨⟨hf.inFlight, hf.status, hf.buffer, hf.one, rfl, hf.changeT⟩, fun _ => ?_, fun hn => absurd hf.busy hn,
      fun hn => by cases hn⟩, fun _ => hroll⟩
    simp [errand, hc]
  all_goals exact settled_endResolution h _

/-- A REQUEST_STATE sent waits for a CHANGE_REPLY (R112). -/
theorem settled_sendRequest (h : (errand s).Taken) (hf : s.roll.state = .formed) (o : Ident) (i : Nat) (t : Tag) (sd : Side)
    (x : RecState) : (errand (s.sendRequest o i t sd x)).Settled := by
  rw [State.sendRequest, State.sendChangeReq, errand_sendUnicast]
  have hq : s.resolver.query = none := h.query
  refine ⟨⟨⟨h.inFlight, h.status, h.buffer, h.one, h.timer, rfl⟩, fun _ => ?_, fun hn => absurd h.busy hn, fun _ => h.free⟩,
    fun _ => hf⟩
  simp [errand, hq]

/-! ## The commands -/

/-- Work that minds the errand, and the command's completion. -/
theorem Minds.done (h : Minds s t) (ht : (errand s).Taken) (st : Status) : (errand (t.done st)).Settled :=
  settled_done (h.taken ht) st

theorem settled_done_of_eq (h : (errand s).Taken) (he : errand t = errand s) (st : Status) : (errand (t.done st)).Settled :=
  (Minds.of_eq he).done h st

theorem settled_gives_of_eq (h : (errand s).Taken) (he : errand t = errand s) (data : List Byte) :
    (errand (t.gives data)).Settled :=
  settled_gives ((Minds.of_eq he).taken h) data

theorem settled_ite_gives (h : (errand s).Taken) (b : Prop) [Decidable b] (data : List Byte) (x : Status) :
    (errand (if b then s.gives data else s.done x)).Settled := by
  split
  · exact settled_gives h data
  · exact settled_done h x

theorem settled_cmdIdentify (h : (errand s).Taken) (ps : List Byte) : (errand (s.cmdIdentify ps)).Settled := by
  unfold State.cmdIdentify
  split
  · exact settled_done h _
  · split
    · exact settled_done h _
    · exact settled_done h _
    · exact ((Minds.of_eq (errand_setCtrl s _)).trans (minds_enterReady _)).done h _

theorem settled_cmdSleep (h : (errand s).Taken) (ps : List Byte) : (errand (s.cmdSleep ps)).Settled := by
  unfold State.cmdSleep
  split
  · exact settled_done h _
  · split
    · exact settled_done_of_eq h (by rfl) _
    · exact settled_done h _

/-- The port keeps the status block of a PART_RESET, and the other blocks have no work waiting (R162). -/
theorem settled_resetBlocks (p : CarPort) (hi : p.inFlight.isSome = decide (p.state = .inFlight))
    (hs : p.status.isSome = decide (p.state = .ready)) (hb : p.rxBuffer = []) (hn : p.state ≠ .inFlight) (s : State) (c : Cause) :
    (errand ((s.resetBlocks c).setPort p)).Settled := by
  have hfree : reservedCount ((s.resetBlocks c).setPort p) = 0 := by
    rw [reservedCount, List.countP_eq_zero]
    intro i _
    change ¬(((Vector.replicate 32 HandleSlot.free)[i]?).getD .free).isReserved = true
    rw [Vector.getElem?_replicate]
    split <;> decide
  exact ⟨⟨⟨hi, hs, hb, hfree.trans_le (Nat.zero_le 1), rfl, rfl⟩, fun h => absurd h hn, fun _ => ⟨rfl, rfl⟩, fun _ => hfree⟩,
    fun h => h.elim (fun h => by cases h) fun h => by cases h⟩

theorem settled_cmdPartReset (h : (errand s).Taken) (ps : List Byte) : (errand (s.cmdPartReset ps)).Settled := by
  unfold State.cmdPartReset
  split
  · have hd := settled_done h .success
    have hready : (s.done .success).port.state ≠ .inFlight := show PortState.ready ≠ .inFlight by decide
    exact settled_resetBlocks (s.done .success).port hd.inFlight hd.status hd.buffer hready (s.done .success) .partReset
  · exact settled_done h _

theorem settled_cmdLineIsolate (h : (errand s).Taken) (ps : List Byte) : (errand (s.cmdLineIsolate ps)).Settled := by
  unfold State.cmdLineIsolate
  split
  · exact settled_done h _
  · exact (minds_isolateEnd s _).done h _

theorem settled_cmdLineRestore (h : (errand s).Taken) (ps : List Byte) : (errand (s.cmdLineRestore ps)).Settled := by
  unfold State.cmdLineRestore
  split
  · exact settled_done h _
  · exact (minds_restoreEnd s _).done h _

theorem settled_cmdLineUnbar (h : (errand s).Taken) (ps : List Byte) : (errand (s.cmdLineUnbar ps)).Settled := by
  unfold State.cmdLineUnbar
  split
  · exact settled_done h _
  · split
    · exact ((Minds.of_eq (errand_moveEnd s _ _)).trans (minds_trigger _)).done h _
    · exact settled_done h _

theorem settled_cmdRollCall (h : (errand s).Taken) (ps : List Byte) : (errand (s.cmdRollCall ps)).Settled := by
  unfold State.cmdRollCall
  split
  · exact settled_done h _
  · split
    · exact settled_done h _
    all_goals exact (minds_trigger s).done h _

theorem settled_cmdRecordOffer (h : (errand s).Taken) (ps : List Byte) : (errand (s.cmdRecordOffer ps)).Settled := by
  unfold State.cmdRecordOffer
  split
  · exact settled_done h _
  · split
    · exact settled_done h _
    · split
      · exact settled_done h _
      · split
        · exact settled_done h _
        · dsimp only
          split
          · exact settled_gives_of_eq h (by rw [errand_homeChanged, errand_setDir, errand_makeRoom]) _
          · exact settled_done_of_eq h (errand_makeRoom s) _

theorem settled_cmdRecordUpdate (h : (errand s).Taken) (ps : List Byte) : (errand (s.cmdRecordUpdate ps)).Settled := by
  unfold State.cmdRecordUpdate
  split
  · exact settled_done h _
  · split
    · exact settled_done h _
    · split
      · exact settled_done h _
      · exact settled_gives_of_eq h (errand_changeHome s _ _) _

theorem settled_cmdRecordWithdraw (h : (errand s).Taken) (ps : List Byte) : (errand (s.cmdRecordWithdraw ps)).Settled := by
  unfold State.cmdRecordWithdraw
  split
  · exact settled_done h _
  · split
    · exact settled_done h _
    · split
      · exact settled_done h _
      · exact settled_done_of_eq h (by rw [errand_homeChanged, errand_setDir]) _

theorem settled_cmdRequestState (h : (errand s).Taken) (ps : List Byte) : (errand (s.cmdRequestState ps)).Settled := by
  unfold State.cmdRequestState
  split
  · exact settled_done h _
  · split
    · exact settled_done h _
    · rename_i hf
      split
      · exact settled_done h _
      · split
        · exact settled_complete ((Minds.of_eq (errand_decideChange s _ _ _)).taken h) _ _ _
        · exact settled_sendRequest h (not_not.1 hf) _ _ _ _ _

theorem settled_cmdLookup (h : (errand s).Taken) (ps : List Byte) : (errand (s.cmdLookup ps)).Settled := by
  unfold State.cmdLookup
  split
  · exact settled_complete h _ _ _
  · exact settled_resolve h.toOwed _

theorem isReserved_of_isFree {x : HandleSlot} (hx : x.isFree = true) : x.isReserved = false := by
  cases x with
  | free => rfl
  | reserved | held => cases hx

/-- A BIND reserves a free handle, and its question is resolved (R137, R138). -/
theorem settled_cmdBind (h : (errand s).Taken) (ps : List Byte) : (errand (s.cmdBind ps)).Settled := by
  unfold State.cmdBind
  split
  · exact settled_done h _
  · rename_i q _
    split
    · exact settled_done h _
    · rename_i i hi
      obtain ⟨his, hf⟩ := State.firstSlot_some hi
      have hfree := isReserved_of_isFree hf
      have hc := reservedCount_setSlot (s := s) his (.reserved q)
      rw [hfree, show reservedCount s = 0 from h.free] at hc
      have hone : reservedCount (s.setSlot i (.reserved q)) ≤ 1 := Nat.le_of_eq hc
      exact settled_resolve (s := s.setSlot i (.reserved q))
        ⟨⟨h.inFlight, h.status, h.buffer, hone, h.timer, h.changeT⟩, h.busy, h.query, h.change⟩ q

theorem settled_cmdUnbind (h : (errand s).Taken) (ps : List Byte) : (errand (s.cmdUnbind ps)).Settled := by
  unfold State.cmdUnbind
  split
  · exact settled_done h _
  · split
    · exact settled_done h _
    · rename_i i _ _ b hb
      refine settled_done_of_eq h ?_ _
      have hfreed : errand ((s.setDir (s.dir.movePin (b.st.mirrorKey b.question.tag) none)).setSlot i .free) = errand s :=
        errand_setSlot_held (s := s.setDir (s.dir.movePin (b.st.mirrorKey b.question.tag) none)) hb rfl
      unfold State.release
      dsimp only
      split
      · rw [errand_startBackground, errand_abandonBackground, hfreed]
      · exact hfreed

theorem settled_cmdBindingGet (h : (errand s).Taken) (ps : List Byte) : (errand (s.cmdBindingGet ps)).Settled := by
  unfold State.cmdBindingGet
  split
  · exact settled_done h _
  · split
    · exact settled_done h _
    · exact settled_complete h _ _ _

theorem settled_cmdBindingScan (h : (errand s).Taken) (ps : List Byte) : (errand (s.cmdBindingScan ps)).Settled := by
  have hclear (u : State) (i : Nat) : errand (u.clearMark i) = errand u := by
    unfold State.clearMark
    split
    · exact errand_setSlot_held ‹_› rfl
    · rfl
  unfold State.cmdBindingScan
  split
  · exact settled_gives_of_eq h (errand_foldl hclear _ s) _
  · exact settled_done h _

theorem settled_cmdEventRead (h : (errand s).Taken) (ps : List Byte) : (errand (s.cmdEventRead ps)).Settled := by
  unfold State.cmdEventRead
  split
  · exact settled_done h _
  · split
    · exact settled_done h _
    · dsimp only
      split
      · exact settled_gives h _
      · exact settled_gives_of_eq h (errand_raise s _) _

theorem settled_cmdViewAck (h : (errand s).Taken) (ps : List Byte) : (errand (s.cmdViewAck ps)).Settled := by
  unfold State.cmdViewAck
  split
  · exact settled_done h _
  · split
    · exact settled_gives_of_eq h (errand_raise s _) _
    · exact settled_gives h _

/-- A command that has been taken is completed or left waiting (R158). -/
theorem settled_command (h : (errand s).Taken) (c : Cmd) (ps : List Byte) : (errand (s.command c ps)).Settled := by
  cases c
  case identify => exact settled_cmdIdentify h ps
  case getInfo | lineStatus | consistRead | recordList => exact settled_ite_gives h _ _ _
  case sleep => exact settled_cmdSleep h ps
  case partReset => exact settled_cmdPartReset h ps
  case lineIsolate => exact settled_cmdLineIsolate h ps
  case lineRestore => exact settled_cmdLineRestore h ps
  case lineUnbar => exact settled_cmdLineUnbar h ps
  case rollCall => exact settled_cmdRollCall h ps
  case recordOffer => exact settled_cmdRecordOffer h ps
  case recordUpdate => exact settled_cmdRecordUpdate h ps
  case recordWithdraw => exact settled_cmdRecordWithdraw h ps
  case requestState => exact settled_cmdRequestState h ps
  case lookup => exact settled_cmdLookup h ps
  case bind => exact settled_cmdBind h ps
  case unbind => exact settled_cmdUnbind h ps
  case bindingGet => exact settled_cmdBindingGet h ps
  case bindingScan => exact settled_cmdBindingScan h ps
  case eventRead => exact settled_cmdEventRead h ps
  case viewAck => exact settled_cmdViewAck h ps
  case interestAdd =>
    simp only [State.command, State.cmdInterestAdd]
    split
    · exact settled_done h _
    · exact settled_gives_of_eq h (errand_setDir s _) _
  case interestClear =>
    simp only [State.command, State.cmdInterestClear]
    split
    · exact settled_done_of_eq h (errand_setDir s _) _
    · exact settled_done h _
  case interestAll =>
    simp only [State.command, State.cmdInterestAll]
    split
    · exact settled_done h _
    · exact settled_done_of_eq h (errand_setDir s _) _
  case eventMask | dispositionSet =>
    simp only [State.command, State.cmdEventMask, State.cmdDispositionSet]
    split
    · exact settled_done h _
    · exact settled_done_of_eq h (errand_setAttn s _) _

/-! ## The port -/

/-- A block taken from a port without a command in flight, whatever its receive buffer holds: its outcome is owed (R157). -/
theorem taken_takeBlock (h : (errand s).Settled) (hn : s.port.state ≠ .inFlight) (bytes : List Byte) (c : InFlight) :
    (errand ((s.fillBuffer bytes).takeBlock c)).Taken := by
  obtain ⟨hq, hc⟩ := h.idle hn
  have ht : (errand ((s.fillBuffer bytes).setPort { (s.fillBuffer bytes).port with
      state := .inFlight, rxBuffer := [], inFlight := some c, status := none, overrun := false })).Taken :=
    ⟨⟨⟨rfl, rfl, rfl, h.one, h.timer, h.changeT⟩, rfl, hq, hc⟩, h.free hq⟩
  unfold State.takeBlock
  dsimp only
  split
  · exact (minds_wake _ _).taken ht
  all_goals exact ht

theorem settled_writeTransaction (h : (errand s).Settled) (bytes : List Byte) : (errand (s.writeTransaction bytes)).Settled := by
  have htake (b : BlockCheck) (hn : s.port.state ≠ .inFlight) :
      (errand (((s.fillBuffer bytes).takeBlock b.inFlight).judgeBlock b)).Settled := by
    have ht := taken_takeBlock h hn bytes b.inFlight
    cases b with
    | command c tag ps => exact settled_command ht c ps
    | _ => exact settled_done ht _
  unfold State.writeTransaction
  split
  · exact h
  · unfold State.releaseSelect
    split
    · exact ⟨⟨⟨h.inFlight, h.status, rfl, h.one, h.timer, h.changeT⟩, h.busy, h.idle, h.free⟩, h.formed⟩
    · split
      · exact ⟨⟨⟨h.inFlight, h.status, rfl, h.one, h.timer, h.changeT⟩, h.busy, h.idle, h.free⟩, h.formed⟩
      all_goals
        rename_i hs
        exact htake _ (by rw [show s.port.state = _ from hs]; decide)

/-! ## Every command -/

theorem errand_debounce (s : State) :
    errand (if s.consist.debounceT.isRunning then
      let t := s.setConsist { s.consist with cabLevel := s.consist.cabInput, debounceT := .stopped }
      if t.ownCab = s.ownCab then t else t.ownCabChanged
     else s) = errand s := by
  split
  · dsimp only
    split
    · rfl
    · rw [errand_ownCabChanged, errand_setConsist]
  · rfl

/-- A timer that is stopped does not expire. -/
theorem settled_ite (h : (errand s).Settled) (b : Bool) (ht : (errand t).Settled) : (errand (if b then t else s)).Settled := by
  split
  · exact ht
  · exact h

theorem exec_settled (c : Instr) (h : (errand s).Settled) : ∃ t, exec c s = .next t ∧ (errand t).Settled := by
  cases c
  case powerOn =>
    have hempty : PortState.empty ≠ .inFlight := by decide
    exact ⟨_, rfl, settled_resetBlocks { State.reset.port with resetInput := s.port.resetInput } rfl rfl rfl hempty s .powerOn⟩
  case portReset => exact ⟨_, rfl, settled_portReset h⟩
  case portResetRelease =>
    exact ⟨_, rfl, ⟨⟨⟨h.inFlight, h.status, h.buffer, h.one, h.timer, h.changeT⟩, h.busy, h.idle, h.free⟩, h.formed⟩⟩
  case contactClose e =>
    refine ⟨_, rfl, ?_⟩
    split
    · exact h
    · exact (minds_contactClosed s e).settled h
  case contactOpen e => exact ⟨_, rfl, settled_ite h _ ((minds_contactOpened s e).settled h)⟩
  case cabInputChange a =>
    refine ⟨_, rfl, ?_⟩
    split
    · exact h
    · rw [errand_setConsist]; exact h
  case debounceTimerExpiry => exact ⟨_, rfl, by rw [errand_debounce]; exact h⟩
  case releaseTimerExpiry e => exact ⟨_, rfl, settled_ite h _ ((minds_changeEnd s e _).settled h)⟩
  case settleTimerExpiry e => exact ⟨_, rfl, settled_ite h _ ((minds_changeEnd s e _).settled h)⟩
  case lossTimerExpiry e => exact ⟨_, rfl, settled_ite h _ ((minds_loseEnd s e _).settled h)⟩
  case beaconTimerExpiry e => exact ⟨_, rfl, settled_ite h _ (by rw [errand_updEnd]; exact h)⟩
  case leakTimerExpiry e => exact ⟨_, rfl, settled_ite h _ (by rw [errand_updEnd]; exact h)⟩
  case rollTimerExpiry => exact ⟨_, rfl, (minds_rollExpiry s).settled h⟩
  case refreshWindowExpiry => exact ⟨_, rfl, settled_ite h _ (by rw [errand_endRefresh]; exact h)⟩
  case changeRequestTimerExpiry =>
    refine ⟨_, rfl, ?_⟩
    split
    · exact settled_ite h _ (settled_changeTimeout h ‹_›)
    · exact h
  case queryTimerExpiry =>
    refine ⟨_, rfl, ?_⟩
    split
    · exact settled_ite h _ (settled_foregroundTimeout h ‹_›)
    · exact h
  case backgroundQueryTimerExpiry =>
    refine ⟨_, rfl, ?_⟩
    split
    · exact settled_ite h _ (by rw [errand_backgroundExpiry]; exact h)
    · exact h
  case frameTransmitStart e => exact ⟨_, rfl, by rw [errand_startTransmit]; exact h⟩
  case invalidFrame e => exact ⟨_, rfl, by rw [errand_receiveInvalid]; exact h⟩
  case beacon | call | roll | roster | steer | publish | withdraw | query | answer | changeReq | changeReply =>
    exact ⟨_, rfl, settled_receiveFrame h _ _⟩
  all_goals exact ⟨_, rfl, settled_writeTransaction h _⟩

/-- Settles O8: within a step a command taken, or one whose remote work ends, is owed an outcome; every command pays it before the step ends. -/
theorem everyStepKeepsOneCommandInFlight : Obligations.EveryStepKeepsOneCommandInFlight := by
  intro s t hp h
  have hs := (portInv_iff s).1 hp
  refine (portInv_iff t).2 ?_
  unfold step at h
  split at h
  · cases h
    exact hs
  · rename_i c rest _
    obtain ⟨u, hu, hset⟩ := exec_settled (s := { s with pending := rest }) c hs
    rw [hu] at h
    cases h
    exact hset

end Sys2Proof.Machine.TrafficProofs
end

section
/-! The directory frames at a part: unicasts forwarded and answered, the reply to a change request, and the port reset that ends the remote
work (R102, R108, R113, R114, R161). -/

namespace Sys2Proof.Machine.TrafficProofs

open RollCallProofs TrainProofs RecordProofs

variable {s : State} {e out : LineEnd} {h : Header}

/-! ## A unicast for another car -/

/-- A forwarding end is there for the roster indices of other cars alone (R69). -/
theorem forwardEnd_eq_some {c : ConsistTable} {t : Nat} (hc : c.forwardEnd t = some out) : t ≠ 0 ∧ t ≤ c.n ∧ t ≠ c.ownIdx := by
  unfold ConsistTable.forwardEnd at hc
  split at hc
  · cases hc
  · omega

theorem takeUnicast_forwarded {f : Frame} (hf : s.FromCar f.hdr) (hr : s.Reaches f.hdr.dst.toNat out) (hne : out ≠ e)
    (here : State → State) : s.takeUnicast e f here = s.queuedDir out f := by
  obtain ⟨hend, hl⟩ := hr
  obtain ⟨h0, hn, ho⟩ := forwardEnd_eq_some hend
  have hj : s.joined out = true := by simp [State.joined, hl]
  have hq : s.offerDir out f = s.queuedDir out f := by
    change s.setEnd out ((s.lineEnd out).offerDir f) = _
    rw [offerDir_eq, if_pos hl]
    rfl
  rw [State.takeUnicast, accepts_of_fromCar hf f.payload, if_neg (by simp), if_neg (by omega), if_neg ho, hend]
  dsimp only
  rw [if_neg hne, if_pos hj, hq]

theorem receive_forwarded {f : Frame} (hl : (s.lineEnd e).state = .locked) (hf : s.FromCar f.hdr)
    (hr : s.Reaches f.hdr.dst.toNat out) (hne : out ≠ e) (here : State → State) :
    (s.receive e fun s => s.takeUnicast e f here) = (s.heardOn e).queuedDir out f := by
  rw [receive_locked hl]
  exact takeUnicast_forwarded ((fromCar_heardOn e).2 hf) ((reaches_congr (heardOn_consist s e) (heardOn_state s e out)).2 hr) hne here

/-- Settles O47: each of the four unicast kinds is received by the same test of the destination, whatever is done with it there. -/
theorem unicastsForwarded : Obligations.UnicastsForwarded := by
  unfold Obligations.UnicastsForwarded
  intro s e out f hv hk hl hf _ hr hne
  have hsent : exec (f.toInstr e) s = .next (s.receiveFrame e f) := by
    obtain ⟨hdr, p⟩ := f
    cases p <;> rfl
  rw [hsent, State.receiveFrame, if_pos hv]
  split
  case h_8 | h_9 | h_10 | h_11 => rw [receive_forwarded hl hf hr hne]
  all_goals
    rename_i hp
    simp [hp, Payload.kind] at hk

/-! ## A QUERY at its destination -/

theorem exec_query (ha : Arrives s e h) {id : Byte} {g : Tag} (hg : tagLenOk g = true) :
    exec (.query e h id g) s = .next ((s.heardOn e).answerQuery ⟨h, .query id g⟩ id g) := by
  have hv : (⟨h, .query id g⟩ : Frame).valid = true := hg
  change Host.Outcome.next (s.receiveFrame e _) = _
  rw [State.receiveFrame, if_pos hv]
  exact congrArg Host.Outcome.next (receive_unicast ha _ _)

/-- Settles O49: the ANSWER holds the home records of the tag, read after the arrival end's loss timer alone has moved. -/
theorem queryAnswered : Obligations.QueryAnswered := by
  unfold Obligations.QueryAnswered
  refine ⟨?answered, ?discarded⟩
  case answered =>
    intro s e out h id g hg hl hf ho h0 hn hr
    rw [exec_query ⟨hl, hf, ho, h0, hn⟩ (tagLenOk_of_tagOk hg), State.answerQuery, if_pos (all_tagByteOk.2 hg.2.2),
      reply_queued (heardOn_consist s e) (heardOn_ctrl s e) (heardOn_state s e out) hr, heardOn_dir]
  case discarded =>
    intro s e h id g h1 h16 hg hl hf ho h0 hn
    have hbytes : ¬g.all tagByteOk = true := fun hb => hg ⟨h1, h16, all_tagByteOk.1 hb⟩
    rw [exec_query ⟨hl, hf, ho, h0, hn⟩ (by simp [tagLenOk, h1, h16]), State.answerQuery, if_neg hbytes]

/-! ## The reply to a change request -/

theorem exec_changeReply (ha : Arrives s e h) (id oc : Byte) (rev : Half) :
    exec (.changeReply e h id oc rev) s =
      .next ((s.heardOn e).takeChangeReply ⟨h, .changeReply id oc rev⟩ id oc rev) := by
  change Host.Outcome.next (s.receiveFrame e _) = _
  rw [State.receiveFrame, if_pos (by rfl)]
  exact congrArg Host.Outcome.next (receive_unicast ha _ _)

theorem takeChangeReply_answers {c : ChangeRequest} (hc : s.traffic.change = some c) (ho : c.owner = h.src) (p : Payload)
    (o : ChangeOutcome) (rev : Half) :
    s.takeChangeReply ⟨h, p⟩ c.id o.code rev = s.clearChange.complete o.status (be16 rev) false := by
  rw [State.takeChangeReply, hc, (ChangeOutcome.ofCode_eq_some _ o).2 rfl]
  exact if_pos ⟨rfl, ho⟩

/-- A reply whose code is no outcome's, or that answers no outstanding request, is discarded (R113). -/
theorem takeChangeReply_discarded {id oc : Byte}
    (hx : 2#8 < oc ∨ (s.traffic.change.all fun c => !(c.id == id && c.owner == h.src)) = true) (p : Payload) (rev : Half) :
    s.takeChangeReply ⟨h, p⟩ id oc rev = s := by
  unfold State.takeChangeReply
  split
  · rename_i c o hc ho
    refine if_neg fun hm => ?_
    rcases hx with hoc | hnone
    · rw [(ChangeOutcome.ofCode_eq_some oc o).1 ho] at hoc
      cases o <;> exact absurd hoc (by decide)
    · simp [hc, hm.1, hm.2] at hnone
  · rfl

/-- Settles O52: a reply that passes the tests of R113 completes the command in flight, any other leaves the part as it is. -/
theorem changeReplyReceived : Obligations.ChangeReplyReceived := by
  unfold Obligations.ChangeReplyReceived
  refine ⟨?answers, ?discarded⟩
  case answers =>
    intro s e h o rev c f hl hf ho h0 hn hc hs hp
    have hp' : (s.heardOn e).clearChange.port.inFlight = some f := by rw [State.clearChange, State.setTraffic_port, heardOn_port, hp]
    rw [exec_changeReply ⟨hl, hf, ho, h0, hn⟩, takeChangeReply_answers (by rw [heardOn_traffic, hc]) hs, complete_inFlight hp']
    cases e <;> cases o <;> rfl
  case discarded =>
    intro s e h id oc rev hl hf ho h0 hn hx
    rw [exec_changeReply ⟨hl, hf, ho, h0, hn⟩, takeChangeReply_discarded (by rw [heardOn_traffic]; exact hx)]

/-! ## The port reset -/

/-- The command in flight abandoned: its query, its change request and some handles are written, and nothing else. -/
theorem abandonCommand_writes (s : State) : ∃ hs, s.abandonCommand =
    { s with
      resolver := ⟨none, .stopped⟩
      traffic := { s.traffic with change := none, changeT := .stopped }
      bindings := { s.bindings with handles := hs } } := by
  unfold State.abandonCommand
  dsimp only
  split <;> exact ⟨_, rfl⟩

/-- The handle that a BIND had reserved is free again, and the others stand (R139). -/
theorem abandonCommand_slot (s : State) {i : Nat} (hi : i ∈ slots) :
    s.abandonCommand.slot i = if s.firstSlot HandleSlot.isReserved = some i then .free else s.slot i := by
  have hfirst : s.clearForeground.clearChange.firstSlot HandleSlot.isReserved = s.firstSlot HandleSlot.isReserved := rfl
  unfold State.abandonCommand
  dsimp only
  rw [hfirst]
  cases s.firstSlot HandleSlot.isReserved with
  | none => rfl
  | some j =>
    dsimp only
    by_cases hj : j = i
    · rw [hj, if_pos rfl, State.slot_setSlot_same _ _ _ (mem_slots.1 hi)]
    · rw [State.slot_setSlot_ne _ _ _ _ hj, if_neg fun h => hj (Option.some.inj h)]
      rfl

/-- Settles O25: the remote work of the command in flight is abandoned, and the port written last. -/
theorem portResetAndRelease : Obligations.PortResetAndRelease := by
  unfold Obligations.PortResetAndRelease
  refine ⟨?idle, ?busy, fun _ => rfl⟩
  case idle =>
    intro s hn
    change Host.Outcome.next s.portReset = _
    rw [State.portReset, hn]
    rfl
  case busy =>
    intro s hb
    obtain ⟨f, hf⟩ := Option.isSome_iff_exists.1 hb
    have hexec : exec .portReset s = .next (s.abandonCommand.setPort ⟨.empty, [], none, none, false, true⟩) := by
      change Host.Outcome.next s.portReset = _
      rw [State.portReset, hf]
    have hslots := fun i (hi : i ∈ slots) => abandonCommand_slot s hi
    obtain ⟨hs, habandon⟩ := abandonCommand_writes s
    rw [habandon] at hexec hslots
    exact ⟨_, hexec, rfl, rfl, rfl, rfl, rfl, hslots, rfl, rfl, rfl, rfl, rfl, rfl, rfl⟩

end Sys2Proof.Machine.TrafficProofs
end

section
/-! The two query timers: the QUERY sent again, and the command or the binding that gets NO_ANSWER (R127, R134, R148). -/

namespace Sys2Proof.Machine.TrafficProofs

open RollCallProofs TrainProofs RecordProofs

variable {s : State}

/-- A binding that rests on no record is stale by the consist alone (R136). -/
theorem staleOf_unresolved (s : State) (g : Tag) (r : Reason) :
    s.staleOf g (.unresolved r) = s.roll.state.unsettled := by
  cases hc : s.roll.state <;> rw [State.staleOf, hc] <;> rfl

/-! ## The foreground query -/

theorem exec_queryTimerExpiry {q : ForegroundQuery} (hq : s.resolver.query = some q) (ht : s.resolver.timer.isRunning = true) :
    exec .queryTimerExpiry s = .next (s.foregroundTimeout q) := by
  change execQueryTimerExpiry s = _
  rw [execQueryTimerExpiry, hq]
  dsimp only
  rw [if_pos ht]

theorem foregroundTimeout_last {q : ForegroundQuery} (ha : q.attempt = 2) :
    s.foregroundTimeout q = s.clearForeground.endResolution .noAnswer := by
  rw [State.foregroundTimeout, if_neg (by omega)]

/-- A BIND that ends UNRESOLVED writes its handle; no mirror's pin count moves (R139, R151). -/
theorem createBinding_unresolved (s : State) (i : Nat) (qu : Question) (r : Reason) :
    s.createBinding i qu (.unresolved r) =
      (s.setSlot i (.held ⟨qu, .unresolved r, s.roll.state.unsettled, false⟩)).complete .success
        ((s.setSlot i (.held ⟨qu, .unresolved r, s.roll.state.unsettled, false⟩)).bindingData i
          ⟨qu, .unresolved r, s.roll.state.unsettled, false⟩) s.roll.state.unsettled := by
  have hpin : s.setDir (s.dir.movePin none ((BindState.unresolved r).mirrorKey qu.tag)) = s := rfl
  rw [State.createBinding, hpin, staleOf_unresolved]

theorem endResolution_bind_noAnswer {i : Nat} {qu : Question} (hi : s.firstSlot HandleSlot.isReserved = some i)
    (hs : s.slot i = .reserved qu) : s.endResolution .noAnswer = s.createBinding i qu (.unresolved .noAnswer) := by
  rw [State.endResolution, hi]
  dsimp only
  rw [hs]
  rfl

/-- Settles O35: at attempt 1 the QUERY goes out again; at attempt 2 the resolution of the command in flight ends with NO_ANSWER. -/
theorem queryTimerExpires : Obligations.QueryTimerExpires := by
  unfold Obligations.QueryTimerExpires
  refine ⟨?again, ?lookup, ?bind⟩
  case again =>
    intro s q out hq ht ha hr
    have hr' : (s.setResolver { query := some { q with attempt := 2 }, timer := .running Config.queryMs }).Reaches q.index out := hr
    rw [exec_queryTimerExpiry hq ht, State.foregroundTimeout, if_pos ha, State.resendQuery, sendUnicast_reaches hr']
    rfl
  case lookup =>
    intro s q f hq ht ha hf hn
    have hn' : s.clearForeground.firstSlot HandleSlot.isReserved = none := hn
    have hf' : s.clearForeground.port.inFlight = some f := hf
    rw [exec_queryTimerExpiry hq ht, foregroundTimeout_last ha, endResolution_lookup hn', State.completeLookup, complete_inFlight hf']
    rfl
  case bind =>
    intro s q f i qu hq ht ha hf hi hs
    have hlt : i < Config.maxHandles := mem_slots.1 (State.firstSlot_some hi).1
    have hexec := exec_queryTimerExpiry hq ht
    rw [foregroundTimeout_last ha, endResolution_bind_noAnswer (s := s.clearForeground) hi hs, createBinding_unresolved,
      complete_inFlight (s := s.clearForeground.setSlot i _) hf] at hexec
    refine ⟨_, hexec, State.slot_setSlot_same s.clearForeground i _ hlt,
      fun j _ hj => State.slot_setSlot_ne s.clearForeground i j _ (Ne.symm hj), ⟨rfl, rfl, rfl, rfl⟩, rfl, rfl, rfl, rfl, rfl, rfl, rfl⟩

/-! ## The background query -/

theorem exec_backgroundQueryTimerExpiry {q : BackgroundQuery} (hq : s.bindings.query = some q)
    (ht : s.bindings.timer.isRunning = true) : exec .backgroundQueryTimerExpiry s = .next (s.backgroundExpiry q) := by
  change execBackgroundQueryTimerExpiry s = _
  rw [execBackgroundQueryTimerExpiry, hq]
  dsimp only
  rw [if_pos ht]

theorem backgroundTag_of_binding {q : BackgroundQuery} {b : Binding} (hb : s.binding q.slot = some b) :
    s.backgroundTag q = b.question.tag := by
  rw [State.backgroundTag, hb]

/-- A binding as the second expiry leaves it (R148, R150). -/
def givenUp (s : State) (b : Binding) : Binding :=
  { b with st := .unresolved .noAnswer, stale := s.roll.state.unsettled, changed := true }

/-- The part once the background query is abandoned and the binding it served given up, before another query starts (R148, R150). -/
def givenUpAt (s : State) (i : Nat) (b : Binding) : State :=
  (s.abandonBackground.setSlot i (.held (givenUp s b))).raise Events.raiseBindingChanged

theorem backgroundExpiry_last {q : BackgroundQuery} {b : Binding} (ha : q.attempt = 2) (hb : s.binding q.slot = some b)
    (hp : b.st = .pending) : s.backgroundExpiry q = (givenUpAt s q.slot b).startBackground := by
  have hb' : s.abandonBackground.binding q.slot = some b := hb
  rw [State.backgroundExpiry, if_neg (by omega), State.backgroundTimeout, hb']
  dsimp only
  rw [staleOf_unresolved, State.takeContents, hp, if_neg (by simp)]
  rfl

/-- With no binding PENDING no background query is started (R147). -/
theorem startBackground_of_none (h : ∀ i ∈ slots, (s.slot i).isPending = false) : s.startBackground = s := by
  have hn : s.firstSlot HandleSlot.isPending = none := by simpa [State.firstSlot, List.find?_eq_none] using h
  rw [State.startBackground, hn]
  exact ite_self s

theorem givenUpAt_slot {i : Nat} (hi : i ∈ slots) (b : Binding) (j : Nat) :
    (givenUpAt s i b).slot j = if i = j then .held (givenUp s b) else s.slot j :=
  State.slot_setSlot s.abandonBackground i j _ (mem_slots.1 hi)

/-- The binding given up was the last one PENDING. -/
theorem startBackground_givenUpAt {i : Nat} (hi : i ∈ slots) (b : Binding)
    (h : ∀ j ∈ slots, j ≠ i → (s.slot j).isPending = false) : (givenUpAt s i b).startBackground = givenUpAt s i b := by
  refine startBackground_of_none fun j hj => ?_
  rw [givenUpAt_slot hi]
  split
  · rfl
  · exact h j hj (Ne.symm ‹_›)

/-- Settles O36: at attempt 1 the QUERY goes out again; at attempt 2 the binding served is given up, and the next background query keeps
the handles, the events and the directory. -/
theorem backgroundQueryTimerExpires : Obligations.BackgroundQueryTimerExpires := by
  unfold Obligations.BackgroundQueryTimerExpires
  refine ⟨?again, ?last⟩
  case again =>
    intro s q b out hq ht ha hb hr
    have hr' : (s.setBindings { s.bindings with query := some { q with attempt := 2 }, timer := .running Config.queryMs }).Reaches
        q.index out := hr
    rw [exec_backgroundQueryTimerExpiry hq ht, State.backgroundExpiry, if_pos ha, backgroundTag_of_binding hb, State.resendQuery,
      sendUnicast_reaches hr']
    rfl
  case last =>
    intro s q b hq ht ha hb hp
    have hi : q.slot ∈ slots := slot_lt (binding_eq_some.1 hb)
    have hexec := exec_backgroundQueryTimerExpiry hq ht
    rw [backgroundExpiry_last ha hb hp] at hexec
    have hstart := sameHandles_startBackground (givenUpAt s q.slot b)
    have hrest := (givenUpAt s q.slot b).rebinds_startBackground
    refine ⟨_, hexec, ?_, fun j _ hj => ?_, ?_, (sameLedger_startBackground _).dir, hrest.roll, hrest.consist, hrest.port,
      fun hother => ?_⟩
    · rw [hstart.slot, givenUpAt_slot hi, if_pos rfl]
      rfl
    · rw [hstart.slot, givenUpAt_slot hi, if_neg (Ne.symm hj)]
    · rw [hstart.attn]
      rfl
    · rw [startBackground_givenUpAt hi b hother]
      exact ⟨rfl, rfl, rfl⟩

end Sys2Proof.Machine.TrafficProofs
end
